-- ==== Sys2Proof/Word.lean ====
section
/-! DEFINITION. The plain words of the model: bytes, 32-bit words and lists of bytes. -/

namespace Sys2Proof

/-- A byte. -/
abbrev Byte := BitVec 8

/-- A 32-bit register word. -/
abbrev Word := BitVec 32

/-- A run of bytes, first byte first. -/
abbrev Bytes := List (BitVec 8)

end Sys2Proof
end

