-- ==== Sys2Proof/Syntax.lean ====
section
/-! DEFINITION. The commands of the device: one constructor for each row of the opcode table, with the row's operands. A
host, link, timer or pin event and an instruction that a Chisel thread issues are all commands. -/

namespace Sys2Proof

/-- A hardware thread: engine and thread number (07_chisel_machine.md R137). -/
structure Thr where
  e : Fin 24
  t : Fin 4
  deriving DecidableEq, Repr

/-- What a port in IR mode samples on RXD (04_serial_ports.md R89): a level held for so many UCLK cycles from a cycle on, counted from a
sample tick. -/
structure IrPulse where
  high : Bool
  start : Nat
  len : Nat
  deriving DecidableEq, Repr

/-- What a port has sampled on RXD (04_serial_ports.md R75, R89): samples 7, 8 and 9 of each bit from the start bit on; in IR mode the pulses. -/
structure RxLine where
  samples : List (BitVec 3) := []
  pulses : List IrPulse := []
  deriving DecidableEq, Repr

/-- The same of a break, and how many ns ago its sample 0 was (R85). -/
structure RxBreak where
  line : RxLine
  ago : Nat
  deriving DecidableEq, Repr

/-- Operands of format CA (07_chisel_machine.md Table CHS-7). -/
structure OpsCA where
  rd : BitVec 4
  ra : BitVec 4
  rb : BitVec 4
  deriving DecidableEq, Repr

/-- Operands of format CB. -/
structure OpsCB where
  rd : BitVec 4
  ra : BitVec 4
  imm : BitVec 16
  deriving DecidableEq, Repr

/-- Operands of format CC. -/
structure OpsCC where
  rd : BitVec 4
  ra : BitVec 4
  width : BitVec 6
  ofs : BitVec 8
  deriving DecidableEq, Repr

/-- Operands of format CD. -/
structure OpsCD where
  cond : BitVec 4
  ra : BitVec 4
  disp : BitVec 18
  deriving DecidableEq, Repr

/-- Operands of format CE. -/
structure OpsCE where
  rd : BitVec 4
  ra : BitVec 4
  space : BitVec 2
  size : BitVec 2
  ofs : BitVec 14
  deriving DecidableEq, Repr

/-- Operands of format CF. -/
structure OpsCF where
  td : BitVec 2
  ta : BitVec 2
  ra : BitVec 4
  imm : BitVec 12
  deriving DecidableEq, Repr


/-- An element of an IRIG-B frame: a zero, a one or a position marker (03_time_base.md R60). -/
inductive IrigElem where
  | zero
  | one
  | marker
  deriving DecidableEq, Repr

/-- What a scrub read finds in a word (18_protection_integrity.md R375). -/
inductive EccResult where
  | clean
  | correctable
  | uncorrectable
  deriving DecidableEq, Repr

/-- A host command entry without its OPCODE (15_host_interface.md Table HST-3), from the command ring or from a COMMAND cell
(14_armature_links.md R308). -/
structure HostCmd where
  tag : BitVec 8
  epoch : BitVec 16
  alive : BitVec 8
  fence : Bool
  remote : Bool
  dest : BitVec 14
  remoteEpoch : BitVec 16
  /-- slot of the command ring -/
  slot : BitVec 8
  /-- a reserved byte or bit before the arguments is not zero -/
  reserved : Bool
  /-- A0 to A11 -/
  args : List (BitVec 32)
  /-- the device whose COMMAND cell brought it; none: the host's ring -/
  src : Option (BitVec 14)
  deriving DecidableEq, Repr

/-- Argument word `i` as a number. -/
def HostCmd.arg (c : HostCmd) (i : Nat) : Nat := (c.args.getD i 0).toNat

/-- The commands. Each docstring gives the row of the table and the rule it follows. -/
inductive Instr where
  /-- NOP (R322) -/
  | nop (c : HostCmd)
  /-- RUN (R39) -/
  | run (c : HostCmd)
  /-- HALT (R36) -/
  | halt (c : HostCmd)
  /-- REBOOT (R37) -/
  | reboot (c : HostCmd) (flashOk : Bool)
  /-- STANDBY (R348) -/
  | standby (c : HostCmd)
  /-- TAKEOVER (R348) -/
  | takeover (c : HostCmd)
  /-- IMAGE_WRITE (R354) -/
  | imageWrite (c : HostCmd)
  /-- COMMIT (R355) -/
  | commit (c : HostCmd)
  /-- CONFIRM (R360) -/
  | confirm (c : HostCmd)
  /-- ROLLBACK (R361) -/
  | rollback (c : HostCmd)
  /-- FLASH_WRITE (R365) -/
  | flashWrite (c : HostCmd)
  /-- FLOW_SET (R323) -/
  | flowSet (c : HostCmd)
  /-- FLOW_CLEAR (R134) -/
  | flowClear (c : HostCmd)
  /-- RESYNC (R221) -/
  | resync (c : HostCmd)
  /-- TIME_SET (R66) -/
  | timeSet (c : HostCmd)
  /-- TIME_SET_UTC_ONLY (R66) -/
  | timeSetUtcOnly (c : HostCmd)
  /-- TIME_ADJUST (R66) -/
  | timeAdjust (c : HostCmd)
  /-- CAPTURE_ARM (R268) -/
  | captureArm (c : HostCmd)
  /-- CAPTURE_FORCE (R268) -/
  | captureForce (c : HostCmd)
  /-- SHED_TEST (R44) -/
  | shedTest (c : HostCmd)
  /-- LOG_FETCH (R379) -/
  | logFetch (c : HostCmd)
  /-- DIAG_DUMP (R322) -/
  | diagDump (c : HostCmd)
  /-- STREAM_SEND (R322) -/
  | streamSend (c : HostCmd)
  /-- REMOTE_COMMAND (R324) -/
  | remoteCommand (op : BitVec 8) (c : HostCmd)
  /-- REMOTE_COMMAND_TIMEOUT (R324) -/
  | remoteCommandTimeout (tag : BitVec 8)
  /-- COMMAND_DOORBELL (R316) -/
  | commandDoorbell (v : BitVec 32)
  /-- COMMAND_FETCH (R316) -/
  | commandFetch (entries : List Bytes)
  /-- COMPLETION_WRITE (R320) -/
  | completionWrite
  /-- COMPLETION_HEAD_WRITE (R320) -/
  | completionHeadWrite (v : BitVec 32)
  /-- HOST_CONTROL_WRITE (R315) -/
  | hostControlWrite (v : BitVec 32)
  /-- RING_BASE_WRITE (R316) -/
  | ringBaseWrite (which : Fin 4) (v : BitVec 32)
  /-- COMPLETION_COALESCE_TIMEOUT (R327) -/
  | completionCoalesceTimeout
  /-- DMA_TIMEOUT (R326) -/
  | dmaTimeout (tag : Option (BitVec 8))
  /-- MSIX_UNMASK (R327) -/
  | msixUnmask (v : Fin 64)
  /-- PCIE_LINK_DOWN (R315) -/
  | pcieLinkDown
  /-- PCIE_PERST (R412) -/
  | pciePerst
  /-- HOST_QUEUE_ACK (R285) -/
  | hostQueueAck (h : Fin 16) (v : BitVec 32)
  /-- HOST_QUEUE_DMA (R328) -/
  | hostQueueDma (h : Fin 16)
  /-- HQ_READ_OFFSET_WRITE (R328) -/
  | hqReadOffsetWrite (h : Fin 16) (v : BitVec 32)
  /-- TIM_SNAP (R51) -/
  | timSnap (jtag : Bool) (v : BitVec 32)
  /-- LANE_SWAP_REQUEST (R223) -/
  | laneSwapRequest (l : Fin 16) (v : BitVec 32)
  /-- CAPTURE_ACK (R269) -/
  | captureAck (g : Fin 16) (v : BitVec 32)
  /-- RESULT_SELECT (R253) -/
  | resultSelect (v : BitVec 32)
  /-- PAIR_SELECT (R253) -/
  | pairSelect (v : BitVec 32)
  /-- LOCK_START (R338) -/
  | lockStart (jtag : Bool) (block : BitVec 5)
  /-- LOCK_END (R338) -/
  | lockEnd (jtag : Bool) (block : BitVec 5)
  /-- WINDOW_PAGE_WRITE (R383) -/
  | windowPageWrite (jtag : Bool) (v : BitVec 32)
  /-- WINDOW_WRITE (R384) -/
  | windowWrite (jtag : Bool) (word : BitVec 17) (v : BitVec 32)
  /-- BRIDGE_WINDOW_ACCESS (R333) -/
  | bridgeWindowAccess (jtag : Bool) (x : BitVec 19) (len : Nat) (write : Bool) (data : Bytes)
  /-- FREEMIN_WRITE (R188) -/
  | freeminWrite (jtag : Bool) (v : BitVec 32)
  /-- FLAG_CLEAR (R377) -/
  | flagClear (jtag : Bool) (off : BitVec 21) (v : BitVec 32)
  /-- COUNTER_CLEAR (R377) -/
  | counterClear (jtag : Bool) (off : BitVec 21) (v : BitVec 32)
  /-- ABSENT_UNIT_ACCESS (R5) -/
  | absentUnitAccess (jtag : Bool) (off : BitVec 21) (write : Bool) (v : BitVec 32)
  /-- RESERVED_ACCESS (R381) -/
  | reservedAccess (jtag : Bool) (off : BitVec 21) (write : Bool) (v : BitVec 32)
  /-- BAD_ACCESS (R314) -/
  | badAccess (bar4 : Bool) (off : BitVec 21) (len : Nat) (write : Bool)
  /-- BAR2_READ (R270) -/
  | bar2Read (x : BitVec 26) (len : Nat)
  /-- BAR2_WRITE (R270) -/
  | bar2Write
  /-- REGISTER_WRITE (R314) -/
  | registerWrite (jtag : Bool) (bar4 : Bool) (off : BitVec 21) (data : Bytes)
  /-- VDD_AUX_UP (R32) -/
  | vddAuxUp
  /-- VDD_AUX_REMOVE (R36) -/
  | vddAuxRemove
  /-- RESET_ASSERT (R34) -/
  | resetAssert
  /-- RESET_RELEASE (R36) -/
  | resetRelease
  /-- RESET_SEQUENCE_END (R366) -/
  | resetSequenceEnd
  /-- REBOOT_RESET (R37) -/
  | rebootReset
  /-- DDR_TRAINING_DONE (R39) -/
  | ddrTrainingDone
  /-- LANE_CALIBRATION_DONE (R39) -/
  | laneCalibrationDone (lane : Fin 14)
  /-- PLINTH_TO_RUN (R39) -/
  | plinthToRun
  /-- PWR_WARN_CHANGE (R44) -/
  | pwrWarnChange (v : BitVec 2)
  /-- RAIL_THRESHOLD_CROSS (R391) -/
  | railThresholdCross (rail : Fin 3) (level : Fin 5)
  /-- SHED_LEVEL_QUALIFIED (R44) -/
  | shedLevelQualified
  /-- SHED_STEP_BACK (R45) -/
  | shedStepBack
  /-- SHED4_RUN_ABORT (R162) -/
  | shed4RunAbort
  /-- DDR_SELF_REFRESH_EXIT (R265) -/
  | ddrSelfRefreshExit
  /-- PFAIL_ASSERT (R46) -/
  | pfailAssert (flashOk : Bool)
  /-- MINRAIL_TRIP (R391) -/
  | minrailTrip (flashOk : Bool)
  /-- PFAIL_RELEASE (R47) -/
  | pfailRelease
  /-- LOSS_OF_CLOCK (R396) -/
  | lossOfClock (fabricRuns : Bool)
  /-- THERMAL_TRIP (R405) -/
  | thermalTrip
  /-- HEARTBEAT_WATCHDOG (R346) -/
  | heartbeatWatchdog (fabricRuns : Bool)
  /-- PPS_EDGE (R59) -/
  | ppsEdge (rising : Bool) (ago : Nat)
  /-- PPS_MISSING (R59) -/
  | ppsMissing
  /-- IRIG_FRAME (R60) -/
  | irigFrame (elems : List IrigElem) (ago : Nat)
  /-- TRIG_IN_EDGE (R245) -/
  | trigInEdge (k : Fin 2) (ago : Nat)
  /-- ARM_SAMPLE_WINDOW (R307) -/
  | armSampleWindow
  /-- SOURCE_LOSS_TIMEOUT (R55) -/
  | sourceLossTimeout (k : Fin 4)
  /-- SOURCE_SWITCH_HOLD (R55) -/
  | sourceSwitchHold (k : Fin 4)
  /-- SLEW_END (R63) -/
  | slewEnd
  /-- LEAP_AT_REACHED (R53) -/
  | leapAtReached
  /-- LEAP_RETIRE (R53) -/
  | leapRetire
  /-- REF10_QUALIFIED (R61) -/
  | ref10Qualified (ratio : BitVec 32)
  /-- REF10_LOSS (R61) -/
  | ref10Loss (ratio : BitVec 32)
  /-- REF10_RESTORED (R61) -/
  | ref10Restored (ratio : BitVec 32)
  /-- PPS_OUT_EDGE (R69) -/
  | ppsOutEdge
  /-- PPS_OUT_WIDTH_END (R69) -/
  | ppsOutWidthEnd
  /-- CHARACTER_RECEIVE (R75) -/
  | characterReceive (n : Fin 96) (line : RxLine) (ago : Nat)
  /-- BREAK_RECEIVE (R85) -/
  | breakReceive (n : Fin 96) (rx : RxBreak)
  /-- BREAK_END (R85) -/
  | breakEnd (n : Fin 96)
  /-- LINE_DEAD (R86) -/
  | lineDead (n : Fin 96)
  /-- LINE_ALIVE (R86) -/
  | lineAlive (n : Fin 96)
  /-- CHARACTER_TRANSMIT (R84) -/
  | characterTransmit (n : Fin 96) (ctsLevel : Bool)
  /-- BREAK_TRANSMIT (R84) -/
  | breakTransmit (n : Fin 96) (ctsLevel : Bool)
  /-- RX_RATE_APPLY (R87) -/
  | rxRateApply (n : Fin 96)
  /-- TX_RATE_APPLY (R87) -/
  | txRateApply (n : Fin 96)
  /-- VIO_FAULT (R93) -/
  | vioFault (b : Fin 8)
  /-- VIO_RESTORED (R93) -/
  | vioRestored (b : Fin 8)
  /-- ASSEMBLY_ENTRY (R96) -/
  | assemblyEntry (n : Fin 96)
  /-- GAP_TIMEOUT (R103) -/
  | gapTimeout (n : Fin 96)
  /-- RAW_GAP_CLOSE (R102) -/
  | rawGapClose (n : Fin 96)
  /-- NETWORK_FRAME_RECEIVE (R105) -/
  | networkFrameReceive (k : Fin 4) (bytes : Bytes) (fcsOk : Bool) (ago : Nat)
  /-- NETWORK_BLOCK_LOCK_CHANGE (R105) -/
  | networkBlockLockChange (k : Fin 4) (lock : Bool)
  /-- CLASSIFY (R123) -/
  | classify
  /-- SILENCE_SCAN (R126) -/
  | silenceScan
  /-- DISPATCH (R139) -/
  | dispatch (h : Thr)
  /-- RUN_START (R141) -/
  | runStart (h : Thr)
  /-- WRITE_BACK_DONE (R149) -/
  | writeBackDone (h : Thr)
  /-- BUDGET_ABORT (R155) -/
  | budgetAbort (h : Thr)
  /-- RUN_LIMIT_ABORT (R155) -/
  | runLimitAbort (h : Thr)
  /-- TIMER_FIRE (R143) -/
  | timerFire (k : Fin 16)
  /-- THREAD_GATE (R28) -/
  | threadGate (h : Thr)
  /-- STORE_INPUT (R191) -/
  | storeInput
  /-- DOMAIN_EVALUATE (R193) -/
  | domainEvaluate (d : Fin 16)
  /-- READ_BACK_DONE (R189) -/
  | readBackDone (d : Fin 16)
  /-- LATE_RING_EXPIRY (R199) -/
  | lateRingExpiry (d : Fin 16)
  /-- SRAM_BANK_GATE (R28) -/
  | sramBankGate (bank : Nat)
  /-- LANE_INPUT (R213) -/
  | laneInput (l : Fin 16)
  /-- FADE_END (R224) -/
  | fadeEnd (l : Fin 16)
  /-- ANALYSE_SET (R250) -/
  | analyseSet
  /-- CAPTURE_SAMPLE (R256) -/
  | captureSample (g : Fin 16)
  /-- CAPTURE_FLUSH_DONE (R260) -/
  | captureFlushDone (g : Fin 16)
  /-- RECORD_FINAL (R264) -/
  | recordFinal (g : Fin 16)
  /-- SUMMARY_FLUSH (R47) -/
  | summaryFlush (ok : Bool)
  /-- BUILD_JOB_QUEUE (R275) -/
  | buildJobQueue
  /-- SCHEDULER_GRANT (R272) -/
  | schedulerGrant (n : Fin 109)
  /-- FRAME_BUILD_DONE (R274) -/
  | frameBuildDone (b : Fin 16)
  /-- LATE_GATHER_END (R281) -/
  | lateGatherEnd (i : BitVec 8)
  /-- SERIAL_STAGING_FEED (R283) -/
  | serialStagingFeed (n : Fin 96)
  /-- ALARM_MIN_WIDTH_END (R288) -/
  | alarmMinWidthEnd (p : Fin 4)
  /-- LINK_BLOCK_LOCK (R292) -/
  | linkBlockLock (k : Fin 8)
  /-- HELLO_SEND (R292) -/
  | helloSend (k : Fin 8)
  /-- LINK_BRINGUP_TIMEOUT (R292) -/
  | linkBringupTimeout (k : Fin 8)
  /-- LINK_FAULT_RETRY (R292) -/
  | linkFaultRetry (k : Fin 8)
  /-- LINK_DOWN (R294) -/
  | linkDown (k : Fin 8)
  /-- KEEPALIVE_HELLO (R294) -/
  | keepaliveHello (k : Fin 8)
  /-- ELASTIC_BUFFER_ERROR (R295) -/
  | elasticBufferError (k : Fin 8)
  /-- CELL_RECEIVE (R297) -/
  | cellReceive (k : Fin 8) (bytes : Bytes) (ago : Nat)
  /-- UPLINK_REVERT (R303) -/
  | uplinkRevert
  /-- TIME_EXCHANGE_START (R306) -/
  | timeExchangeStart (k : Fin 8)
  /-- STATUS_CELL_SEND (R309) -/
  | statusCellSend
  /-- FRAGMENT_SEND (R207) -/
  | fragmentSend (d : Fin 16)
  /-- PEER_LANE_LOSS (R329) -/
  | peerLaneLoss (lane : Fin 2)
  /-- PEER_LANE_RETRAIN (R329) -/
  | peerLaneRetrain (lane : Fin 2)
  /-- PEER_LINK_DOWN (R329) -/
  | peerLinkDown
  /-- PEER_ELASTIC_BUFFER_ERROR (R329) -/
  | peerElasticBufferError (lane : Fin 2)
  /-- HEARTBEAT_SEND (R343) -/
  | heartbeatSend
  /-- HEARTBEAT_RECEIVE (R343) -/
  | heartbeatReceive (bytes : Bytes)
  /-- HEARTBEAT_MISS (R343) -/
  | heartbeatMiss
  /-- PEER_FAULT_ASSERT (R347) -/
  | peerFaultAssert
  /-- CLAIM_WAIT_EXPIRY (R345) -/
  | claimWaitExpiry
  /-- HANDOVER_BOUNDARY (R348) -/
  | handoverBoundary
  /-- TAKEOVER_TIMEOUT (R348) -/
  | takeoverTimeout
  /-- MIRROR_SEND (R341) -/
  | mirrorSend
  /-- MIRROR_RECEIVE (R204) -/
  | mirrorReceive (bytes : Bytes)
  /-- BRIDGE_REQUEST_RECEIVE (R333) -/
  | bridgeRequestReceive (bytes : Bytes)
  /-- BRIDGE_RESPONSE (R335) -/
  | bridgeResponse (bytes : Bytes)
  /-- BRIDGE_TIMEOUT (R335) -/
  | bridgeTimeout (tag : BitVec 8)
  /-- LOCK_REQUEST_RECEIVE (R339) -/
  | lockRequestReceive (bytes : Bytes)
  /-- LOCK_GRANT (R338) -/
  | lockGrant (bytes : Bytes)
  /-- LOCK_EXPIRY (R338) -/
  | lockExpiry (far : Bool)
  /-- LOCK_BACKOFF_EXPIRY (R339) -/
  | lockBackoffExpiry
  /-- FAR_INT_POLL (R340) -/
  | farIntPoll
  /-- SYNC_RECEIVE (R349) -/
  | syncReceive (bytes : Bytes)
  /-- STREAM_RECORD_SEND (R275) -/
  | streamRecordSend
  /-- SYNC_COMPLETE (R349) -/
  | syncComplete
  /-- COMMIT_INSTANT (R357) -/
  | commitInstant
  /-- CONFIRM_WINDOW_EXPIRY (R361) -/
  | confirmWindowExpiry
  /-- SCRUB_READ (R376) -/
  | scrubRead (st : Fin 14) (addr : BitVec 32) (found : EccResult)
  /-- ADD (R170) -/
  | add (h : Thr) (x : OpsCA)
  /-- SUB (R170) -/
  | sub (h : Thr) (x : OpsCA)
  /-- AND (R170) -/
  | and (h : Thr) (x : OpsCA)
  /-- OR (R170) -/
  | or (h : Thr) (x : OpsCA)
  /-- XOR (R170) -/
  | xor (h : Thr) (x : OpsCA)
  /-- ANDN (R170) -/
  | andn (h : Thr) (x : OpsCA)
  /-- SHL (R170) -/
  | shl (h : Thr) (x : OpsCA)
  /-- SHR (R170) -/
  | shr (h : Thr) (x : OpsCA)
  /-- SAR (R170) -/
  | sar (h : Thr) (x : OpsCA)
  /-- MUL (R170) -/
  | mul (h : Thr) (x : OpsCA)
  /-- MULHU (R170) -/
  | mulhu (h : Thr) (x : OpsCA)
  /-- MULHS (R170) -/
  | mulhs (h : Thr) (x : OpsCA)
  /-- CMP (R170) -/
  | cmp (h : Thr) (x : OpsCA)
  /-- MIN (R170) -/
  | min (h : Thr) (x : OpsCA)
  /-- MAX (R170) -/
  | max (h : Thr) (x : OpsCA)
  /-- MINU (R170) -/
  | minu (h : Thr) (x : OpsCA)
  /-- MAXU (R170) -/
  | maxu (h : Thr) (x : OpsCA)
  /-- ADC (R170) -/
  | adc (h : Thr) (x : OpsCA)
  /-- SBC (R170) -/
  | sbc (h : Thr) (x : OpsCA)
  /-- CLZ (R170) -/
  | clz (h : Thr) (x : OpsCA)
  /-- BSWAP (R170) -/
  | bswap (h : Thr) (x : OpsCA)
  /-- ADDI (R170) -/
  | addi (h : Thr) (x : OpsCB) (fn : BitVec 2)
  /-- ANDI (R170) -/
  | andi (h : Thr) (x : OpsCB) (fn : BitVec 2)
  /-- ORI (R170) -/
  | ori (h : Thr) (x : OpsCB) (fn : BitVec 2)
  /-- XORI (R170) -/
  | xori (h : Thr) (x : OpsCB) (fn : BitVec 2)
  /-- SHLI (R170) -/
  | shli (h : Thr) (x : OpsCB)
  /-- SHRI (R170) -/
  | shri (h : Thr) (x : OpsCB)
  /-- SARI (R170) -/
  | sari (h : Thr) (x : OpsCB)
  /-- CMPI (R170) -/
  | cmpi (h : Thr) (x : OpsCB)
  /-- CMPI_U (R170) -/
  | cmpiU (h : Thr) (x : OpsCB)
  /-- LUI (R170) -/
  | lui (h : Thr) (x : OpsCB) (fn : BitVec 2)
  /-- MOVC (R170) -/
  | movc (h : Thr) (x : OpsCA) (fn : BitVec 14)
  /-- FADD (R171) -/
  | fadd (h : Thr) (x : OpsCA)
  /-- FSUB (R171) -/
  | fsub (h : Thr) (x : OpsCA)
  /-- FMUL (R171) -/
  | fmul (h : Thr) (x : OpsCA)
  /-- FMAC (R171) -/
  | fmac (h : Thr) (x : OpsCA)
  /-- FCMP (R171) -/
  | fcmp (h : Thr) (x : OpsCA)
  /-- FMIN (R171) -/
  | fmin (h : Thr) (x : OpsCA)
  /-- FMAX (R171) -/
  | fmax (h : Thr) (x : OpsCA)
  /-- I2F (R171) -/
  | i2f (h : Thr) (x : OpsCA)
  /-- U2F (R171) -/
  | u2f (h : Thr) (x : OpsCA)
  /-- F2I (R171) -/
  | f2i (h : Thr) (x : OpsCA)
  /-- FABS (R171) -/
  | fabs (h : Thr) (x : OpsCA)
  /-- FNEG (R171) -/
  | fneg (h : Thr) (x : OpsCA)
  /-- LD (R172) -/
  | ld (h : Thr) (x : OpsCE)
  /-- LDS (R172) -/
  | lds (h : Thr) (x : OpsCE)
  /-- ST (R172) -/
  | st (h : Thr) (x : OpsCE)
  /-- LDBE (R172) -/
  | ldbe (h : Thr) (x : OpsCE)
  /-- STBE (R172) -/
  | stbe (h : Thr) (x : OpsCE)
  /-- LDT (R172) -/
  | ldt (h : Thr) (x : OpsCE)
  /-- STT (R172) -/
  | stt (h : Thr) (x : OpsCE)
  /-- FEXT_U (R173) -/
  | fextU (h : Thr) (x : OpsCC)
  /-- FEXT_S (R173) -/
  | fextS (h : Thr) (x : OpsCC)
  /-- FINS (R173) -/
  | fins (h : Thr) (x : OpsCC)
  /-- FSET (R173) -/
  | fset (h : Thr) (x : OpsCC)
  /-- FADV (R173) -/
  | fadv (h : Thr) (x : OpsCC)
  /-- SCAN (R173) -/
  | scan (h : Thr) (x : OpsCC)
  /-- FGET (R173) -/
  | fget (h : Thr) (x : OpsCC)
  /-- SETLEN (R173) -/
  | setlen (h : Thr) (x : OpsCA)
  /-- GETLEN (R173) -/
  | getlen (h : Thr) (x : OpsCA)
  /-- PDEC_U (R174) -/
  | pdecU (h : Thr) (x : OpsCC)
  /-- PDEC_S (R174) -/
  | pdecS (h : Thr) (x : OpsCC)
  /-- PFIX (R174) -/
  | pfix (h : Thr) (x : OpsCC)
  /-- PFLT (R174) -/
  | pflt (h : Thr) (x : OpsCC)
  /-- PHEX (R174) -/
  | phex (h : Thr) (x : OpsCC)
  /-- FMT_U (R174) -/
  | fmtU (h : Thr) (x : OpsCC)
  /-- FMT_S (R174) -/
  | fmtS (h : Thr) (x : OpsCC)
  /-- FMT_X (R174) -/
  | fmtX (h : Thr) (x : OpsCC)
  /-- B_COND (R175) -/
  | bCond (h : Thr) (x : OpsCD)
  /-- BZ (R175) -/
  | bz (h : Thr) (ra : BitVec 4) (disp : BitVec 18)
  /-- BNZ (R175) -/
  | bnz (h : Thr) (ra : BitVec 4) (disp : BitVec 18)
  /-- CALL (R175) -/
  | call (h : Thr) (x : OpsCD)
  /-- RET (R175) -/
  | ret (h : Thr) (x : OpsCD)
  /-- JR (R175) -/
  | jr (h : Thr) (x : OpsCD)
  /-- LOOP (R175) -/
  | loop (h : Thr) (x : OpsCD)
  /-- CINIT (R176) -/
  | cinit (h : Thr) (x : OpsCB) (fn : BitVec 2)
  /-- CFOLD (R176) -/
  | cfold (h : Thr) (x : OpsCA) (fn : BitVec 14)
  /-- CFIN (R176) -/
  | cfin (h : Thr) (x : OpsCA) (fn : BitVec 14)
  /-- CVER (R176) -/
  | cver (h : Thr) (x : OpsCA) (fn : BitVec 14)
  /-- TNOW (R177) -/
  | tnow (h : Thr) (x : OpsCF)
  /-- TMOV (R177) -/
  | tmov (h : Thr) (x : OpsCF)
  /-- TADD (R177) -/
  | tadd (h : Thr) (x : OpsCF)
  /-- TDIFF (R177) -/
  | tdiff (h : Thr) (x : OpsCF)
  /-- TGETS (R177) -/
  | tgets (h : Thr) (x : OpsCF)
  /-- TGETNS (R177) -/
  | tgetns (h : Thr) (x : OpsCF)
  /-- TSETS (R177) -/
  | tsets (h : Thr) (x : OpsCF)
  /-- TGRID (R177) -/
  | tgrid (h : Thr) (x : OpsCF)
  /-- C37TOD (R178) -/
  | c37tod (h : Thr) (x : OpsCF)
  /-- TODC37 (R178) -/
  | todc37 (h : Thr) (x : OpsCF)
  /-- PPSLABEL (R179) -/
  | ppslabel (h : Thr) (x : OpsCF)
  /-- PTPSAMPLE (R179) -/
  | ptpsample (h : Thr) (x : OpsCF)
  /-- PTPADJ (R179) -/
  | ptpadj (h : Thr) (x : OpsCF)
  /-- PTPSTEP (R179) -/
  | ptpstep (h : Thr) (x : OpsCF)
  /-- PTPFREQ (R179) -/
  | ptpfreq (h : Thr) (x : OpsCF)
  /-- UTCSET (R179) -/
  | utcset (h : Thr) (x : OpsCF)
  /-- TLD (R180) -/
  | tld (h : Thr) (x : OpsCB)
  /-- LDESC (R180) -/
  | ldesc (h : Thr) (x : OpsCB)
  /-- TST (R180) -/
  | tst (h : Thr) (x : OpsCB)
  /-- FQUAR (R180) -/
  | fquar (h : Thr) (x : OpsCA)
  /-- FLAYOUT (R180) -/
  | flayout (h : Thr) (x : OpsCA)
  /-- FEXP (R180) -/
  | fexp (h : Thr) (x : OpsCA)
  /-- FLASTMT (R180) -/
  | flastmt (h : Thr) (x : OpsCA)
  /-- FORWARD (R181) -/
  | forward (h : Thr) (x : OpsCF)
  /-- HOLD (R181) -/
  | hold (h : Thr) (x : OpsCF)
  /-- HOST (R181) -/
  | host (h : Thr) (x : OpsCF)
  /-- DROP (R181) -/
  | drop (h : Thr) (x : OpsCF)
  /-- FAULT (R181) -/
  | fault (h : Thr) (x : OpsCF)
  /-- EMIT_G (R181) -/
  | emitG (h : Thr) (x : OpsCF)
  /-- EMIT_Q (R181) -/
  | emitQ (h : Thr) (x : OpsCF)
  /-- EMIT_GL (R181) -/
  | emitGl (h : Thr) (x : OpsCF)
  /-- EMIT_QL (R181) -/
  | emitQl (h : Thr) (x : OpsCF)
  /-- LADD (R182) -/
  | ladd (h : Thr) (x : OpsCE)
  /-- LSWAP (R182) -/
  | lswap (h : Thr) (x : OpsCE)
  /-- LCAS_W (R182) -/
  | lcasW (h : Thr) (x : OpsCE)
  /-- CNT_S (R182) -/
  | cntS (h : Thr) (x : OpsCB)
  /-- CNT_W (R182) -/
  | cntW (h : Thr) (x : OpsCB)
  /-- CHISEL_NOP (R183) -/
  | chiselNop (h : Thr) (x : OpsCF)
  /-- YIELD (R183) -/
  | yield (h : Thr) (x : OpsCF)
  /-- WAIT (R183) -/
  | wait (h : Thr) (x : OpsCF)
  /-- WAITT (R183) -/
  | waitt (h : Thr) (x : OpsCF)
  /-- TRAP (R183) -/
  | trap (h : Thr) (x : OpsCF)
  /-- CSRR (R183) -/
  | csrr (h : Thr) (x : OpsCF)
  /-- CSRW (R146) -/
  | csrw (h : Thr) (x : OpsCF)
  /-- PEER_LANE_BLOCK_LOCK (R329) -/
  | peerLaneBlockLock (lane : Fin 2)
  /-- ACTIVE_CLAIM_CHANGE (R345) -/
  | activeClaimChange (held : Bool)
  /-- PEER_FAULT_RELEASE (R344) -/
  | peerFaultRelease
  /-- FLASH_OPERATION_DONE (R365) -/
  | flashOperationDone (ok : Bool)
  /-- DMA_READ_COMPLETION (R326) -/
  | dmaReadCompletion (tag : BitVec 8) (bytes : Bytes)
  /-- BOOT_IMAGE_LOAD_DONE (R366) -/
  | bootImageLoadDone
  /-- HOLDOVER_QUALITY_CHANGE (R67) -/
  | holdoverQualityChange
  /-- PEER_PACKET_SEND (R337) -/
  | peerPacketSend
  deriving DecidableEq, Repr

end Sys2Proof
end

