-- ==== Sys2Proof/WellFormed.lean ====
section
/-! DEFINITION. What a command must satisfy beyond the types of its operands: lengths of byte strings and of argument lists, and the
row a host command belongs to. -/

namespace Sys2Proof

/-- A host command carries the twelve argument words of Table HST-3 (15_host_interface.md R318). -/
def HostCmd.argsOk (c : HostCmd) : Bool := c.args.length == 12

/-- A host command for this device: its REMOTE bit is clear. -/
def HostCmd.localOk (c : HostCmd) : Bool := c.argsOk && !c.remote

/-- Bit 0 of A0 tells TIME_SET from its UTC-only form (15_host_interface.md Table HST-5). -/
def HostCmd.utcOnly (c : HostCmd) : Bool := (c.args.getD 0 0).getLsbD 0

/-- Bytes of a register access within BAR0 (15_host_interface.md R314): a write carries as many bytes as it names. -/
def accessOk (len : Nat) (write : Bool) (data : Bytes) : Bool := len != 0 && (!write || data.length == len)

/-- The command is well formed. Commands not named here have operands that their types bound whole. -/
def Instr.wf : Instr → Bool
  | .nop c | .run c | .halt c | .reboot c _ | .standby c | .takeover c | .imageWrite c | .commit c | .confirm c | .rollback c
  | .flashWrite c | .flowSet c | .flowClear c | .resync c | .timeAdjust c | .captureArm c | .captureForce c | .shedTest c
  | .logFetch c | .diagDump c | .streamSend c => c.localOk
  | .timeSet c => c.localOk && !c.utcOnly
  | .timeSetUtcOnly c => c.localOk && c.utcOnly
  | .remoteCommand _ c => c.argsOk && c.remote
  | .commandFetch entries => entries != [] && entries.all (fun b => b.length == 64)
  | .dmaReadCompletion _ bytes => bytes != []
  | .bridgeWindowAccess _ _ len write data => accessOk len write data
  | .badAccess _ _ len _ => len != 0
  | .bar2Read _ len => len != 0
  | .registerWrite _ _ _ data => data != []
  | .irigFrame elems _ => elems.length == 100
  | .networkFrameReceive _ bytes _ _ => 14 ≤ bytes.length
  | .cellReceive _ bytes _ | .heartbeatReceive bytes | .bridgeRequestReceive bytes | .bridgeResponse bytes | .lockGrant bytes |
    .lockRequestReceive bytes | .mirrorReceive bytes | .syncReceive bytes => bytes != []
  | _ => true

end Sys2Proof
end

