-- ==== Sys2Proof/Config.lean ====
section
/-! DEFINITION. What one part fixes, and the free values of the model: constants without a body, of which nothing can be
proved but that they are there. -/

namespace Sys2Proof.Config

/-- Die number of the part (19_register_map.md Table MAP-2), fixed in silicon. -/
opaque serial : BitVec 64

/-- Die stepping of the part (Table MAP-2), fixed in silicon. -/
opaque stepping : BitVec 4

/-- The servo's predicted offset in ns (03_time_base.md R56 names it and gives no formula): a free value of F, the slew
remaining and the last offset. -/
opaque predictedOffset (freq slew theta : Int) : Int

/-- The sense of the parity bit of the IRIG-B extension, true for odd (03_time_base.md R60 names it and gives no sense): a
free value. -/
opaque irigOddParity : Bool

/-- The receiver of a port is inside a character at a moment (04_serial_ports.md Table SER-5, SER_PSTAT.RX_BUSY): the start of a character
that has not been decided is not yet a command, so this is a free value. -/
opaque rxBusy (port ticks : Nat) : Bool

/-- FAULT_RUN after 255 counts one more (06_flows.md Table FLW-2 gives 8 bits and no rule): a free value. -/
opaque faultRunOver : BitVec 8

/-- Grid rate of a reserved RATE code 9 to 15 (09_alignment.md Table ALN-1), which a domain that is not enabled may hold:
a free value. -/
opaque reservedRate (code : Nat) : Nat

/-- Whether minNum or maxNum of two zeros of unlike sign takes its first operand (IEEE 754, 08_chisel_instructions.md
R171): a free value. -/
opaque zeroPick (max : Bool) (a b : BitVec 32) : Bool

/-- How many binary32 steps a result that the spec gives to 2 ulp lies from the nearest binary32 (10_rate_conversion.md R215,
11_analysis_triggers.md R232, R239): a free value of the function and its operands. The function that uses it holds the result within
2 ulp. -/
opaque ulps (fn : Nat) (a b : BitVec 32) : Int

/-- Fill of a link's elastic buffer in blocks at a moment (14_armature_links.md R295, ARM_LSTAT.EB_FILL): a free value. -/
opaque ebFill (link ticks : Nat) : BitVec 5

/-- IPv4 identification of a stream's first frame (13_egress.md R276 gives only that it increments): a free value. -/
opaque ipIdent (stream : Nat) : BitVec 16
/-- Residence or turnaround time that one-step insertion adds to a PTP message (03_time_base.md, PTP): a free value. -/
opaque ptpResidence (port now : Nat) : BitVec 64

/-- STATUS and SLOT of an EPOCH_BREAK entry (15_host_interface.md R320, Table HST-4 give them no value): free values. -/
opaque breakStatus : Fin 14
opaque breakSlot : BitVec 8

/-- Section index and image byte that CFG_LASTERR and CFG_LASTERROFS show where a rule of a chapter refuses an image
(17_configuration.md R352 step 6, which names no byte): free values of the refusal's number. -/
opaque refusedSection (n : Nat) : BitVec 8
opaque refusedOffset (n : Nat) : BitVec 32

/-- Bytes of the alignment descriptors as DIAG_DUMP counts them, and the content of the sources whose layout the spec does not give
(15_host_interface.md Table HST-5): free values, the content of the source, the byte's place and the moment. -/
opaque descriptorBytes : Nat
opaque dumpByte (source offset now : Nat) : BitVec 8

/-- Cause of Table ALN-4 of a set that a handover releases before its own condition holds (16_peer_bridge_twin.md R348 names
none): a free value. -/
opaque handoverCause : BitVec 3

/-- The entry of key `key` lies on word `addr` of store `store` (18_protection_integrity.md Table PRT-5: the spec places no entry of the
sentence pool, the receive FIFOs, the serial queues, the egress store or the link and peer buffers at an address): a free value. -/
opaque placed (store addr key : Nat) : Bool

/-- SRAM bank of an alignment slot (01_architecture.md Table ARC-9 gates banks and gives no number of them): a free value. -/
opaque slotBank (slot : Nat) : Nat

end Sys2Proof.Config
end

