-- ==== Sys2Proof/Machine/Sparse.lean ====
section
/-! DEFINITION. Sparse storage: a list of key and value pairs in one canonical form (keys strictly rising, no entry equal
to what an unlisted key reads as). Registers, memories and tables of many like units are held this way, so that equal
stores are equal data and reset lists nothing. -/

namespace Sys2Proof.Machine

/-- A store keyed by a number. -/
abbrev SMap (α : Type) := List (Nat × α)

/-- Read a key; an unlisted key reads as `d k`. -/
def SMap.get {α : Type} (m : SMap α) (d : Nat → α) (k : Nat) : α :=
  match m with
  | [] => d k
  | (k', v) :: r => if k' = k then v else SMap.get r d k

/-- Remove a key. -/
def SMap.erase {α : Type} (m : SMap α) (k : Nat) : SMap α :=
  match m with
  | [] => []
  | (k', v) :: r => if k' = k then SMap.erase r k else (k', v) :: SMap.erase r k

/-- Put a value at a key, keeping the keys rising. -/
def SMap.insert {α : Type} (m : SMap α) (k : Nat) (v : α) : SMap α :=
  match m with
  | [] => [(k, v)]
  | (k', v') :: r =>
    if k' = k then (k, v) :: r else if k < k' then (k, v) :: (k', v') :: r else (k', v') :: SMap.insert r k v

/-- Write a key: writing what an unlisted key reads as removes the entry. -/
def SMap.set {α : Type} [DecidableEq α] (m : SMap α) (d : Nat → α) (k : Nat) (v : α) : SMap α :=
  if v = d k then SMap.erase m k else SMap.insert m k v

/-- Read with one default for every key. -/
def SMap.at {α : Type} (m : SMap α) (d : α) (k : Nat) : α := SMap.get m (fun _ => d) k

/-- Write with one default for every key. -/
def SMap.put {α : Type} [DecidableEq α] (m : SMap α) (d : α) (k : Nat) (v : α) : SMap α := SMap.set m (fun _ => d) k v

/-- Every listed key is above `lo`, the keys rise, and no entry equals its default. -/
def SMap.wfFrom {α : Type} [DecidableEq α] (d : Nat → α) : Option Nat → SMap α → Bool
  | _, [] => true
  | lo, (k, v) :: r =>
    (match lo with
      | none => true
      | some l => decide (l < k)) && decide (v ≠ d k) && SMap.wfFrom d (some k) r

/-- The canonical form. -/
def SMap.wf {α : Type} [DecidableEq α] (d : Nat → α) (m : SMap α) : Bool := SMap.wfFrom d none m

/-- Read `n` bytes from address `a` of a byte store. -/
def SMap.bytes (m : SMap (BitVec 8)) (d : BitVec 8) (a : Nat) : Nat → Bytes
  | 0 => []
  | n + 1 => m.at d a :: SMap.bytes m d (a + 1) n

/-- Write bytes from address `a` on. -/
def SMap.setBytes (m : SMap (BitVec 8)) (d : BitVec 8) (a : Nat) : Bytes → SMap (BitVec 8)
  | [] => m
  | b :: r => SMap.setBytes (m.put d a b) d (a + 1) r

/-- Little-endian value of bytes. -/
def leNat : Bytes → Nat
  | [] => 0
  | b :: r => b.toNat + 256 * leNat r

/-- Big-endian value of bytes. -/
def beNat (bs : Bytes) : Nat := leNat bs.reverse

/-- The `n` low bytes of a value, least significant first. -/
def leBytes : Nat → Nat → Bytes
  | 0, _ => []
  | n + 1, v => BitVec.ofNat 8 v :: leBytes n (v / 256)

/-- The `n` low bytes of a value, most significant first. -/
def beBytes (n v : Nat) : Bytes := (leBytes n v).reverse

/-- Little-endian `n`-byte field at address `a` of a byte store. -/
def SMap.le (m : SMap (BitVec 8)) (d : BitVec 8) (a n : Nat) : Nat := leNat (m.bytes d a n)

/-- Write a little-endian `n`-byte field. -/
def SMap.setLe (m : SMap (BitVec 8)) (d : BitVec 8) (a n v : Nat) : SMap (BitVec 8) := m.setBytes d a (leBytes n v)

/-- Bit `i` of a number. -/
def bitOf (v i : Nat) : Bool := v / 2 ^ i % 2 == 1

/-- The field of width `w` at bit `lo` of a number. -/
def bits (v lo w : Nat) : Nat := v / 2 ^ lo % 2 ^ w

/-- A `w`-bit two's complement value as an integer. -/
def sxt (w v : Nat) : Int := if v % 2 ^ w ≥ 2 ^ (w - 1) then (v % 2 ^ w : Nat) - (2 ^ w : Nat) else (v % 2 ^ w : Nat)

/-- An integer as a `w`-bit two's complement value. -/
def wrapI (w : Nat) (i : Int) : Nat := (i % (2 ^ w : Nat)).toNat

/-- One as a bit. -/
def b1 (b : Bool) : Nat := if b then 1 else 0

end Sys2Proof.Machine
end

