-- ==== Sys2Proof/Machine/State.lean ====
section
/-! DEFINITION. The state of the device: plain data. Every register of BAR0 stands once in `regs` (RegTable.lean gives
its reset value), unless it shows a piece of the typed state below, from which Views.lean computes it. Each field's line
names the file and rule of the spec that gives it. -/

namespace Sys2Proof.Machine

/-- What leaves the device: the model's own record of its outputs, newest first in `State.out`. -/
inductive Output where
  /-- a character or break starts on SPn_TXD: the levels of the pin in turn and how many UCLK cycles each lasts (04_serial_ports.md R76,
  R84, R88) -/
  | serial (port : Nat) (wave : List (Bool × Nat))
  /-- SPn_RTS is driven to a level (04_serial_ports.md R82) -/
  | rtsPin (port : Nat) (level : Bool)
  /-- an Ethernet frame, without FCS, leaves NPk (13_egress.md) -/
  | frame (np : Nat) (bytes : Bytes)
  /-- a cell leaves ALk (14_armature_links.md) -/
  | cell (link : Nat) (bytes : Bytes)
  /-- a packet leaves the peer link (16_peer_bridge_twin.md) -/
  | packet (bytes : Bytes)
  /-- a DMA write to host memory (15_host_interface.md R326) -/
  | hostWrite (addr : Nat) (bytes : Bytes)
  /-- a DMA read request to host memory (R326) -/
  | hostRead (addr len : Nat)
  /-- an MSI-X message (R327) -/
  | msix (vector : Nat) (addr data : Nat)
  /-- read data returned to a master (19_register_map.md) -/
  | readData (master : Nat) (bytes : Bytes)
  /-- ALARM_OUT[p] is driven to a level, or released (13_egress.md R288) -/
  | alarmPin (p : Nat) (level : Option Bool)
  /-- PPS_OUT is driven to a level (03_time_base.md R69) -/
  | ppsPin (level : Bool)
  /-- ACTIVE_CLAIM is driven low (true) or released (16_peer_bridge_twin.md R344) -/
  | claimPin (held : Bool)
  /-- PEER_FAULT is driven low (true) or released (R344) -/
  | faultPin (driven : Bool)
  deriving DecidableEq, Repr

/-- An event-log entry (18_protection_integrity.md R379, Table PRT-6). -/
structure LogEntry where
  no : Nat
  time : Nat
  kind : Nat
  state : Nat
  code : Nat
  /-- the values of DATA in the order of Table PRT-6, with their widths in bytes -/
  data : List (Nat × Nat)
  deriving DecidableEq, Repr

/-- The six operating modes (02_modes.md R32, Table MOD-1). -/
inductive Mode where
  | reset
  | plinth
  | run
  | shed
  | standby
  | halt
  deriving DecidableEq, Repr

/-- The three variants (00_scope.md R1, Table SCP-1). -/
inductive Variant where
  | a
  | c
  | e
  deriving DecidableEq, Repr

/-- Modes, epoch, reset and pins of the device as a whole (02_modes.md, 19_register_map.md, 20_electrical.md). -/
structure Glb where
  /-- variant of the part, fixed in silicon (00_scope.md R1, R4) -/
  variant : Variant := .a
  /-- operating mode, GLB_MODE.MODE (02_modes.md R32, Table MOD-8) -/
  mode : Mode := .plinth
  /-- present shed level 0 to 4, GLB_MODE.SHED_LEVEL (02_modes.md R45, Table MOD-8) -/
  shed : Nat := 0
  /-- this device holds ACTIVE_CLAIM, GLB_MODE.ACTIVE (02_modes.md Table MOD-8, 16_peer_bridge_twin.md R344) -/
  active : Bool := false
  /-- mode before the last transition, GLB_MODE.PREV_MODE (02_modes.md Table MOD-8) -/
  prevMode : Mode := .reset
  /-- HALT cause, GLB_MODE.HALT_CAUSE (02_modes.md Table MOD-8) -/
  haltCause : Nat := 0
  /-- fault epoch, kept in the VDD_AUX domain, GLB_EPOCH (02_modes.md R36, Table MOD-9) -/
  epoch : BitVec 16 := 1
  /-- window page copy of master M0 (19_register_map.md R383) -/
  page0 : Nat := 0
  /-- window page copy of master M1 (19_register_map.md R383) -/
  page1 : Nat := 0
  /-- window page copy of master M4 (19_register_map.md R383) -/
  page4 : Nat := 0
  /-- kept ALARM_OUT fail levels of the VDD_AUX domain, bit p for pin p (02_modes.md R32) -/
  failLevels : BitVec 4 := 0
  /-- RESET# is asserted at the pin (02_modes.md R34, 20_electrical.md R390) -/
  resetPin : Bool := false
  /-- side of the device in a twin pair, from the flash header: false A, true B (16_peer_bridge_twin.md PBR_STAT.SIDE, 17_configuration.md R363) -/
  side : Bool := false
  /-- VDD_AUX is in range (02_modes.md R32, R36) -/
  auxUp : Bool := true
  /-- a REBOOT has completed and RESET follows 1 µs later (02_modes.md R37) -/
  rebootPending : Bool := false
  /-- DDR training has completed (02_modes.md R39) -/
  ddrTrained : Bool := false
  /-- DDR is in self-refresh (02_modes.md Table MOD-5, 12_event_capture.md R265) -/
  ddrSelfRefresh : Bool := false
  /-- SerDes lanes that have completed power-up and calibration: bits 0-3 NP, 4-11 AL, 12-13 peer lanes (02_modes.md R39) -/
  lanesReady : Nat := 0
  /-- the watchdog pin actions are in force: SerDes transmitters off, serial TXD at mark (16_peer_bridge_twin.md R346) -/
  silenced : Bool := false
  deriving DecidableEq, Repr

/-- Supply monitors and the shed controller (02_modes.md R44 to R47, 20_electrical.md R391). -/
structure Pwr where
  /-- PWR_WARN[1:0] pins as synchronised (02_modes.md R44) -/
  warn : Nat := 0
  /-- level reached by each monitored rail, 0 to 4: VDD_CORE (02_modes.md Table MOD-6) -/
  rail0 : Nat := 0
  /-- level of VDD_MEM (02_modes.md Table MOD-6) -/
  rail1 : Nat := 0
  /-- level of VDDA_SD (02_modes.md Table MOD-6) -/
  rail2 : Nat := 0
  /-- floor set by SHED_TEST, PWR_STATUS.TEST_FLOOR (02_modes.md R41) -/
  floor : Nat := 0
  /-- effective required level, counted after 10 µs, PWR_STATUS.REQUIRED (02_modes.md R44) -/
  required : Nat := 0
  /-- TCLK count at which the present step-back timer started, PWR_STATUS.HYST_MS (02_modes.md R45) -/
  backStart : Option Nat := none
  /-- PFAIL# is asserted at the pin (02_modes.md R46) -/
  pfail : Bool := false
  /-- TCLK count at which the minimum-rail monitor last started the sequence, for the case of R392 in which PFAIL# starts it in the same cycle
  (20_electrical.md R392) -/
  minrailAt : Option Nat := none
  deriving DecidableEq, Repr

/-- One discipline source (03_time_base.md R55, R56, Table TIM-8). -/
structure Source where
  /-- 0 disabled, 1 qualifying, 2 qualified, 3 disqualified (R55) -/
  state : Nat := 0
  /-- consecutive consistent samples, TIM_SRCSTAT.GOOD (R55) -/
  good : Nat := 0
  /-- consecutive outliers, TIM_SRCSTAT.OUTLIERS (R56) -/
  outliers : Nat := 0
  /-- TCLK count of the last sample, TIM_SRCSTAT.AGE_MS (Table TIM-8) -/
  lastTick : Option Nat := none
  /-- last offset θ in ns, TIM_SRCOFS (Table TIM-8) -/
  theta : Int := 0
  /-- device time of the last sample in ns (R55 consistency) -/
  lastStamp : Nat := 0
  /-- label of the last sample in ns (R55 consistency) -/
  lastLabel : Nat := 0
  /-- device time since which the source has been qualified without a break (R55) -/
  qualSince : Option Nat := none
  /-- offsets of the consecutive outliers, newest first (R56) -/
  outThetas : List Int := []
  /-- θ and device time of the first qualifying sample, for the mean rate of R58 -/
  first : Option (Int × Nat) := none
  /-- error bound the source's submissions carry, in ns (R62, R67) -/
  bound : Option Nat := none
  /-- consecutive bad IRIG frames (Table TIM-2) -/
  bad : Nat := 0
  deriving DecidableEq, Repr

/-- The latest accepted PPS_IN edge (03_time_base.md R59, R65). -/
structure PpsEdge where
  /-- stamp in ns of device time -/
  stamp : Nat
  /-- STEP_COUNT at the edge -/
  step : BitVec 8
  /-- TCLK count at the edge -/
  tick : Nat
  /-- the edge came in RUN, SHED or STANDBY -/
  live : Bool
  /-- the edge carries a label (08_chisel_instructions.md R179) -/
  labelled : Bool := false
  deriving DecidableEq, Repr

/-- The time base (03_time_base.md). -/
structure Tim where
  /-- device time in whole ns since 1970-01-01 TAI (R49) -/
  dt : Nat := 0
  /-- remainder below 1 ns in units of 1/(2^40·10^4) ns (R50) -/
  acc : Nat := 0
  /-- elapsed TCLK cycles (R50, R59) -/
  ticks : Nat := 0
  /-- frequency correction F in units of 2^-40, TIM_FREQ (R50) -/
  freq : Int := 0
  /-- correction remaining of a running slew in units of 1/(2^40·10^4) ns, TIM_SLEW (R63) -/
  slew : Int := 0
  /-- a slew is in progress, TIM_STATUS.SLEWING (R63) -/
  slewing : Bool := false
  /-- steps since reset modulo 256, TIM_STATUS.STEP_COUNT (R64) -/
  step : BitVec 8 := 0
  /-- TCLK count of the latest step, 0 before any (R65) -/
  stepTick : Nat := 0
  /-- amount of the latest step in ns (R65) -/
  stepDelta : Int := 0
  /-- selected source 0 to 4, TIM_STATUS.SOURCE (R55) -/
  source : Nat := 0
  /-- TIM_STATUS.LOCKED (R58) -/
  locked : Bool := false
  /-- TIM_STATUS.HOLDOVER (R57) -/
  holdover : Bool := false
  /-- TIM_STATUS.TCLK_REF: TCLK runs from REF10 (R61) -/
  ref10 : Bool := false
  /-- TIM_STATUS.EVER_LOCKED (Table TIM-5) -/
  everLocked : Bool := false
  /-- a TIME_SET has occurred since reset (R67) -/
  everSet : Bool := false
  /-- TIM_STATUS.QUALITY (R67) -/
  quality : Nat := 15
  /-- error bound E in ns at `eTick`, none before any bound is known, TIM_ERRBOUND (R67) -/
  eBase : Option Nat := none
  /-- TCLK count from which E grows (R67) -/
  eTick : Nat := 0
  /-- E grows with time: HOLDOVER or after TIME_SET (R67) -/
  eGrow : Bool := false
  /-- consecutive applied samples within LOCK_US (R58) -/
  lockGood : Nat := 0
  /-- consecutive applied samples above LOCK_US (R58) -/
  lockBad : Nat := 0
  /-- F after the last 64 servo updates, newest first (R57) -/
  fHist : List Int := []
  /-- sources PTP, PPS, IRIG, ARM (R54) -/
  ptp : Source := {}
  pps : Source := {}
  irig : Source := {}
  arm : Source := {}
  /-- latest accepted PPS_IN edge (R59) -/
  edge : Option PpsEdge := none
  /-- PPS_MISSING has been set since the latest edge (R59) -/
  edgeMissed : Bool := false
  /-- PPS_OUT pin level (R69) -/
  ppsOut : Bool := false
  /-- last whole second that raised PPS_OUT (R69) -/
  ppsSec : Option Nat := none
  /-- TCLK count at the last PPS_OUT edge (R69) -/
  ppsTick : Nat := 0
  /-- year offset advanced for IRIG codes without a year (R60) -/
  irigYear : Nat := 0
  /-- day of year of the last good IRIG frame (R60) -/
  irigDay : Nat := 0
  /-- offset decoded by the IRIG extension, replacing LOCAL_OFS, in minutes (R60) -/
  irigOfs : Option Int := none
  /-- egress event stamps of the port queues NP0 to NP3, at most 64 each (03_time_base.md, PTP) -/
  tx0 : List Nat := []
  tx1 : List Nat := []
  tx2 : List Nat := []
  tx3 : List Nat := []
  /-- stamps of TRIG_IN[0] and TRIG_IN[1] rising edges not yet retired, newest first (R68, 11_analysis_triggers.md R245) -/
  trig0 : List Nat := []
  trig1 : List Nat := []
  /-- LEAP_AT has been reached and reported (R53) -/
  leapDone : Bool := false
  /-- valid ARM exchanges of the present 16 ms window: θ, bound (14_armature_links.md R307) -/
  armWin : List (Int × Nat) := []
  /-- time quality last reported by the ARM parent (R62) -/
  armQuality : Nat := 15
  deriving DecidableEq, Repr

/-- One receive queue entry with its stamp (04_serial_ports.md R78, Table SER-2). -/
structure RxEntry where
  d : BitVec 9
  nf : Bool := false
  pe : Bool := false
  fe : Bool := false
  brk : Bool := false
  loss : Bool := false
  /-- arrival stamp, ns of device time (R74, R78) -/
  stamp : Nat := 0
  /-- STEP_COUNT at the stamp (R65, R78) -/
  step : BitVec 8 := 0
  /-- the same moment on the counter that no step moves, ns of TCLK, from which a gap across a step is taken
  (05_sentences_checks.md R110) -/
  tick : Nat := 0
  deriving DecidableEq, Repr

/-- One transmit queue entry (04_serial_ports.md Table SER-3). -/
structure TxEntry where
  d : BitVec 9
  brk : Bool := false
  deriving DecidableEq, Repr

/-- SER_PSTAT.LINE (04_serial_ports.md Table SER-5). -/
inductive Line where
  | alive
  | brk
  | dead
  | held
  deriving DecidableEq, Repr

/-- One serial port (04_serial_ports.md). -/
structure Port where
  /-- receive queue, oldest first, at most 64 (R78) -/
  rxq : List RxEntry := []
  /-- characters were dropped before the next entry (R81) -/
  lossPending : Bool := false
  /-- transmit queue, oldest first, at most 64 (R84) -/
  txq : List TxEntry := []
  /-- characters sent in loopback and not yet received (R90) -/
  loopq : List TxEntry := []
  /-- SER_PSTAT.LINE (R85, R86, R92) -/
  line : Line := .alive
  /-- SER_PSTAT.RTS: asserted (R82) -/
  rts : Bool := false
  /-- SER_PSTAT.CTS: asserted, as synchronised (R83) -/
  cts : Bool := false
  /-- SER_PSTAT.TX_BUSY (Table SER-5) -/
  txBusy : Bool := false
  /-- SER_PSTAT.TX_CTS_WAIT (R83) -/
  ctsWait : Bool := false
  /-- from when the line has been low without a pause: the stamp of the break's sample 0, or the return of a held bank (R86, R92) -/
  stuckFrom : Option Nat := none
  /-- SER_PCFG in force in the receiver (R87) -/
  rxCfg : BitVec 32 := 0x00080780
  /-- SER_PCFG in force in the transmitter (R87) -/
  txCfg : BitVec 32 := 0x00080780
  /-- receiver has yet to take the new setting (R87) -/
  rxPend : Bool := false
  /-- transmitter has yet to take the new setting (R87) -/
  txPend : Bool := false
  deriving DecidableEq, Repr

/-- One serial bank's supply (04_serial_ports.md R92, R93). -/
structure Bank where
  /-- SER_BSTAT.VIO_OK (R93) -/
  vioOk : Bool := false
  /-- held for a VIO fault (R93) -/
  fault : Bool := false
  /-- SER_BSTAT.SHED (R92) -/
  shed : Bool := false
  deriving DecidableEq, Repr

/-- A closed sentence with what assembly hands on (05_sentences_checks.md R107). -/
structure Sentence where
  /-- source interface: 0 serial port, 1 network port, 2 Armature link (06_flows.md Table FLW-1) -/
  typ : Nat := 0
  /-- port or link number -/
  idx : Nat := 0
  /-- FORMAT of Table FLW-1 -/
  fmt : Nat := 0
  /-- arrival stamp, ns of device time -/
  stamp : Nat := 0
  /-- STEP_COUNT at the stamp (03_time_base.md R65) -/
  step : BitVec 8 := 0
  /-- the bytes of the sentence, tag block included -/
  data : Bytes := []
  /-- length without the tag block (R97) -/
  len : Nat := 0
  /-- talker identifier, IDCODE or source device ID, as the two bytes of IDENT -/
  ident : Nat := 0
  /-- sentence formatter, or domain or flow number: the four bytes of FORMATTER -/
  formatter : Nat := 0
  /-- tag block `s:` value (R106) -/
  sTag : Option Bytes := none
  /-- tag block `n:` value (R106) -/
  nTag : Option Nat := none
  /-- source IP address, 16 bytes, empty when there is none -/
  addr : Bytes := []
  /-- UDP source port -/
  udp : Nat := 0
  /-- VLAN ID where tagged -/
  vlan : Option Nat := none
  noisy : Bool := false
  noCs : Bool := false
  checkFailed : Bool := false
  /-- NOT_ON_GRID of a class 2 cell (14_armature_links.md R299) -/
  offGrid : Bool := false
  deriving DecidableEq, Repr

/-- Where an ASCII sentence in progress stands (05_sentences_checks.md R97). -/
inductive AscPhase where
  | tagKey            -- expects a field letter
  | tagColon          -- expects `:`
  | tagValue          -- inside a field value
  | tagSum (n : Nat)  -- n checksum characters of the tag block seen
  | tagDone           -- expects `$` or `!`
  | addr
  | data
  | sum               -- after `*`
  | cr                -- CR seen
  deriving DecidableEq, Repr

/-- What is in progress on a serial source (05_sentences_checks.md R96 to R102). -/
inductive AsmKind where
  | ascii (p : AscPhase)
  | c37
  | raw
  deriving DecidableEq, Repr

/-- An open sentence (05_sentences_checks.md R96). -/
structure OpenSent where
  kind : AsmKind
  /-- characters taken so far -/
  chars : Bytes := []
  /-- characters of the tag block, both backslashes included -/
  tagLen : Nat := 0
  stamp : Nat := 0
  step : BitVec 8 := 0
  noisy : Bool := false
  /-- arrival stamp of the last entry, its STEP_COUNT, and its moment on the counter that no step moves (R102, R103, R110) -/
  lastStamp : Nat := 0
  lastStep : BitVec 8 := 0
  lastTick : Nat := 0
  /-- the check units that watch the sentence, with CU_CFG and CU_RANGE as they stood at its opener (R116) -/
  cus : List (Nat × BitVec 32 × BitVec 32) := []
  /-- the entries after the opener of a C37.118 frame whose FRAMESIZE is not yet known (R101) -/
  ents : List RxEntry := []
  deriving DecidableEq, Repr

/-- One frame in a network port's receive FIFO (05_sentences_checks.md R105). -/
structure NetFrame where
  bytes : Bytes
  stamp : Nat
  step : BitVec 8
  deriving DecidableEq, Repr

/-- One network port (05_sentences_checks.md R105, Table SNT-5). -/
structure NetPort where
  /-- SNT_NPSTAT.BLOCK_LOCK -/
  blockLock : Bool := false
  /-- SNT_NPSTAT.FEC_LOCK -/
  fecLock : Bool := false
  /-- powered down at SHED2 (02_modes.md Table MOD-5) -/
  shed : Bool := false
  /-- receive FIFO, oldest first, at most 256 KiB (R106) -/
  fifo : List NetFrame := []
  deriving DecidableEq, Repr

/-- Sentence assembly, classification queue and alive counters (05_sentences_checks.md). -/
structure Snt where
  /-- open sentence of each serial source (R96) -/
  asm : SMap (Option OpenSent) := []
  /-- closed sentences waiting for classification, oldest first (R107, R122) -/
  classQ : List Sentence := []
  /-- network ports NP0 to NP3 (R105) -/
  np : SMap NetPort := []
  /-- alive reference of M0, none when unset, SNT_ALIVE[0] (R118) -/
  alive0 : Option Nat := none
  /-- alive reference of M1, SNT_ALIVE[1] (R118) -/
  alive1 : Option Nat := none
  /-- alive references of M2 by originating device, most recently used first, at most 64 (R118) -/
  alive2 : List (Nat × Nat) := []
  deriving DecidableEq, Repr

/-- Flow store and key table (06_flows.md R121, R124). -/
structure Flw where
  /-- flow contexts: byte o of context f at 512f + o (R124) -/
  ctx : SMap (BitVec 8) := []
  /-- key table: byte b of bucket j at 32j + b (R121) -/
  keys : SMap (BitVec 8) := []
  /-- device time from which the silence timeout runs after a time step (R127) -/
  silBase : SMap (Option Nat) := []
  deriving DecidableEq, Repr


/-- A HOLD record on its way to, or in, the alignment store (09_alignment.md R185, R186). -/
structure Rec where
  flow : Nat
  /-- measurement time m, ns of device time (R185) -/
  mt : Nat
  /-- arrival stamp, ns of device time (08_chisel_instructions.md R181) -/
  stamp : Nat
  /-- STEP_COUNT of the arrival stamp (03_time_base.md R65) -/
  step : BitVec 8
  data : Bytes
  /-- the flow's SEQ, which its trailer folds in (05_sentences_checks.md R117) -/
  seq : Nat := 0
  /-- CRC-32C trailer of the internal frame (01_architecture.md R17) -/
  crc : Nat := 0
  noisy : Bool := false
  /-- marks a lane set (R198) -/
  settle : Bool := false
  resampled : Bool := false
  /-- the record is lost (R203) -/
  lost : Bool := false
  /-- on-chip slots it occupies (R186) -/
  slots : List Nat := []
  /-- deep-store slots it occupies (R188) -/
  deep : List Nat := []
  deriving DecidableEq, Repr

/-- A pending set (09_alignment.md R187). -/
structure PSet where
  /-- set time, ns (R185) -/
  t : Nat
  /-- its records, oldest first -/
  recs : List Rec := []
  /-- descriptor slot followed by presence-map slots (R187) -/
  slots : List Nat := []
  /-- records of the set were spilled (R189) -/
  spilled : Bool := false
  deriving DecidableEq, Repr

/-- A late-ring entry with its presence map (09_alignment.md R187, R199). -/
structure LateEnt where
  t : Nat
  /-- REL_TIME in ns (R199) -/
  rel : Nat
  /-- QUALITY of the released-set header (R199) -/
  quality : Nat
  /-- members present (R199) -/
  present : List Nat
  /-- presence-map slots (R187) -/
  slots : List Nat := []
  deriving DecidableEq, Repr

/-- One alignment domain (09_alignment.md R184, R196). -/
structure Dom where
  /-- the domain has started (R196) -/
  started : Bool := false
  /-- set time of the next set to be released, ALN_DCURSEC and ALN_DCURNS (R196) -/
  cursor : Nat := 0
  /-- pending sets in set-time order, at most 1,024 (R187) -/
  pend : List PSet := []
  /-- late ring, oldest first (R199) -/
  late : List LateEnt := []
  /-- on-chip slots of the late ring's entries, eight entries to a slot (R187) -/
  ring : List Nat := []
  /-- ALN_DSTAT.LAST_CAUSE (Table ALN-8) -/
  lastCause : Nat := 0
  /-- ALN_DSTAT.LAST_PARTIAL (Table ALN-8) -/
  lastPartial : Bool := false
  /-- ALN_DLASTREL.DELAY_US (Table ALN-8) -/
  lastDelay : Nat := 0
  /-- ALN_DMEMB.WAITED (Table ALN-8) -/
  waited : Nat := 0
  /-- set time of the last set released, ns (12_event_capture.md R257) -/
  lastSet : Option Nat := none
  /-- sets released since reset (12_event_capture.md R263) -/
  released : Nat := 0
  deriving DecidableEq, Repr

/-- A member entry of a released set with its record (09_alignment.md R198, Table ALN-6). -/
structure Member where
  flow : Nat
  present : Bool := false
  required : Bool := false
  waited : Bool := false
  whyNot : Nat := 0
  incomplete : Bool := false
  childPartial : Bool := false
  lost : Bool := false
  stepOld : Bool := false
  /-- the member's records: one, or the fragments and marker of a FORMAT 4 flow (R208) -/
  recs : List Rec := []
  deriving DecidableEq, Repr

/-- A released set (09_alignment.md R197, Table ALN-5). -/
structure RelSet where
  dom : Nat
  t : Nat
  rel : Nat
  cause : Nat
  partialSet : Bool
  empty : Bool
  spilled : Bool
  lost : Bool
  stepMix : Bool
  quality : Nat
  waited : Nat
  missing : Nat
  members : List Member
  /-- STEP_COUNT at the release -/
  step : BitVec 8 := 0
  /-- set time of the set released before it in its domain, ns (11_analysis_triggers.md R245, 12_event_capture.md R257) -/
  prev : Option Nat := none
  /-- sets released in its domain before it (12_event_capture.md R263) -/
  number : Nat := 0
  deriving DecidableEq, Repr

/-- What the alignment store hands on (09_alignment.md R197, R199, R207). -/
inductive Handed where
  /-- a released set, for egress, analysis and event capture -/
  | set (x : RelSet)
  /-- a late supplement for the set at t, with the set's QUALITY -/
  | late (dom t quality : Nat) (r : Rec)
  /-- a fragment of a STREAM_UP domain; late and resend as in 14_armature_links.md Table ARM-1 -/
  | fragment (dom t : Nat) (late resend : Bool) (r : Rec)
  /-- a completion marker of a STREAM_UP domain -/
  | marker (x : RelSet)
  deriving DecidableEq, Repr

/-- The alignment store (09_alignment.md). -/
structure Aln where
  doms : SMap Dom := []
  /-- HOLD records waiting for the store, oldest first (R191) -/
  inQ : List Rec := []
  /-- what has been handed on and not yet delivered within the present step: the model's own field, empty between steps -/
  outbox : List Handed := []
  /-- spill is in force, ALN_DEEPSTAT.SPILLING (R188) -/
  spilling : Bool := false
  /-- SRAM banks gated (01_architecture.md R28) -/
  gated : List Nat := []
  deriving DecidableEq, Repr

/-- One stream of a rate conversion lane: the history of one served flow (10_rate_conversion.md R212, R213). -/
structure Stream where
  /-- the stream has taken an input since its start or last reset -/
  started : Bool := false
  /-- the last DEPTH records, newest first, filled copies included (R212, Table RCV-3) -/
  hist : List Rec := []
  /-- records pushed since the start: positions before them lie before the first record (R215) -/
  count : Nat := 0
  /-- inputs taken since the start, filled samples not counted (R222) -/
  inputs : Nat := 0
  /-- the first record, for PRIME (R222) -/
  first : Option Rec := none
  /-- LAYOUT at the start (Table RCV-3) -/
  layout : Nat := 0
  /-- DATA_RATE at the start (Table RCV-3) -/
  rate : Nat := 0
  /-- index of NEXT_G on the domain's grid, counted from the TAI epoch (R213) -/
  nextG : Nat := 0
  /-- Q in units of 2^-32 input periods (R213) -/
  q : Int := 0
  /-- grid points at or after NEXT_G that the flow's own records hit (R214) -/
  hits : List Nat := []
  /-- the state slot (R212) -/
  slot : List Nat := []
  deriving DecidableEq, Repr

/-- A fade to another bank (10_rate_conversion.md R224). -/
structure Fade where
  target : Nat
  /-- index of the grid point G_s, RCV_LFADESEC and RCV_LFADENS -/
  gs : Nat
  deriving DecidableEq, Repr

/-- One rate conversion lane (10_rate_conversion.md). -/
structure Lane where
  /-- RCV_LSTAT.CUR_BANK (R209, R224) -/
  bank : Nat := 0
  /-- RCV_LSTAT.FADING and TARGET (R224) -/
  fade : Option Fade := none
  /-- pending request: bank and start time in ns, RCV_LSTAT.PENDING and PEND_BANK (R225) -/
  pending : Option (Nat × Nat) := none
  /-- latest grid index for which an output was computed since the last lane-wide reset (R224) -/
  latest : Option Nat := none
  /-- RCV_LSTAT.SHED: powered off since SHED1 (R227) -/
  shed : Bool := false
  /-- streams by flow (R212) -/
  streams : SMap Stream := []
  /-- records waiting to be taken, oldest first; true: a copy of an on-grid record (R210) -/
  inQ : List (Rec × Bool) := []
  deriving DecidableEq, Repr

/-- The rate conversion lanes (10_rate_conversion.md). -/
structure Rcl where
  lanes : SMap Lane := []
  /-- lanes to which the committed image assigns a flow: the others are gated, RCV_LSTAT.GATED (01_architecture.md R28, Table ARC-9) -/
  woken : List Nat := []
  /-- coefficient store: bank b at 0x4000b, header b at 0x100000 + 64b (R217, R228) -/
  coef : SMap (BitVec 8) := []
  deriving DecidableEq, Repr
/-- One band of one watched signal (11_analysis_triggers.md R236 to R240); values are binary32 encodings. -/
structure BandEst where
  /-- high-pass stage: x1, x2, y1, y2 (R236) -/
  hx1 : Nat := 0
  hx2 : Nat := 0
  hy1 : Nat := 0
  hy2 : Nat := 0
  /-- low-pass stage: x1, x2, y1, y2 (R236) -/
  lx1 : Nat := 0
  lx2 : Nat := 0
  ly1 : Nat := 0
  ly2 : Nat := 0
  /-- envelope P (R237) -/
  env : Nat := 0
  /-- band signals v_{k−1}, v_{k−2}, newest first, at most two (R238) -/
  vs : List Nat := []
  /-- estimate θ = (a1, a2) (R238) -/
  th1 : Nat := 0
  th2 : Nat := 0
  /-- matrix P: p11, p12 = p21, p22; 2²⁰ times the identity after a reset (R238) -/
  p11 : Nat := 0x49800000
  p12 : Nat := 0
  p22 : Nat := 0x49800000
  /-- values fed since the last reset, saturating at 65,535 (R240) -/
  fed : Nat := 0
  deriving DecidableEq, Repr

/-- The estimator of one watched signal (11_analysis_triggers.md R232, R234, R241). -/
structure SigEst where
  /-- last value fed since the last reset (R232, R234) -/
  last : Option Nat := none
  /-- held values in a row (R234) -/
  held : Nat := 0
  /-- valid sample of the last set analysed (R233) -/
  sample : Option Nat := none
  /-- the sample of the last set was invalid, ANA_RFLAGS.SAMPLE_INVALID (Table ANA-7) -/
  invalid : Bool := false
  /-- set time of the last set analysed, ns (R253) -/
  setTime : Nat := 0
  /-- bands by number (R236) -/
  bands : SMap BandEst := []
  deriving DecidableEq, Repr

/-- One pair of areas (11_analysis_triggers.md R243). -/
structure AreaPair where
  islanded : Bool := false
  /-- cause of the last declaration: false frequency, true angle, ANA_PSTAT.CAUSE (Table ANA-7) -/
  byAngle : Bool := false
  /-- φ in degrees, binary32 -/
  phi : Nat := 0
  cnt : Nat := 0
  xcnt : Nat := 0
  /-- last Δf in Hz, ANA_PDF (Table ANA-7) -/
  df : Nat := 0x7FC00000
  deriving DecidableEq, Repr

/-- One trigger condition (11_analysis_triggers.md R246). -/
structure TrigCond where
  on : Bool := false
  /-- sets counted towards PERSIST -/
  persist : Nat := 0
  /-- sets counted towards CLEAR_N -/
  clear : Nat := 0
  deriving DecidableEq, Repr

/-- The analysis unit (11_analysis_triggers.md). -/
structure Ana where
  /-- released sets waiting, oldest first, at most 64, ANA_QSTAT (R230) -/
  queue : List RelSet := []
  /-- estimators of watched signals 0 to 1,023 (R231) -/
  sigs : SMap SigEst := []
  /-- pairs (i, j), i < j, at 32i + j (R243) -/
  pairs : SMap AreaPair := []
  /-- frequency of each area in the last set, binary32, ANA_AREAF (R242) -/
  areaF : SMap Nat := []
  /-- trigger conditions TC0 to TC31, ANA_TCSTATE (R246) -/
  tcs : SMap TrigCond := []
  /-- set time of the last set analysed in each domain, ns (R234, R245) -/
  prev : SMap (Option Nat) := []
  /-- alarm requests of pins 0 to 3 (R249) -/
  request : Nat := 0
  /-- since the entry to RUN from STANDBY no set has been analysed: the pins do not follow the requests yet (Table ANA-3) -/
  unseen : Bool := false
  deriving DecidableEq, Repr

/-- The settings of a capture group that a record was made with (12_event_capture.md Table CAP-2). -/
structure CapCfg where
  dom : Nat := 0
  pre : Nat := 0
  post : Nat := 0
  count : Nat := 0
  first : Nat := 0
  /-- MEMBER_BYTES -/
  mb : Nat := 0
  deriving DecidableEq, Repr

/-- What the device keeps of a sample it has written, for the record header and late patches (12_event_capture.md R261,
R264). -/
structure Sample where
  /-- position in the slot (R259) -/
  pos : Nat
  /-- a time-step marker (R262) -/
  marker : Bool
  /-- SET_TIME and REL_TIME, ns -/
  t : Nat
  rel : Nat
  partialSet : Bool := false
  empty : Bool := false
  missing : Nat := 0
  quality : Nat := 0
  settle : Bool := false
  lost : Bool := false
  /-- member blocks truncated -/
  trunc : Nat := 0
  /-- flows of the member blocks, in order -/
  flows : List Nat := []
  /-- late supplements written into it (R264) -/
  patches : Nat := 0
  deriving DecidableEq, Repr

/-- A record, open or closed and not yet FINAL (12_event_capture.md R260, R263, R264). -/
structure CapRec where
  seq : Nat
  /-- DDR address of its slot -/
  addr : Nat
  cfg : CapCfg
  /-- pre-trigger samples, oldest first -/
  pre : List Sample
  preStart : Nat
  trig : Sample
  /-- samples at positions PRE + 1 onward -/
  post : List Sample := []
  fired : Nat
  primary : Nat
  ext : Nat
  missed : Nat
  deadSets : Nat
  deadNs : Int
  summary : Nat
  shed : Bool := false
  commit : Bool := false
  closed : Bool := false
  final : Bool := false
  closeTime : Nat := 0
  dropped : Nat := 0
  deriving DecidableEq, Repr

/-- A released set in a group's staging buffer (12_event_capture.md R256). -/
structure Staged where
  set : RelSet
  /-- the trigger decision is known -/
  ready : Bool := false
  /-- conditions that fired in the set -/
  fired : Nat := 0
  /-- a fired condition names the group -/
  named : Bool := false
  /-- its summary -/
  summary : Option Nat := none
  /-- late supplements that found it here, oldest first (R264) -/
  late : List Rec := []
  deriving DecidableEq, Repr

/-- One capture group (12_event_capture.md). -/
structure CapGroup where
  /-- state of Table CAP-1, CAP_GSTAT.STATE -/
  state : Nat := 0
  /-- current slot, CAP_GSTAT.SLOT (R259) -/
  slot : Nat := 0
  /-- staging buffer, oldest first (R256) -/
  staged : List Staged := []
  /-- samples in the current ring, newest first, at most PRE; their number is CAP_GSTAT.PRE_FILL (R260) -/
  ring : List Sample := []
  /-- next ring position (R260) -/
  ringPos : Nat := 0
  /-- sets written since REARM, up to 2 (R260) -/
  rearm : Nat := 0
  /-- records opened since reset (R259) -/
  seq : Nat := 0
  /-- newest closed record, CAP_GNEWEST (Table CAP-6) -/
  newest : Nat := 0
  /-- oldest valid record, CAP_GOLDEST (Table CAP-6) -/
  oldest : Nat := 0
  /-- pending miss count, CAP_GMISSED (R258) -/
  missed : Nat := 0
  /-- the open record (R260) -/
  opened : Option CapRec := none
  /-- the closed record whose header flush is in progress (R260) -/
  flushing : Option CapRec := none
  /-- closed records that are not FINAL, oldest first (R264) -/
  recs : List CapRec := []
  /-- samples written since the group started, SAMPLE_NO (Table CAP-3) -/
  samples : Nat := 0
  /-- CAPTURE_FORCE waits for the next set (R257) -/
  forced : Bool := false
  /-- REL_TIME of the previous record's trigger set and its number in its domain (R263) -/
  lastTrig : Option (Nat × Nat) := none
  /-- DEAD_SETS and DEAD_NS, once the group was ARMED again (R263) -/
  dead : Option (Nat × Int) := none
  deriving DecidableEq, Repr

/-- Event capture (12_event_capture.md). -/
structure Cap where
  groups : SMap CapGroup := []
  /-- newest SUMMARY_NO, CAP_SUMNEWEST (R266) -/
  newest : Nat := 0
  /-- valid summaries on chip, CAP_SUMSTAT.COUNT (Table CAP-7) -/
  count : Nat := 0
  /-- unflushed summaries, CAP_SUMSTAT.UNFLUSHED (R47, R266) -/
  unflushed : Nat := 0
  /-- next place in the summary region of the flash, 0 to 511 (R267) -/
  place : Nat := 0
  deriving DecidableEq, Repr

/-- Work of a scheduler (13_egress.md R271, Table EGR-1). -/
inductive EgrJob where
  /-- a SET frame of a released set -/
  | set (x : RelSet)
  /-- a LATE frame: domain, set time, QUALITY of the set, supplements -/
  | late (dom t quality : Nat) (recs : List Rec)
  /-- the payload of a FWD or IEC450 datagram -/
  | data (payload : Bytes)
  /-- a whole frame of the host (15_host_interface.md STREAM_SEND) -/
  | raw (frame : Bytes)
  /-- a sentence for a serial transmitter, with its key in latest-value slots -/
  | serial (key : List Nat) (bytes : Bytes)
  /-- an entry of a host queue: queue, KIND, flow, source sentence, NOT_ON_GRID -/
  | entry (h kind flow : Nat) (x : Sentence) (offGrid : Bool) (bytes : Bytes)
  deriving DecidableEq, Repr

/-- A job waiting at a scheduler: its priority, its source (a stream 0 to 255, 256 for the host, or a flow) and its cost: bytes on the wire of a
network port, else 1 (13_egress.md R271, R272). -/
structure PortJob where
  prio : Nat
  src : Nat
  len : Nat
  job : EgrJob
  /-- number of the job, by which its builder knows it -/
  id : Nat := 0
  /-- the frame's payload, once its builder has completed it (R274) -/
  built : Option Bytes := none
  deriving DecidableEq, Repr

/-- One scheduler (13_egress.md R272). -/
structure NetOut where
  /-- jobs waiting, oldest first -/
  jobs : List PortJob := []
  /-- deficit round robin of each priority: source, credit, and that the source has had its gain of this turn -/
  rings : SMap (List (Nat × Nat × Bool)) := []
  /-- the job granted whose frame is still being built (Sequence EGR-1) -/
  granted : Option PortJob := none
  deriving DecidableEq, Repr

/-- One network output stream beside its registers (13_egress.md R275, R276). -/
structure OutStream where
  /-- set times of the releases that OUT_SEQ counted, newest first: on the standby back to the last stream record -/
  rels : List Nat := []
  /-- frames sent, for the IPv4 identification -/
  frames : Nat := 0
  deriving DecidableEq, Repr

/-- A late gather in progress (13_egress.md R281). -/
structure Gather where
  stream : Nat
  dom : Nat
  t : Nat
  quality : Nat
  recs : List Rec
  deriving DecidableEq, Repr

/-- The staging area of one serial transmitter (13_egress.md R283). -/
structure Stage where
  /-- first-in first-out of whole sentences, at most 4 KiB -/
  fifo : List Bytes := []
  /-- latest-value slots in the order of sending: key and sentence -/
  slots : List (List Nat × Bytes) := []
  /-- the sentence that has begun to enter the transmit queue, and the characters moved -/
  cur : Option (Bytes × Nat) := none
  /-- the check units that watch that sentence, each with the CU_CFG and CU_RANGE it began under (05_sentences_checks.md R116) -/
  cus : List (Nat × BitVec 32 × BitVec 32) := []
  deriving DecidableEq, Repr

/-- A host-queue entry (13_egress.md Table EGR-3): SEQ, the descriptor words after word 0, and the data. -/
structure HqEntry where
  seq : Nat
  words : List Nat
  data : Bytes
  deriving DecidableEq, Repr

/-- One host queue (13_egress.md R284). -/
structure HostQueue where
  /-- entries held, oldest first -/
  entries : List HqEntry := []
  /-- SEQ of the next entry -/
  next : Nat := 0
  deriving DecidableEq, Repr

/-- One ALARM_OUT pin (13_egress.md R288). -/
structure AlarmPin where
  /-- EGR_ALSTAT.ASSERTED -/
  asserted : Bool := false
  /-- EGR_ALSTAT.HOLDING: MIN_WIDTH running -/
  holding : Bool := false
  /-- level driven, none when released -/
  out : Option Bool := some false
  deriving DecidableEq, Repr

/-- Egress (13_egress.md). -/
structure Egr where
  /-- released sets whose build jobs wait for the mirror update, oldest first (R275) -/
  setQ : List RelSet := []
  /-- schedulers of NP0 to NP3 at 0 to 3, of serial transmitters SP0 to SP95 at 12 to 107, of the host-queue stager at 108 (R272) -/
  ports : SMap NetOut := []
  /-- build jobs that wait for a builder, oldest first: priority, port and number of the job (R274) -/
  builds : List (Nat × Nat × Nat) := []
  /-- frame builders 0 to 15: port and number of the job (R274) -/
  builders : SMap (Option (Nat × Nat)) := []
  /-- number of the next job -/
  nextJob : Nat := 0
  streams : SMap OutStream := []
  /-- late gathers, oldest first (R281) -/
  gathers : List Gather := []
  /-- staging of SP0 to SP95 (R283) -/
  stages : SMap Stage := []
  /-- host queues 0 to 15 (R284) -/
  hqs : SMap HostQueue := []
  /-- ALARM_OUT[3:0] (R288) -/
  pins : SMap AlarmPin := []
  /-- block table, window page 0x030: block b at 8b (R277) -/
  blocks : SMap (BitVec 8) := []
  /-- header templates, window page 0x031: stream s at 128s (R276) -/
  tmpl : SMap (BitVec 8) := []
  deriving DecidableEq, Repr

/-- An entry of the dispatcher: a sentence run or a timer run (07_chisel_machine.md R139, R143). -/
structure QEntry where
  /-- timer k of a timer run -/
  timer : Option Nat := none
  flow : Nat := 0
  prio : Nat := 0
  /-- arrival stamp, or scheduled firing time -/
  stamp : Nat := 0
  step : BitVec 8 := 0
  /-- the sentence as classified (R162); empty for a timer run -/
  sent : Sentence := {}
  /-- the flow's SEQ when the sentence was classified (05_sentences_checks.md R117) -/
  seq : Nat := 0
  /-- CRC-32C trailer of the internal frame (01_architecture.md R17) -/
  crc : Nat := 0
  deriving DecidableEq, Repr

/-- A held emit (07_chisel_machine.md R156). -/
structure Emit where
  /-- to a host queue, else to a listener group -/
  toQueue : Bool
  dest : Nat
  bytes : Bytes
  deriving DecidableEq, Repr

/-- How a run ended, until its write-back ends (07_chisel_machine.md R154). -/
inductive Ending where
  | forward
  | hold (mt : Nat)
  | host (q : Nat)
  | drop
  deriving DecidableEq, Repr

/-- A dequeued entry with its copy of the flow context (07_chisel_machine.md R141, R149). -/
structure Run where
  entry : QEntry
  /-- context space: byte o of the copy made at dispatch -/
  ctx : SMap (BitVec 8) := []
  /-- the first instruction may issue: registers hold Table CHS-3 -/
  started : Bool := false
  /-- sentence space below its length -/
  sent : Bytes := []
  /-- instructions issued (R155) -/
  issued : Nat := 0
  /-- emits held, oldest first -/
  emits : List Emit := []
  /-- LAYOUT, EXP_PERIOD and LAST_MT changed by flow instructions (R149) -/
  layoutSet : Bool := false
  expSet : Bool := false
  mtSet : Bool := false
  /-- quarantine at write-back (08_chisel_instructions.md R180) -/
  quar : Bool := false
  ending : Option Ending := none
  deriving DecidableEq, Repr

/-- The states a thread shows outside a run (07_chisel_machine.md Table CHS-1). -/
inductive Rest where
  | gated
  | idle
  | off
  deriving DecidableEq, Repr

/-- One hardware thread (07_chisel_machine.md R137, R144). -/
structure Thread where
  /-- state while no run is held (Table CHS-1) -/
  rest : Rest := .off
  run : Option Run := none
  /-- ahead slot (R141) -/
  ahead : Option Run := none
  /-- G1 to G15 by number (R144) -/
  g : SMap (BitVec 32) := []
  /-- T0 to T3 by number, 64-bit device time (R144) -/
  t : SMap (BitVec 64) := []
  /-- field cursor, 0 to 4,096 (R144) -/
  fc : Nat := 0
  z : Bool := false
  n : Bool := false
  c : Bool := false
  v : Bool := false
  /-- instruction index, 16 bits (R144) -/
  pc : Nat := 0
  /-- return addresses, newest first, at most 8 (R144) -/
  stack : List Nat := []
  /-- device time that a WAITT waits for (08_chisel_instructions.md R183) -/
  waitUntil : Option Nat := none
  /-- moment of TCLK in ns until which a WAIT holds the thread (R183) -/
  waitTick : Nat := 0
  /-- the copy of its last emit waits for room in the egress store (08_chisel_instructions.md R181) -/
  waitRoom : Bool := false
  /-- sentence cells of the thread's reserve that are there (R148) -/
  reserve : Nat := 2
  deriving DecidableEq, Repr

/-- Dispatcher, threads and stores of the Chisel engines (07_chisel_machine.md). -/
structure Chs where
  /-- thread t of engine e at 4e + t (R137) -/
  threads : SMap Thread := []
  /-- priority queues P0 to P7, in order of stamp (R139) -/
  queues : SMap (List QEntry) := []
  /-- entries whose flow has a run or an earlier sentence ahead (R139) -/
  blocked : List QEntry := []
  /-- program store words (R159) -/
  prog : SMap (BitVec 32) := []
  /-- local spaces: byte a of engine e at 65536e + a (R150) -/
  loc : SMap (BitVec 8) := []
  /-- scheduled time of each timer's last firing (R143) -/
  timerLast : SMap (Option Nat) := []
  /-- the thread of each engine that issued last (R137) -/
  last : SMap Nat := []
  /-- threads whose last instruction gives its result after more than one CCLK (08_chisel_instructions.md R168) -/
  slow : List Nat := []
  /-- thread k has yielded to thread j of its engine, which was READY and has not issued since (08_chisel_instructions.md R183) -/
  yields : List (Nat × Nat) := []
  /-- dispatch is stopped for a commit (R160) -/
  paused : Bool := false
  deriving DecidableEq, Repr

/-- A cell waiting for a link, without its SEQ and trailer (14_armature_links.md Table ARM-1). -/
structure TxCell where
  cls : Nat
  active : Bool
  side : Bool
  late : Bool := false
  resend : Bool := false
  dest : Nat
  source : Nat
  hop : Nat := 0
  dom : Nat := 0
  flow : Nat := 0
  prio : Nat := 0
  payload : Bytes
  /-- the link on which a relayed cell was received, none for a cell the device originates (R302) -/
  via : Option Nat := none
  deriving DecidableEq, Repr

/-- What tells the class 2 cells of one raw frame from those of another at a link: the link they came on, SOURCE, FLOW, and the payload's
first 12 bytes, which every piece of the frame repeats (14_armature_links.md R299). -/
structure FrameKey where
  via : Option Nat
  source : Nat
  flow : Nat
  head : Bytes
  deriving DecidableEq, Repr

/-- A raw frame being rejoined (14_armature_links.md R299). -/
structure Rejoin where
  source : Nat
  flow : Nat
  total : Nat
  head : Bytes
  data : Bytes
  deriving DecidableEq, Repr

/-- The child's side of a time-transfer exchange (14_armature_links.md R306, R307). -/
structure Exch where
  num : Nat
  t1 : Nat
  t2 : Nat
  /-- STEP_COUNT of the parent in SYNC, and the device's own at t2 -/
  parentStep : Nat
  ownStep : BitVec 8
  /-- t3 and the device's own STEP_COUNT then, once DELAY_REQ has left -/
  t3 : Option (Nat × BitVec 8) := none
  deriving DecidableEq, Repr

/-- One Armature link (14_armature_links.md). -/
structure Link where
  /-- ARM_LSTAT.STATE: 0 OFF, 1 TRAINING, 2 HELLO, 3 UP, 4 FAULT (R292) -/
  state : Nat := 0
  /-- ARM_LSTAT.BLOCK_LOCK (R294) -/
  blockLock : Bool := false
  /-- ARM_LSTAT.FAULT_CAUSE (Table ARM-5) -/
  cause : Nat := 0
  /-- powered down at SHED2 (R311) -/
  shed : Bool := false
  /-- ARM_LSTAT.NEIGH_ID, NEIGH_SIDE, NEIGH_ACTIVE, NEIGH_ROLE (Table ARM-5) -/
  neighId : Nat := 0
  neighSide : Bool := false
  neighActive : Bool := false
  neighRole : Nat := 0
  /-- ARM_LNEIGH: mode, shed level, quality (R309) -/
  neighMode : Nat := 0
  neighShed : Nat := 0
  neighQuality : Nat := 15
  /-- consecutive HELLOs accepted, up to 3 (R292) -/
  hellos : Nat := 0
  /-- the neighbour has reported this device's HELLOs accepted (R292) -/
  acked : Bool := false
  /-- SEQ of the next cell sent and of the next cell expected (R297) -/
  txSeq : Nat := 0
  rxSeq : Nat := 0
  /-- cells waiting, oldest first (R298) -/
  txq : List TxCell := []
  /-- raw frame whose cells are being sent (R298) -/
  rawOpen : Option FrameKey := none
  /-- flows served within class 2, each with its SOURCE, latest first (13_egress.md R272) -/
  served : List (Nat × Nat) := []
  /-- the raw frame of which this link has received a piece and not yet the last (R298) -/
  arriving : Option FrameKey := none
  /-- receive buffer: sentences waiting for sentence buffer cells, oldest first, at most 64 KiB (R298) -/
  rxBuf : List Sentence := []
  /-- raw frames being rejoined (R299) -/
  rejoin : List Rejoin := []
  /-- number of the last exchange the device started (R306) -/
  exchNo : Nat := 0
  /-- exchange in progress as child (R306) -/
  exch : Option Exch := none
  /-- number of the last SYNC received since the link came up (R306) -/
  lastSync : Option Nat := none
  /-- valid exchanges of the present 16 ms window: 2θ in ps, 2d in ns, E of the parent, QUALITY of the parent (R307) -/
  window : List (Int × Int × Nat × Nat) := []
  /-- ARM_LDELAY and ARM_LTHETA (R307) -/
  delay : Option Nat := none
  theta : Int := 0
  deriving DecidableEq, Repr

/-- A record or marker waiting to go upward (14_armature_links.md R299, 09_alignment.md R207). -/
structure Frag where
  dom : Nat
  t : Nat
  late : Bool
  resend : Bool
  body : Rec
  deriving DecidableEq, Repr

/-- Armature links (14_armature_links.md). -/
structure Arm where
  links : SMap Link := []
  /-- the active uplink, ARM_STAT (R303) -/
  active : Option Nat := none
  /-- records of the present 2 µs window (R299) -/
  frags : List Frag := []
  /-- class 0 cells sent for each pending set: domain, set time, count (R299) -/
  sent : List (Nat × Nat × Nat) := []
  /-- management payloads that arrived within the present step, with SOURCE: the model's own field, empty between steps -/
  inbox : List (Nat × Bytes) := []
  deriving DecidableEq, Repr

/-- A boot-map entry in use (17_configuration.md Table CFG-5): port, its SER_PCFG word, its SNT assembly mode, and its
destination. -/
structure BootEntry where
  port : Nat
  ser : BitVec 32
  mode : Nat
  /-- the destination is a host queue, else a serial port -/
  toQueue : Bool
  dest : Nat
  deriving DecidableEq, Repr

/-- What the version journal says of a slot (17_configuration.md Table CFG-6): 0 EMPTY, 1 WRITTEN, 2 ACTIVE. -/
structure Slot where
  state : Nat := 0
  version : Nat := 0
  length : Nat := 0
  crc : Nat := 0
  deriving DecidableEq, Repr

/-- Where an image to be committed is read from (17_configuration.md R352, R361, R366). -/
inductive ImgSrc where
  | maquette
  | retained
  | slot (i : Nat)
  deriving DecidableEq, Repr

/-- A commit that waits for its instant (17_configuration.md R355, R361). -/
structure Waiting where
  /-- the commit instant, ns of device time -/
  at_ : Nat
  src : ImgSrc
  rollback : Bool := false
  /-- a COMMIT or ROLLBACK command completes with it: its key among the commands in flight -/
  cmd : Option Nat := none
  deriving DecidableEq, Repr

/-- A flash write in progress (17_configuration.md R364, R365): stages 0 EMPTY record, 1 erase, 2 program, 3 WRITTEN
record, 4 ACTIVE record. -/
structure FlashJob where
  slot : Nat
  version : Nat
  src : ImgSrc
  length : Nat
  crc : Nat
  stage : Nat := 0
  /-- sectors erased or pages programmed in the stage -/
  idx : Nat := 0
  /-- the other journal sector is being erased before the record -/
  erasing : Bool := false
  /-- the FLASH_WRITE that completes with it -/
  cmd : Option Nat := none
  deriving DecidableEq, Repr

/-- Images, versions and rollback (17_configuration.md). -/
structure Cfg where
  /-- boot-map entries in use (R363, 02_modes.md R43) -/
  boot : List BootEntry := []
  /-- SER_PCFG and SNT_PCFG words of the committed image that wait for the PLINTH to RUN boundary (04_serial_ports.md R87) -/
  held : SMap (Option (BitVec 32)) := []
  /-- an image is committed (02_modes.md R39) -/
  committed : Bool := false
  /-- AUTO_RUN and TWIN_IMAGE of the committed image (Table CFG-1) -/
  autoRun : Bool := false
  twinImage : Bool := false
  /-- CFG_RUNVER, CFG_PREVVER, CFG_RETVER (Table CFG-7) -/
  runVer : Nat := 0
  prevVer : Nat := 0
  retVer : Nat := 0
  /-- bytes of the retained image -/
  retLen : Nat := 0
  /-- IMAGE_WRITE has written into the Maquette since reset; it has written bytes 8 to 11 (R353, R354) -/
  maqUsed : Bool := false
  maqVerSet : Bool := false
  /-- the running version is confirmed (R359, R360) -/
  confirmed : Bool := false
  /-- a commit waits for its instant (R356) -/
  waiting : Option Waiting := none
  /-- the instant has come and runs are ending (R357); TCLK count at the instant (R359) -/
  applying : Bool := false
  instant : Nat := 0
  /-- TABLE section of the committed image and its TABLE_BASE, and its LOCAL section (07_chisel_machine.md R150, R160) -/
  tblSec : Bytes := []
  tblBase : Nat := 0
  locSec : Bytes := []
  /-- TCLK count at which the open confirm window ends (R359) -/
  window : Option Nat := none
  /-- slots A and B (R364) -/
  slotA : Slot := {}
  slotB : Slot := {}
  /-- CFG_JSEQ and the place of the newest record, 0 to 127 (R364) -/
  jseq : Nat := 0
  jpos : Option Nat := none
  /-- CFG_STAT.BOOT_SRC (Table CFG-7) -/
  bootSrc : Nat := 0
  /-- the slot whose image is being read at boot, and whether it is the fallback (R366) -/
  booting : Option (Nat × Bool) := none
  /-- the flash header was good (R363) -/
  hdrOk : Bool := false
  /-- DDR training was started: after a commit, or from DDR_CFG (R366) -/
  training : Bool := false
  job : Option FlashJob := none
  /-- slot that a CONFIRM makes ACTIVE once the running job ends (R365 step 5) -/
  toActivate : Option Nat := none
  /-- bytes of DDR that DDR_CFG of the flash header gives, 0 when it is not used (20_electrical.md R400) -/
  ddrBytes : Nat := 0
  /-- on the IXM-48E: what the device has read of the 128 MiB area in host memory, Maquette lowest (R353) -/
  hram : SMap (BitVec 8) := []
  deriving DecidableEq, Repr

/-- A completion (15_host_interface.md Table HST-4), without PHASE. -/
structure Cpl where
  tag : Nat
  status : Nat
  epoch : Nat
  slot : Nat
  /-- 0 local command, 1 EPOCH_BREAK, 2 remote command -/
  kind : Nat
  source : Nat
  result : Nat
  deriving DecidableEq, Repr

/-- A command that has started and has not completed (15_host_interface.md R317, R318). -/
structure Flight where
  /-- the model's own number of the command -/
  key : Nat
  /-- OPCODE of Table HST-5 -/
  op : Nat
  cmd : HostCmd
  /-- bytes of its DMA read still awaited (R326) -/
  awaited : Nat := 0
  /-- bytes read so far, where the command keeps them -/
  data : Bytes := []
  /-- bytes read so far -/
  done : Nat := 0
  /-- its handover boundary, ns (R348) -/
  at_ : Nat := 0
  /-- sent to device DEST (R324) -/
  sent : Bool := false
  deriving DecidableEq, Repr

/-- Power management state of the PCIe function (15_host_interface.md Table HST-1). -/
inductive PciPower where
  | d0
  | d3hot
  deriving DecidableEq, Repr

/-- Host interface (15_host_interface.md). -/
structure Hst where
  /-- MSI-X table words by byte offset (Table HST-2) -/
  msix : SMap (BitVec 32) := []
  /-- pending vectors (R327) -/
  msixPend : List Nat := []
  /-- commands fetched and not started, with their OPCODE, oldest first (R316) -/
  fetched : List (Nat × HostCmd) := []
  /-- commands started and not completed, oldest first (R318) -/
  flights : List Flight := []
  /-- completions held on chip, oldest first (R315, R320) -/
  held : List Cpl := []
  /-- command fetch has stopped after a failed read (R326), until HST_CTL is written -/
  fetchStopped : Bool := false
  /-- number of the next command in flight: the model's own -/
  nextKey : Nat := 0
  /-- own alive counter for each destination of REMOTE commands, most recently used first, at most 64 (R324) -/
  outAlive : List (Nat × Nat) := []
  /-- power management state of the PCIe function; configuration requests, which the opcode table does not list, would change it (R313) -/
  power : PciPower := .d0
  deriving DecidableEq, Repr
/-- A packet waiting for the peer link; its SEQ is given as it leaves (16_peer_bridge_twin.md Table PBR-1). -/
structure Packet where
  typ : Nat
  locked : Bool := false
  lockEnd : Bool := false
  poll : Bool := false
  size : Nat := 0
  tag : Nat := 0
  epoch : Nat := 0
  /-- ALIVE or STATUS -/
  status : Nat := 0
  origin : Nat := 0
  key : Nat := 0
  addr : Nat := 0
  payload : Bytes := []
  deriving DecidableEq, Repr

/-- An access of a master to BAR0 (15_host_interface.md R314, 16_peer_bridge_twin.md R335). -/
structure BusOp where
  master : Nat
  off : Nat
  len : Nat
  write : Bool
  data : Bytes := []
  deriving DecidableEq, Repr

/-- A request of this side that awaits its response (16_peer_bridge_twin.md R335, R338, R340). -/
structure Near where
  tag : Nat
  master : Nat
  addr : Nat
  len : Nat
  write : Bool
  /-- a POLL read of the interrupt summary -/
  poll : Bool := false
  /-- a LOCK request -/
  lock : Bool := false
  /-- the request has left -/
  left : Bool := false
  deriving DecidableEq, Repr

/-- Peer link, bridge and twin (16_peer_bridge_twin.md). -/
structure Pbr where
  /-- PBR_STAT.LANES: bit i, PLi has block lock (R329) -/
  lanes : Nat := 0
  /-- the link is up, PBR_STAT.LINK (R330) -/
  up : Bool := false
  /-- consecutive heartbeats accepted, up to 3 (R330) -/
  good : Nat := 0
  /-- PBR_STAT.FAULT_CAUSE (R330) -/
  cause : Nat := 0
  /-- consecutive misses, PBR_STAT.HB_MISSED (R343) -/
  missed : Nat := 0
  /-- the partner's mode and shed level, from its heartbeat (R343) -/
  peerMode : Nat := 0
  peerShed : Nat := 0
  /-- PBR_STAT.PEER_ACTIVE (R343) -/
  peerActive : Bool := false
  /-- the partner's sync state (R343) -/
  peerSync : Nat := 0
  /-- PBR_PEER.EPOCH (R343) -/
  peerEpoch : Nat := 0
  /-- PBR_PEERVER (R343) -/
  peerVer : Nat := 0
  /-- the partner's declared PERIOD_US (R341) -/
  peerPeriod : Nat := 0
  /-- PBR_STAT.CLAIM_LINE: ACTIVE_CLAIM sensed low (R344) -/
  claimLine : Bool := false
  /-- PBR_STAT.FAULT_LINE: PEER_FAULT sensed low (R344) -/
  faultLine : Bool := false
  /-- this device drives PEER_FAULT low (R344) -/
  faultDriven : Bool := true
  /-- CLAIM_WAIT is running: 0 no, 1 on entry to RUN, 2 at takeover or handover (R345) -/
  claimFor : Nat := 0
  /-- handover boundary of a twin device that found ACTIVE_CLAIM held, ns (R345) -/
  silentAt : Option Nat := none
  /-- boundary at which a HANDOVER_REQ of the partner is met, ns (R348) -/
  handReq : Option Nat := none
  /-- PBR_STAT.SYNC (R347, Table PBR-3) -/
  sync : Nat := 0
  /-- TCLK count at which STANDBY began (R349) -/
  standbyAt : Nat := 0
  /-- heartbeats sent (R343) -/
  hbCount : Nat := 0
  /-- SEQ of the next packet sent and of the next expected, by TYPE (Table PBR-1, R332) -/
  txSeq : SMap Nat := []
  rxSeq : SMap Nat := []
  /-- packets waiting, by class: HEARTBEAT, MIRROR, RESPONSE, requests, SYNC (R337) -/
  hbQ : List Packet := []
  mirQ : List Packet := []
  respQ : List Packet := []
  reqQ : List Packet := []
  syncQ : List Packet := []
  /-- mirror words as last queued, and as they last left (R275, R341) -/
  mirSent : SMap Nat := []
  mirLeft : SMap Nat := []
  /-- requests that await a response (R335) -/
  nears : List Near := []
  /-- TAG of the next request -/
  nextTag : Nat := 0
  /-- alive counter of this side's bridge writes (R118) -/
  alive : Nat := 0
  /-- accesses of held masters, oldest first (R335, R338) -/
  waitBus : List BusOp := []
  /-- near master of the open locked sequence (R338) -/
  lockMaster : Option Nat := none
  /-- block locked for the partner (R338) -/
  farLock : Option Nat := none
  /-- next flow of a running histogram copy on the active side (R349) -/
  copy : Option Nat := none
  /-- flow whose SYNC parts arrive, the parts so far, their bytes (R349) -/
  syncParts : Option (Nat × Nat × Bytes) := none
  /-- what a running copy has brought: each flow whole, and each stream record as 8,192 plus its stream (R349) -/
  copied : List Nat := []
  deriving DecidableEq, Repr
/-- Reasons a step could stop the machine with a fault. The device halts by a HALT mode, never by stopping: nothing of the
model raises this; it is here because a step's outcome has a fault case (safe). -/
inductive Fault where
  /-- raised by no command (safe) -/
  | none
  deriving DecidableEq, Repr

/-- Reasons a command is refused for want of a meaning. -/
inductive Refusal where
  /-- raised by a dispatch arm of a command that has no meaning yet, with its mnemonic (safe) -/
  | notModelled (mnemonic : String)
  deriving DecidableEq, Repr

/-- The whole state of the device. -/
structure State where
  /-- register file of BAR0 by byte offset; an unlisted word reads as its reset value (19_register_map.md R380, R387) -/
  regs : SMap (BitVec 32) := []
  glb : Glb := {}
  pwr : Pwr := {}
  tim : Tim := {}
  /-- serial ports SP0 to SP95 (04_serial_ports.md R71) -/
  ports : SMap Port := []
  /-- serial banks 0 to 7 (04_serial_ports.md R71) -/
  banks : SMap Bank := []
  snt : Snt := {}
  flw : Flw := {}
  chs : Chs := {}
  aln : Aln := {}
  rcl : Rcl := {}
  ana : Ana := {}
  cap : Cap := {}
  egr : Egr := {}
  arm : Arm := {}
  hst : Hst := {}
  pbr : Pbr := {}
  cfg : Cfg := {}
  /-- the external DDR4, byte by byte (12_event_capture.md R259, R270, 18_protection_integrity.md R374) -/
  ddr : SMap (BitVec 8) := []
  /-- the external boot flash, byte by byte, 0xFF where erased (17_configuration.md R362) -/
  flash : SMap (BitVec 8) := []
  /-- event log, newest first, at most 1,024 entries (18_protection_integrity.md R379) -/
  log : List LogEntry := []
  /-- words with an uncorrectable ECC error: store s of Table PRT-5 and address in 8-byte units (18_protection_integrity.md R376) -/
  eccBad : List (Nat × Nat) := []
  /-- outputs, newest first: the model's own record -/
  out : List Output := []
  /-- counter from which fresh free values are drawn: the model's own field -/
  fresh : Nat := 0
  /-- commands waiting, first in first out -/
  pending : List Instr := []
  deriving DecidableEq, Repr

/-- The device right after reset: PLINTH, first epoch, every register at its reset value, nothing stored. -/
def State.reset : State := {}

/-- What a step of the device answers. -/
abbrev Res := Host.Outcome State Fault Refusal

end Sys2Proof.Machine
end

