-- ==== Sys2Proof/Machine/RegTable.lean ====
section
/-! DEFINITION. The register map of BAR0 (19_register_map.md R380 to R387 and each chapter's register tables): one row
per register with its offset, its strides, its reset value and its access masks; the offset of each register and the
named fields the machine reads. -/

namespace Sys2Proof.Machine

/-- How a host write acts on a register (00_scope.md Table SCP-4, R70, R94, R133, R377). -/
inductive RegClass where
  | ro       -- writes are ignored
  | rw       -- the bits of `rw` take the written value
  | counter  -- a write of any value clears it
  | flags    -- write 1 to clear
  | action   -- a command row of its own acts
  deriving DecidableEq, Repr

/-- One row of a register table: first offset, the count and stride of each index, the reset value, and the masks of its
RW, W1C and W1S or WO bits, and the bits that an image sets. -/
structure RegRow where
  off : Nat
  n1 : Nat
  s1 : Nat
  n2 : Nat
  s2 : Nat
  n3 : Nat
  s3 : Nat
  reset : Nat
  rw : Nat
  w1c : Nat
  w1s : Nat
  cls : RegClass
  img : Nat
  deriving DecidableEq, Repr

/-- Rows of the register block at 0x00000000. -/
def regRows0 : List RegRow := [
  ⟨0x10, 1, 4, 1, 4, 1, 4, 0x0, 0x0, 0x0, 0x0, .ro, 0x0⟩,
  ⟨0x20, 1, 4, 1, 4, 1, 4, 0x1, 0x0, 0x0, 0x0, .ro, 0x0⟩,
  ⟨0x24, 1, 4, 1, 4, 1, 4, 0x1, 0x0, 0x0, 0x0, .ro, 0x0⟩,
  ⟨0x0, 1, 4, 1, 4, 1, 4, 0x0, 0x0, 0x0, 0x0, .ro, 0x0⟩,
  ⟨0x4, 1, 4, 1, 4, 1, 4, 0x0, 0x0, 0x0, 0x0, .ro, 0x0⟩,
  ⟨0x8, 1, 4, 1, 4, 1, 4, 0x0, 0x0, 0x0, 0x0, .ro, 0x0⟩,
  ⟨0xC, 1, 4, 1, 4, 1, 4, 0x0, 0xFFFFFFFF, 0x0, 0x0, .rw, 0x0⟩,
  ⟨0x14, 1, 4, 1, 4, 1, 4, 0x0, 0x0, 0x3, 0x0, .flags, 0x0⟩,
  ⟨0x28, 1, 4, 1, 4, 1, 4, 0x0, 0x1FF, 0x0, 0x0, .rw, 0x0⟩,
  ⟨0x2C, 1, 4, 1, 4, 1, 4, 0x0, 0x0, 0x0, 0x0, .ro, 0x0⟩,
  ⟨0x80, 2, 4, 1, 4, 1, 4, 0x0, 0xFF, 0x0, 0x0, .counter, 0x0⟩]

/-- Rows of the register block at 0x00010000. -/
def regRows1 : List RegRow := [
  ⟨0x10000, 1, 4, 1, 4, 1, 4, 0xF00, 0x0, 0x0, 0x0, .ro, 0x0⟩,
  ⟨0x10004, 1, 4, 1, 4, 1, 4, 0x0, 0x0, 0x0, 0x1, .action, 0x0⟩,
  ⟨0x10008, 1, 4, 1, 4, 1, 4, 0x0, 0x0, 0x0, 0x0, .ro, 0x0⟩,
  ⟨0x1000C, 1, 4, 1, 4, 1, 4, 0x0, 0x0, 0x0, 0x0, .ro, 0x0⟩,
  ⟨0x10010, 1, 4, 1, 4, 1, 4, 0x0, 0x0, 0x0, 0x0, .ro, 0x7FFFF⟩,
  ⟨0x10014, 1, 4, 1, 4, 1, 4, 0x0, 0x0, 0x0, 0x0, .ro, 0xFFFFFFFF⟩,
  ⟨0x10018, 1, 4, 1, 4, 1, 4, 0x0, 0x0, 0x0, 0x0, .ro, 0x0⟩,
  ⟨0x1001C, 1, 4, 1, 4, 1, 4, 0xFFFFFFFF, 0x0, 0x0, 0x0, .ro, 0x0⟩,
  ⟨0x10020, 1, 4, 1, 4, 1, 4, 0x0, 0x0, 0x0, 0x0, .ro, 0x0⟩,
  ⟨0x10030, 1, 4, 1, 4, 1, 4, 0x0, 0x0, 0x0, 0x0, .ro, 0x17777⟩,
  ⟨0x10034, 1, 4, 1, 4, 1, 4, 0x10A00A3, 0x0, 0x0, 0x0, .ro, 0xFFFFFFFF⟩,
  ⟨0x10038, 1, 4, 1, 4, 1, 4, 0x403E8, 0x0, 0x0, 0x0, .ro, 0xFFFFFF⟩,
  ⟨0x1003C, 1, 4, 1, 4, 1, 4, 0x0, 0x0, 0x0, 0x0, .ro, 0x3FFF⟩,
  ⟨0x10040, 1, 4, 1, 4, 1, 4, 0x0, 0x0, 0x0, 0x0, .ro, 0xFFFFFFFF⟩,
  ⟨0x10044, 1, 4, 1, 4, 1, 4, 0x2, 0x0, 0x0, 0x0, .ro, 0xFFFFFF0F⟩,
  ⟨0x10048, 1, 4, 1, 4, 1, 4, 0x6400, 0x0, 0x0, 0x0, .ro, 0xFFFFF3⟩,
  ⟨0x1004C, 1, 4, 1, 4, 1, 4, 0xA0A0A0A, 0x0, 0x0, 0x0, .ro, 0xFFFFFFFF⟩,
  ⟨0x10050, 4, 4, 1, 4, 1, 4, 0xFFFF0000, 0x0, 0x0, 0x0, .ro, 0x0⟩,
  ⟨0x10060, 4, 4, 1, 4, 1, 4, 0x0, 0x0, 0x0, 0x0, .ro, 0x0⟩,
  ⟨0x10080, 1, 4, 1, 4, 1, 4, 0x0, 0x0, 0x1FFF, 0x0, .flags, 0x0⟩,
  ⟨0x100C0, 13, 4, 1, 4, 1, 4, 0x0, 0xFF, 0x0, 0x0, .counter, 0x0⟩]

/-- Rows of the register block at 0x00020000. -/
def regRows2 : List RegRow := [
  ⟨0x20000, 96, 128, 1, 4, 1, 4, 0x80780, 0x0, 0x0, 0x0, .ro, 0x3FFFFFFF⟩,
  ⟨0x20004, 96, 128, 1, 4, 1, 4, 0x641030, 0x0, 0x0, 0x0, .ro, 0xFFFF7F7F⟩,
  ⟨0x20008, 96, 128, 1, 4, 1, 4, 0x4A02, 0x0, 0x0, 0x0, .ro, 0xFFFFF⟩,
  ⟨0x2000C, 96, 128, 1, 4, 1, 4, 0x0, 0x0, 0x0, 0x0, .ro, 0x0⟩,
  ⟨0x20010, 96, 128, 1, 4, 1, 4, 0x7800780, 0x0, 0x0, 0x0, .ro, 0x0⟩,
  ⟨0x20014, 96, 128, 1, 4, 1, 4, 0x0, 0x0, 0x3FF, 0x0, .flags, 0x0⟩,
  ⟨0x20018, 96, 128, 1, 4, 1, 4, 0x0, 0xFFFFFFFF, 0x0, 0x0, .counter, 0x0⟩,
  ⟨0x2001C, 96, 128, 1, 4, 1, 4, 0x0, 0xFFFFFFFF, 0x0, 0x0, .counter, 0x0⟩,
  ⟨0x20020, 96, 128, 1, 4, 1, 4, 0x0, 0xFFFFFFFF, 0x0, 0x0, .counter, 0x0⟩,
  ⟨0x20024, 96, 128, 1, 4, 1, 4, 0x0, 0xFFFFFFFF, 0x0, 0x0, .counter, 0x0⟩,
  ⟨0x20040, 96, 128, 10, 4, 1, 4, 0x0, 0xFF, 0x0, 0x0, .counter, 0x0⟩,
  ⟨0x23000, 8, 32, 1, 4, 1, 4, 0x2, 0x0, 0x0, 0x0, .ro, 0x7⟩,
  ⟨0x23004, 8, 32, 1, 4, 1, 4, 0x0, 0x0, 0x0, 0x0, .ro, 0x0⟩,
  ⟨0x23008, 8, 32, 1, 4, 1, 4, 0x0, 0x0, 0x3, 0x0, .flags, 0x0⟩,
  ⟨0x23010, 8, 32, 2, 4, 1, 4, 0x0, 0xFF, 0x0, 0x0, .counter, 0x0⟩,
  ⟨0x23100, 3, 4, 1, 4, 1, 4, 0x0, 0x0, 0x0, 0x0, .ro, 0x0⟩,
  ⟨0x2310C, 1, 4, 1, 4, 1, 4, 0x0, 0x0, 0x0, 0x0, .ro, 0x0⟩]

/-- Rows of the register block at 0x00030000. -/
def regRows3 : List RegRow := [
  ⟨0x30200, 4, 32, 1, 4, 1, 4, 0x0, 0x0, 0x0, 0x0, .ro, 0x1FF⟩,
  ⟨0x30204, 4, 32, 1, 4, 1, 4, 0x0, 0x0, 0x0, 0x0, .ro, 0xFFFFFFFF⟩,
  ⟨0x30208, 4, 32, 1, 4, 1, 4, 0x0, 0x0, 0x0, 0x0, .ro, 0xFFFF⟩,
  ⟨0x3020C, 4, 32, 1, 4, 1, 4, 0x0, 0x0, 0x0, 0x0, .ro, 0x0⟩,
  ⟨0x30400, 32, 8, 1, 4, 1, 4, 0x0, 0x0, 0x0, 0x0, .ro, 0x3FFFFFF⟩,
  ⟨0x30404, 32, 8, 1, 4, 1, 4, 0x0, 0x0, 0x0, 0x0, .ro, 0xFFFFFFFF⟩,
  ⟨0x30000, 96, 4, 1, 4, 1, 4, 0x71008, 0x0, 0x0, 0x0, .ro, 0xFFFF1F⟩,
  ⟨0x30800, 16, 64, 1, 4, 1, 4, 0x0, 0x0, 0x0, 0x0, .ro, 0xFFFFFF⟩,
  ⟨0x30804, 16, 64, 1, 4, 1, 4, 0x0, 0x0, 0x0, 0x0, .ro, 0xFFFF⟩,
  ⟨0x30808, 16, 64, 1, 4, 1, 4, 0x0, 0xFFFFFFFF, 0x0, 0x0, .rw, 0x0⟩,
  ⟨0x3080C, 16, 64, 1, 4, 1, 4, 0x0, 0x0, 0x0, 0x0, .ro, 0x0⟩,
  ⟨0x30810, 16, 64, 1, 4, 1, 4, 0x0, 0x0, 0x0, 0x0, .ro, 0x0⟩,
  ⟨0x30814, 16, 64, 1, 4, 1, 4, 0x0, 0xFFFFFFFF, 0x0, 0x0, .counter, 0x0⟩,
  ⟨0x30818, 16, 64, 1, 4, 1, 4, 0x0, 0xFFFFFFFF, 0x0, 0x0, .counter, 0x0⟩,
  ⟨0x3081C, 16, 64, 1, 4, 1, 4, 0x0, 0x0, 0x7, 0x0, .flags, 0x0⟩,
  ⟨0x30820, 16, 64, 3, 4, 1, 4, 0x0, 0xFF, 0x0, 0x0, .counter, 0x0⟩,
  ⟨0x30600, 1, 4, 1, 4, 1, 4, 0x0, 0x0, 0x3FF, 0x0, .flags, 0x0⟩,
  ⟨0x30640, 10, 4, 1, 4, 1, 4, 0x0, 0xFF, 0x0, 0x0, .counter, 0x0⟩,
  ⟨0x30700, 2, 4, 1, 4, 1, 4, 0x100, 0x0, 0x0, 0x0, .ro, 0x0⟩,
  ⟨0x30710, 3, 4, 1, 4, 1, 4, 0x0, 0xFFFFFFFF, 0x0, 0x0, .counter, 0x0⟩,
  ⟨0x30720, 3, 4, 1, 4, 1, 4, 0x0, 0xFFFFFFFF, 0x0, 0x0, .counter, 0x0⟩,
  ⟨0x31000, 100, 64, 16, 4, 1, 4, 0x0, 0xFFFFFFFF, 0x0, 0x0, .counter, 0x0⟩]

/-- Rows of the register block at 0x00040000. -/
def regRows4 : List RegRow := [
  ⟨0x40000, 108, 4, 1, 4, 1, 4, 0x0, 0x0, 0x0, 0x0, .ro, 0x1FFFFFF⟩,
  ⟨0x40200, 1, 4, 1, 4, 1, 4, 0x0, 0x0, 0x0, 0x0, .ro, 0x1FFF⟩,
  ⟨0x40204, 1, 4, 1, 4, 1, 4, 0x0, 0x0, 0x0, 0x0, .ro, 0x1FFF1FFF⟩,
  ⟨0x40208, 1, 4, 1, 4, 1, 4, 0x0, 0x0, 0x0, 0x0, .ro, 0xF⟩,
  ⟨0x40210, 5, 4, 1, 4, 1, 4, 0x0, 0x0, 0x0, 0x0, .ro, 0x0⟩,
  ⟨0x40224, 1, 4, 1, 4, 1, 4, 0x2000, 0x0, 0x0, 0x0, .ro, 0x0⟩,
  ⟨0x40240, 1, 4, 1, 4, 1, 4, 0x0, 0x0, 0x7F, 0x0, .flags, 0x0⟩,
  ⟨0x40280, 7, 4, 1, 4, 1, 4, 0x0, 0xFF, 0x0, 0x0, .counter, 0x0⟩,
  ⟨0x40300, 7, 4, 1, 4, 1, 4, 0x0, 0xFFFFFFFF, 0x0, 0x0, .counter, 0x0⟩,
  ⟨0x48000, 1024, 32, 8, 4, 1, 4, 0x0, 0x0, 0x0, 0x0, .ro, 0xFFFFFFFF⟩]

/-- Rows of the register block at 0x00050000. -/
def regRows5 : List RegRow := [
  ⟨0x50000, 1, 4, 1, 4, 1, 4, 0x64, 0x0, 0x0, 0x0, .ro, 0xFFFF⟩,
  ⟨0x50004, 1, 4, 1, 4, 1, 4, 0x0, 0x0, 0x0, 0x0, .ro, 0x1FFFF⟩,
  ⟨0x50008, 1, 4, 1, 4, 1, 4, 0x10000, 0x0, 0x0, 0x0, .ro, 0x1FFFF⟩,
  ⟨0x5000C, 1, 4, 1, 4, 1, 4, 0x0, 0x0, 0x0, 0x0, .ro, 0x3FFFFFF⟩,
  ⟨0x50010, 8, 4, 1, 4, 1, 4, 0xFFFFFF, 0x0, 0x0, 0x0, .ro, 0xFFFFFF⟩,
  ⟨0x50040, 16, 8, 1, 4, 1, 4, 0x0, 0x0, 0x0, 0x0, .ro, 0xFFFF3FFF⟩,
  ⟨0x50044, 16, 8, 1, 4, 1, 4, 0x3E8, 0x0, 0x0, 0x0, .ro, 0xFFFFF⟩,
  ⟨0x500C0, 16, 4, 1, 4, 1, 4, 0x0, 0x0, 0x0, 0x0, .ro, 0xFFFFF⟩,
  ⟨0x50100, 24, 4, 1, 4, 1, 4, 0x24444, 0x0, 0x0, 0x0, .ro, 0x0⟩,
  ⟨0x50180, 1, 4, 1, 4, 1, 4, 0x0, 0x0, 0x0, 0x0, .ro, 0x0⟩,
  ⟨0x50184, 1, 4, 1, 4, 1, 4, 0x0, 0x0, 0x0, 0x0, .ro, 0x0⟩,
  ⟨0x50188, 1, 4, 1, 4, 1, 4, 0x0, 0x0, 0x0, 0x0, .ro, 0x0⟩,
  ⟨0x5018C, 1, 4, 1, 4, 1, 4, 0x0, 0x0, 0x0, 0x0, .ro, 0x0⟩,
  ⟨0x50190, 1, 4, 1, 4, 1, 4, 0x0, 0x0, 0x3F, 0x0, .flags, 0x0⟩,
  ⟨0x501C0, 6, 4, 1, 4, 1, 4, 0x0, 0xFF, 0x0, 0x0, .counter, 0x0⟩,
  ⟨0x50204, 12, 4, 1, 4, 1, 4, 0x0, 0xFFFFFFFF, 0x0, 0x0, .counter, 0x0⟩,
  ⟨0x50240, 8, 4, 1, 4, 1, 4, 0x0, 0xFFFFFFFF, 0x0, 0x0, .counter, 0x0⟩]

/-- Rows of the register block at 0x00060000. -/
def regRows6 : List RegRow := [
  ⟨0x60000, 16, 64, 1, 4, 1, 4, 0x6, 0x0, 0x0, 0x0, .ro, 0x3F⟩,
  ⟨0x60004, 16, 64, 1, 4, 1, 4, 0x1388, 0x0, 0x0, 0x0, .ro, 0xFFFFF⟩,
  ⟨0x60008, 16, 64, 1, 4, 1, 4, 0x7D0, 0x0, 0x0, 0x0, .ro, 0xFFFFF⟩,
  ⟨0x6000C, 16, 64, 1, 4, 1, 4, 0x64, 0x0, 0x0, 0x0, .ro, 0x3FFF3FFF⟩,
  ⟨0x60010, 16, 64, 1, 4, 1, 4, 0x4189, 0x0, 0x0, 0x0, .ro, 0xFFFFFF⟩,
  ⟨0x60014, 16, 64, 1, 4, 1, 4, 0x0, 0x0, 0x0, 0x0, .ro, 0x0⟩,
  ⟨0x60018, 16, 64, 1, 4, 1, 4, 0x0, 0x0, 0x0, 0x0, .ro, 0x0⟩,
  ⟨0x6001C, 16, 64, 1, 4, 1, 4, 0x0, 0x0, 0x0, 0x0, .ro, 0x0⟩,
  ⟨0x60020, 16, 64, 1, 4, 1, 4, 0x0, 0x0, 0x0, 0x0, .ro, 0x0⟩,
  ⟨0x60024, 16, 64, 1, 4, 1, 4, 0x0, 0x0, 0x0, 0x0, .ro, 0x0⟩,
  ⟨0x60028, 16, 64, 1, 4, 1, 4, 0x0, 0x0, 0x0, 0x0, .ro, 0x0⟩,
  ⟨0x6002C, 16, 64, 1, 4, 1, 4, 0x0, 0x0, 0x0, 0x0, .ro, 0x0⟩,
  ⟨0x60400, 1, 4, 1, 4, 1, 4, 0x20000, 0x0, 0x0, 0x0, .ro, 0x0⟩,
  ⟨0x60404, 1, 4, 1, 4, 1, 4, 0x800, 0x0, 0x0, 0x0, .ro, 0x1FFFF⟩,
  ⟨0x60408, 1, 4, 1, 4, 1, 4, 0x400, 0x0, 0x0, 0x0, .ro, 0x1FFFF⟩,
  ⟨0x6040C, 1, 4, 1, 4, 1, 4, 0x0, 0x0, 0x0, 0x0, .ro, 0x7FFF⟩,
  ⟨0x60410, 1, 4, 1, 4, 1, 4, 0x0, 0x0, 0x0, 0x0, .ro, 0xFFF⟩,
  ⟨0x60414, 1, 4, 1, 4, 1, 4, 0x4000000, 0x0, 0x0, 0x0, .ro, 0x0⟩,
  ⟨0x60418, 1, 4, 1, 4, 1, 4, 0x20000, 0x3FFFF, 0x0, 0x0, .rw, 0x0⟩,
  ⟨0x60440, 1, 4, 1, 4, 1, 4, 0x0, 0x0, 0x7FF, 0x0, .flags, 0x0⟩,
  ⟨0x60480, 11, 4, 1, 4, 1, 4, 0x0, 0xFF, 0x0, 0x0, .counter, 0x0⟩,
  ⟨0x61000, 16, 128, 32, 4, 1, 4, 0x0, 0xFFFFFFFF, 0x0, 0x0, .counter, 0x0⟩]

/-- Rows of the register block at 0x00070000. -/
def regRows7 : List RegRow := [
  ⟨0x70000, 16, 64, 1, 4, 1, 4, 0xC81800, 0x0, 0x0, 0x0, .ro, 0x3FFFFFF⟩,
  ⟨0x70004, 16, 64, 1, 4, 1, 4, 0x0, 0x3F, 0x0, 0x100, .rw, 0x0⟩,
  ⟨0x70008, 16, 64, 1, 4, 1, 4, 0x0, 0xFFFFFFFF, 0x0, 0x0, .rw, 0x0⟩,
  ⟨0x7000C, 16, 64, 1, 4, 1, 4, 0x0, 0x3FFFFFFF, 0x0, 0x0, .rw, 0x0⟩,
  ⟨0x70010, 16, 64, 1, 4, 1, 4, 0x400000, 0x0, 0x0, 0x0, .ro, 0x0⟩,
  ⟨0x70014, 16, 64, 1, 4, 1, 4, 0x0, 0x0, 0x0, 0x0, .ro, 0x0⟩,
  ⟨0x70018, 16, 64, 1, 4, 1, 4, 0x0, 0x0, 0x0, 0x0, .ro, 0x0⟩,
  ⟨0x7001C, 16, 64, 1, 4, 1, 4, 0x0, 0x0, 0x0, 0x0, .ro, 0x0⟩,
  ⟨0x70020, 16, 64, 1, 4, 1, 4, 0x0, 0x0, 0x0, 0x0, .ro, 0x0⟩,
  ⟨0x71000, 16, 128, 32, 4, 1, 4, 0x0, 0xFFFFFFFF, 0x0, 0x0, .counter, 0x0⟩,
  ⟨0x70400, 1, 4, 1, 4, 1, 4, 0x0, 0x0, 0xFF, 0x0, .flags, 0x0⟩,
  ⟨0x70440, 8, 4, 1, 4, 1, 4, 0x0, 0xFF, 0x0, 0x0, .counter, 0x0⟩]

/-- Rows of the register block at 0x00080000. -/
def regRows8 : List RegRow := [
  ⟨0x80000, 1, 4, 1, 4, 1, 4, 0x0, 0x0, 0x0, 0x0, .ro, 0x3F⟩,
  ⟨0x80004, 1, 4, 1, 4, 1, 4, 0xA3206, 0x0, 0x0, 0x0, .ro, 0xFFFFF⟩,
  ⟨0x80008, 1, 4, 1, 4, 1, 4, 0x3D4CCCCD, 0x0, 0x0, 0x0, .ro, 0xFFFFFFFF⟩,
  ⟨0x8000C, 1, 4, 1, 4, 1, 4, 0x3CA3D70A, 0x0, 0x0, 0x0, .ro, 0xFFFFFFFF⟩,
  ⟨0x80010, 1, 4, 1, 4, 1, 4, 0x0, 0x0, 0x0, 0x0, .ro, 0x0⟩,
  ⟨0x80014, 1, 4, 1, 4, 1, 4, 0x0, 0x0, 0x0, 0x0, .ro, 0x0⟩,
  ⟨0x80020, 8, 8, 1, 4, 1, 4, 0x0, 0x0, 0x0, 0x0, .ro, 0xFFFFF⟩,
  ⟨0x80024, 8, 8, 1, 4, 1, 4, 0x0, 0x0, 0x0, 0x0, .ro, 0xFFFFF⟩,
  ⟨0x80060, 8, 4, 1, 4, 1, 4, 0xA6, 0x0, 0x0, 0x0, .ro, 0xFF⟩,
  ⟨0x81000, 16, 512, 8, 64, 10, 4, 0x0, 0x0, 0x0, 0x0, .ro, 0xFFFFFFFF⟩,
  ⟨0x81028, 16, 512, 8, 64, 1, 4, 0x0, 0x0, 0x0, 0x0, .ro, 0xFFFF⟩,
  ⟨0x88000, 32, 4, 1, 4, 1, 4, 0x2, 0x0, 0x0, 0x0, .ro, 0x7FF⟩,
  ⟨0x88080, 32, 4, 1, 4, 1, 4, 0x7FC00000, 0x0, 0x0, 0x0, .ro, 0x0⟩,
  ⟨0x84000, 1024, 16, 1, 4, 1, 4, 0x30000, 0x0, 0x0, 0x0, .ro, 0xFFFFFF⟩,
  ⟨0x84004, 1024, 16, 1, 4, 1, 4, 0x0, 0x0, 0x0, 0x0, .ro, 0x1FFFFFF⟩,
  ⟨0x84008, 1024, 16, 1, 4, 1, 4, 0x0, 0x0, 0x0, 0x0, .ro, 0x7FFFFFFF⟩,
  ⟨0x8400C, 1024, 16, 1, 4, 1, 4, 0x0, 0x0, 0x0, 0x0, .ro, 0xFFFFFFFF⟩,
  ⟨0x89000, 32, 16, 1, 4, 1, 4, 0x1000000, 0x0, 0x0, 0x0, .ro, 0xFFFFFFFF⟩,
  ⟨0x89004, 32, 16, 1, 4, 1, 4, 0x1, 0x0, 0x0, 0x0, .ro, 0xFFFF7FFF⟩,
  ⟨0x89008, 32, 16, 1, 4, 1, 4, 0x0, 0x0, 0x0, 0x0, .ro, 0xFFFFFFFF⟩,
  ⟨0x8900C, 32, 16, 1, 4, 1, 4, 0x0, 0x0, 0x0, 0x0, .ro, 0xFFFFFFFF⟩,
  ⟨0x89200, 1, 4, 1, 4, 1, 4, 0x0, 0x0, 0x0, 0x0, .ro, 0x0⟩,
  ⟨0x89204, 1, 4, 1, 4, 1, 4, 0x0, 0x0, 0x0, 0x0, .ro, 0x0⟩,
  ⟨0x89208, 1, 4, 1, 4, 1, 4, 0x0, 0x0, 0x0, 0x0, .ro, 0x0⟩,
  ⟨0x8920C, 1, 4, 1, 4, 1, 4, 0x0, 0x0, 0x0, 0x0, .ro, 0x0⟩,
  ⟨0x89210, 4, 4, 1, 4, 1, 4, 0x0, 0x0, 0x0, 0x0, .ro, 0xFFFFFFFF⟩,
  ⟨0x8A000, 1, 4, 1, 4, 1, 4, 0x0, 0x1FFF, 0x0, 0x0, .rw, 0x0⟩,
  ⟨0x8A004, 1, 4, 1, 4, 1, 4, 0x7FC00000, 0x0, 0x0, 0x0, .ro, 0x0⟩,
  ⟨0x8A008, 1, 4, 1, 4, 1, 4, 0x7FC00000, 0x0, 0x0, 0x0, .ro, 0x0⟩,
  ⟨0x8A00C, 1, 4, 1, 4, 1, 4, 0x7FC00000, 0x0, 0x0, 0x0, .ro, 0x0⟩,
  ⟨0x8A010, 1, 4, 1, 4, 1, 4, 0x0, 0x0, 0x0, 0x0, .ro, 0x0⟩,
  ⟨0x8A014, 1, 4, 1, 4, 1, 4, 0x0, 0x0, 0x0, 0x0, .ro, 0x0⟩,
  ⟨0x8A018, 1, 4, 1, 4, 1, 4, 0x0, 0x0, 0x0, 0x0, .ro, 0x0⟩,
  ⟨0x8A01C, 1, 4, 1, 4, 1, 4, 0x7FC00000, 0x0, 0x0, 0x0, .ro, 0x0⟩,
  ⟨0x8A020, 1, 4, 1, 4, 1, 4, 0x0, 0x1F1F, 0x0, 0x0, .rw, 0x0⟩,
  ⟨0x8A024, 1, 4, 1, 4, 1, 4, 0x7FC00000, 0x0, 0x0, 0x0, .ro, 0x0⟩,
  ⟨0x8A028, 1, 4, 1, 4, 1, 4, 0x0, 0x0, 0x0, 0x0, .ro, 0x0⟩,
  ⟨0x8A02C, 1, 4, 1, 4, 1, 4, 0x0, 0x0, 0x0, 0x0, .ro, 0x0⟩,
  ⟨0x8A100, 1, 4, 1, 4, 1, 4, 0x0, 0x0, 0x3F, 0x0, .flags, 0x0⟩,
  ⟨0x8A140, 6, 4, 1, 4, 1, 4, 0x0, 0xFF, 0x0, 0x0, .counter, 0x0⟩,
  ⟨0x8A200, 8, 4, 1, 4, 1, 4, 0x0, 0xFFFFFFFF, 0x0, 0x0, .counter, 0x0⟩,
  ⟨0x8A300, 32, 4, 1, 4, 1, 4, 0x0, 0xFFFFFFFF, 0x0, 0x0, .counter, 0x0⟩]

/-- Rows of the register block at 0x00090000. -/
def regRows9 : List RegRow := [
  ⟨0x90000, 16, 64, 1, 4, 1, 4, 0x40, 0x0, 0x0, 0x0, .ro, 0x1FF⟩,
  ⟨0x90004, 16, 64, 1, 4, 1, 4, 0x0, 0x0, 0x0, 0x0, .ro, 0x7FF1FFF⟩,
  ⟨0x90008, 16, 64, 1, 4, 1, 4, 0x0, 0x0, 0x0, 0x0, .ro, 0xFFF0FFF⟩,
  ⟨0x9000C, 16, 64, 1, 4, 1, 4, 0x2, 0x0, 0x0, 0x0, .ro, 0xFFFF007F⟩,
  ⟨0x90010, 16, 64, 1, 4, 1, 4, 0x0, 0x0, 0x0, 0x0, .ro, 0x3FFFFF⟩,
  ⟨0x90014, 16, 64, 1, 4, 1, 4, 0x0, 0x0, 0x0, 0x0, .ro, 0x0⟩,
  ⟨0x90018, 16, 64, 1, 4, 1, 4, 0x0, 0x0, 0x0, 0x0, .ro, 0x0⟩,
  ⟨0x9001C, 16, 64, 1, 4, 1, 4, 0x0, 0x0, 0x0, 0x0, .ro, 0x0⟩,
  ⟨0x90020, 16, 64, 1, 4, 1, 4, 0x0, 0xFFFFFFFF, 0x0, 0x0, .rw, 0x0⟩,
  ⟨0x90024, 16, 64, 1, 4, 1, 4, 0x0, 0x0, 0x0, 0x0, .ro, 0x0⟩,
  ⟨0x91000, 16, 64, 11, 4, 1, 4, 0x0, 0xFFFFFFFF, 0x0, 0x0, .counter, 0x0⟩,
  ⟨0x90400, 1, 4, 1, 4, 1, 4, 0x0, 0x3FFFFF, 0x0, 0x0, .rw, 0x0⟩,
  ⟨0x90404, 1, 4, 1, 4, 1, 4, 0x0, 0x0, 0x0, 0x0, .ro, 0x0⟩,
  ⟨0x90408, 1, 4, 1, 4, 1, 4, 0x0, 0x0, 0x0, 0x0, .ro, 0x0⟩,
  ⟨0x90440, 1, 4, 1, 4, 1, 4, 0x0, 0x0, 0x1FF, 0x0, .flags, 0x0⟩,
  ⟨0x90480, 9, 4, 1, 4, 1, 4, 0x0, 0xFF, 0x0, 0x0, .counter, 0x0⟩,
  ⟨0x92000, 256, 32, 8, 4, 1, 4, 0x0, 0x0, 0x0, 0x0, .ro, 0x0⟩]

/-- Rows of the register block at 0x000A0000. -/
def regRows10 : List RegRow := [
  ⟨0xA0000, 256, 64, 1, 4, 1, 4, 0x1001000, 0x0, 0x0, 0x0, .ro, 0x1FFFFFF⟩,
  ⟨0xA0004, 256, 64, 1, 4, 1, 4, 0x0, 0x0, 0x0, 0x0, .ro, 0x3FFFFFF⟩,
  ⟨0xA0008, 256, 64, 1, 4, 1, 4, 0xF4240, 0x0, 0x0, 0x0, .ro, 0xFFFFFF⟩,
  ⟨0xA000C, 256, 64, 1, 4, 1, 4, 0x0, 0x0, 0x0, 0x0, .ro, 0xFFFF1FFF⟩,
  ⟨0xA0010, 256, 64, 1, 4, 1, 4, 0x0, 0x0, 0x0, 0x0, .ro, 0x7F⟩,
  ⟨0xA0014, 256, 64, 1, 4, 1, 4, 0x0, 0x1, 0x0, 0x0, .rw, 0x0⟩,
  ⟨0xA0018, 256, 64, 1, 4, 1, 4, 0x0, 0x0, 0x0, 0x0, .ro, 0x0⟩,
  ⟨0xA001C, 256, 64, 1, 4, 1, 4, 0x0, 0x0, 0x0, 0x0, .ro, 0x0⟩,
  ⟨0xA0020, 256, 64, 1, 4, 1, 4, 0x0, 0x0, 0x0, 0x0, .ro, 0x0⟩,
  ⟨0xA4000, 256, 64, 10, 4, 1, 4, 0x0, 0xFFFFFFFF, 0x0, 0x0, .counter, 0x0⟩,
  ⟨0xA8000, 16, 64, 1, 4, 1, 4, 0x40, 0x0, 0x0, 0x0, .ro, 0xFFF⟩,
  ⟨0xA8004, 16, 64, 1, 4, 1, 4, 0x0, 0x0, 0x0, 0x0, .ro, 0x0⟩,
  ⟨0xA8008, 16, 64, 1, 4, 1, 4, 0x0, 0x0, 0x0, 0xFFFF, .action, 0x0⟩,
  ⟨0xA8020, 16, 64, 8, 4, 1, 4, 0x0, 0x0, 0x0, 0x0, .ro, 0x0⟩,
  ⟨0xA8400, 4, 4, 1, 4, 1, 4, 0x2400, 0x0, 0x0, 0x0, .ro, 0x3FFF⟩,
  ⟨0xA9000, 96, 16, 1, 4, 1, 4, 0x0, 0x0, 0x0, 0x0, .ro, 0xFF⟩,
  ⟨0xA9004, 96, 16, 1, 4, 1, 4, 0x0, 0x0, 0x0, 0x0, .ro, 0x0⟩,
  ⟨0xAA000, 96, 16, 4, 4, 1, 4, 0x0, 0xFFFFFFFF, 0x0, 0x0, .counter, 0x0⟩,
  ⟨0xAB000, 4, 4, 1, 4, 1, 4, 0x0, 0x0, 0x0, 0x0, .ro, 0x3FFFF⟩,
  ⟨0xAB010, 4, 4, 1, 4, 1, 4, 0x0, 0x0, 0x0, 0x0, .ro, 0x0⟩,
  ⟨0xAB100, 1, 4, 1, 4, 1, 4, 0x0, 0x0, 0xFF, 0x0, .flags, 0x0⟩,
  ⟨0xAB140, 8, 4, 1, 4, 1, 4, 0x0, 0xFF, 0x0, 0x0, .counter, 0x0⟩,
  ⟨0xAB200, 4, 4, 1, 4, 1, 4, 0x0, 0xFFFFFFFF, 0x0, 0x0, .counter, 0x0⟩]

/-- Rows of the register block at 0x000B0000. -/
def regRows11 : List RegRow := [
  ⟨0xB0000, 8, 64, 1, 4, 1, 4, 0x0, 0x0, 0x0, 0x0, .ro, 0xFF⟩,
  ⟨0xB0004, 8, 64, 1, 4, 1, 4, 0x0, 0x0, 0x0, 0x0, .ro, 0xFFFFFFFF⟩,
  ⟨0xB0008, 8, 64, 1, 4, 1, 4, 0x0, 0x0, 0x0, 0x0, .ro, 0x0⟩,
  ⟨0xB000C, 8, 64, 1, 4, 1, 4, 0xFFFFFFFF, 0x0, 0x0, 0x0, .ro, 0x0⟩,
  ⟨0xB0010, 8, 64, 1, 4, 1, 4, 0x0, 0x0, 0x0, 0x0, .ro, 0x0⟩,
  ⟨0xB0014, 8, 64, 1, 4, 1, 4, 0xF00, 0x0, 0x0, 0x0, .ro, 0x0⟩,
  ⟨0xB1000, 8, 128, 15, 4, 1, 4, 0x0, 0xFFFFFFFF, 0x0, 0x0, .counter, 0x0⟩,
  ⟨0xB0400, 1, 4, 1, 4, 1, 4, 0x0, 0x0, 0x0, 0x0, .ro, 0x3FFF⟩,
  ⟨0xB0404, 1, 4, 1, 4, 1, 4, 0x1000, 0x0, 0x0, 0x0, .ro, 0xFFF07⟩,
  ⟨0xB0408, 1, 4, 1, 4, 1, 4, 0x0, 0x0, 0x0, 0x0, .ro, 0x0⟩,
  ⟨0xB0410, 4, 4, 1, 4, 1, 4, 0x10101010, 0x0, 0x0, 0x0, .ro, 0xFFFFFFFF⟩,
  ⟨0xB0480, 1, 4, 1, 4, 1, 4, 0x0, 0x0, 0x1FF, 0x0, .flags, 0x0⟩,
  ⟨0xB04C0, 9, 4, 1, 4, 1, 4, 0x0, 0xFF, 0x0, 0x0, .counter, 0x0⟩,
  ⟨0xBC000, 2048, 4, 1, 4, 1, 4, 0x88888888, 0x0, 0x0, 0x0, .ro, 0xFFFFFFFF⟩]

/-- Rows of the register block at 0x000C0000. -/
def regRows12 : List RegRow := [
  ⟨0xC0000, 1, 4, 1, 4, 1, 4, 0x0, 0x3, 0x0, 0x0, .rw, 0x0⟩,
  ⟨0xC0004, 1, 4, 1, 4, 1, 4, 0x0, 0xFFFFFFFF, 0x0, 0x0, .rw, 0x0⟩,
  ⟨0xC0008, 1, 4, 1, 4, 1, 4, 0x0, 0xFFFFFFFF, 0x0, 0x0, .rw, 0x0⟩,
  ⟨0xC000C, 1, 4, 1, 4, 1, 4, 0x0, 0xFFFF, 0x0, 0x0, .rw, 0x0⟩,
  ⟨0xC0010, 1, 4, 1, 4, 1, 4, 0x0, 0x0, 0x0, 0x0, .ro, 0x0⟩,
  ⟨0xC0014, 1, 4, 1, 4, 1, 4, 0x0, 0xFFFFFFFF, 0x0, 0x0, .rw, 0x0⟩,
  ⟨0xC0018, 1, 4, 1, 4, 1, 4, 0x0, 0xFFFFFFFF, 0x0, 0x0, .rw, 0x0⟩,
  ⟨0xC001C, 1, 4, 1, 4, 1, 4, 0x0, 0x0, 0x0, 0x0, .ro, 0x0⟩,
  ⟨0xC0020, 1, 4, 1, 4, 1, 4, 0x0, 0xFFFF, 0x0, 0x0, .rw, 0x0⟩,
  ⟨0xC0024, 1, 4, 1, 4, 1, 4, 0x1, 0xFFFFFF, 0x0, 0x0, .rw, 0x0⟩,
  ⟨0xC0028, 1, 4, 1, 4, 1, 4, 0x0, 0x0, 0x0, 0x0, .ro, 0x0⟩,
  ⟨0xC0040, 1, 4, 1, 4, 1, 4, 0x0, 0x0, 0xFF, 0x0, .flags, 0x0⟩,
  ⟨0xC0080, 8, 4, 1, 4, 1, 4, 0x0, 0xFF, 0x0, 0x0, .counter, 0x0⟩,
  ⟨0xC0100, 16, 32, 1, 4, 1, 4, 0x0, 0xFFFFFFFF, 0x0, 0x0, .rw, 0x0⟩,
  ⟨0xC0104, 16, 32, 1, 4, 1, 4, 0x0, 0xFFFFFFFF, 0x0, 0x0, .rw, 0x0⟩,
  ⟨0xC0108, 16, 32, 1, 4, 1, 4, 0xC, 0x1F, 0x0, 0x0, .rw, 0x0⟩,
  ⟨0xC010C, 16, 32, 1, 4, 1, 4, 0x0, 0x0, 0x0, 0x0, .ro, 0x0⟩,
  ⟨0xC0110, 16, 32, 1, 4, 1, 4, 0x0, 0xFFFFFFFF, 0x0, 0x0, .rw, 0x0⟩,
  ⟨0xC0400, 8, 4, 1, 4, 1, 4, 0x0, 0xFFFFFFFF, 0x0, 0x0, .counter, 0x0⟩]

/-- Rows of the register block at 0x000D0000. -/
def regRows13 : List RegRow := [
  ⟨0xD0000, 1, 4, 1, 4, 1, 4, 0x100, 0x0, 0x0, 0x0, .ro, 0xFF01⟩,
  ⟨0xD0004, 1, 4, 1, 4, 1, 4, 0x0, 0x0, 0x0, 0x0, .ro, 0x0⟩,
  ⟨0xD0008, 1, 4, 1, 4, 1, 4, 0x0, 0x0, 0x0, 0x0, .ro, 0x0⟩,
  ⟨0xD000C, 1, 4, 1, 4, 1, 4, 0x0, 0x0, 0x0, 0x0, .ro, 0x0⟩,
  ⟨0xD0010, 1, 4, 1, 4, 1, 4, 0x0, 0x1F, 0x0, 0x300, .rw, 0x0⟩,
  ⟨0xD0014, 1, 4, 1, 4, 1, 4, 0x0, 0x0, 0x0, 0x0, .ro, 0x0⟩,
  ⟨0xD0018, 1, 4, 1, 4, 1, 4, 0x0, 0x0, 0x0, 0x0, .ro, 0x0⟩,
  ⟨0xD001C, 1, 4, 1, 4, 1, 4, 0x0, 0x0, 0x0, 0x0, .ro, 0x0⟩,
  ⟨0xD0040, 8, 8, 1, 4, 1, 4, 0x0, 0x0, 0x0, 0x0, .ro, 0x1FF07FF⟩,
  ⟨0xD0100, 32, 8, 2, 4, 1, 4, 0x0, 0xFFFFFFFF, 0x0, 0x0, .rw, 0x0⟩,
  ⟨0xD0200, 64, 8, 2, 4, 1, 4, 0x0, 0x0, 0x0, 0x0, .ro, 0x0⟩,
  ⟨0xD0400, 1, 4, 1, 4, 1, 4, 0x0, 0x0, 0x1FFF, 0x0, .flags, 0x0⟩,
  ⟨0xD0440, 13, 4, 1, 4, 1, 4, 0x0, 0xFF, 0x0, 0x0, .counter, 0x0⟩,
  ⟨0xD0500, 15, 4, 1, 4, 1, 4, 0x0, 0xFFFFFFFF, 0x0, 0x0, .counter, 0x0⟩]

/-- Rows of the register block at 0x000E0000. -/
def regRows14 : List RegRow := [
  ⟨0xE0000, 1, 4, 1, 4, 1, 4, 0x0, 0x0, 0x0, 0x0, .ro, 0x0⟩,
  ⟨0xE0004, 1, 4, 1, 4, 1, 4, 0x0, 0x0, 0x0, 0x0, .ro, 0x0⟩,
  ⟨0xE0008, 1, 4, 1, 4, 1, 4, 0x0, 0x0, 0x0, 0x0, .ro, 0x0⟩,
  ⟨0xE000C, 2, 4, 1, 4, 1, 4, 0x0, 0x0, 0x0, 0x0, .ro, 0x0⟩,
  ⟨0xE0014, 1, 4, 1, 4, 1, 4, 0x0, 0x0, 0x0, 0x0, .ro, 0x0⟩,
  ⟨0xE0018, 1, 4, 1, 4, 1, 4, 0x0, 0x0, 0x0, 0x0, .ro, 0x0⟩,
  ⟨0xE001C, 1, 4, 1, 4, 1, 4, 0x0, 0x0, 0x0, 0x0, .ro, 0x0⟩,
  ⟨0xE0020, 1, 4, 1, 4, 1, 4, 0x0, 0x0, 0x0, 0x0, .ro, 0x0⟩,
  ⟨0xE0024, 1, 4, 1, 4, 1, 4, 0x0, 0x0, 0x0, 0x0, .ro, 0x0⟩,
  ⟨0xE0028, 1, 4, 1, 4, 1, 4, 0x0, 0x0, 0x0, 0x0, .ro, 0x0⟩,
  ⟨0xE002C, 1, 4, 1, 4, 1, 4, 0x0, 0x0, 0x0, 0x0, .ro, 0x0⟩,
  ⟨0xE0030, 1, 4, 1, 4, 1, 4, 0x0, 0x0, 0x0, 0x0, .ro, 0x0⟩,
  ⟨0xE0034, 1, 4, 1, 4, 1, 4, 0x0, 0xFFFFFFFF, 0x0, 0x0, .rw, 0x0⟩,
  ⟨0xE0038, 1, 4, 1, 4, 1, 4, 0x0, 0xFFFFFFFF, 0x0, 0x0, .rw, 0x0⟩,
  ⟨0xE0040, 1, 4, 1, 4, 1, 4, 0x0, 0x0, 0x1FF, 0x0, .flags, 0x0⟩,
  ⟨0xE0080, 9, 4, 1, 4, 1, 4, 0x0, 0xFF, 0x0, 0x0, .counter, 0x0⟩,
  ⟨0xE0100, 6, 4, 1, 4, 1, 4, 0x0, 0xFFFFFFFF, 0x0, 0x0, .counter, 0x0⟩]

/-- Rows of the register block at 0x000F0000. -/
def regRows15 : List RegRow := [
  ⟨0xF1000, 32, 256, 16, 16, 1, 4, 0x0, 0x0, 0x0, 0x0, .ro, 0x8003FFFF⟩,
  ⟨0xF1004, 32, 256, 16, 16, 1, 4, 0x0, 0x0, 0x0, 0x0, .ro, 0xFFFFFFFF⟩,
  ⟨0xF1008, 32, 256, 16, 16, 1, 4, 0xFFFFFFFF, 0x0, 0x0, 0x0, .ro, 0xFFFFFFFF⟩,
  ⟨0xF0000, 8, 8, 1, 4, 1, 4, 0x0, 0x0, 0x0, 0x0, .ro, 0x7FFF⟩,
  ⟨0xF0004, 8, 8, 1, 4, 1, 4, 0x0, 0x0, 0x0, 0x0, .ro, 0x7FFF⟩,
  ⟨0xF0040, 1, 4, 1, 4, 1, 4, 0x18, 0x0, 0x0, 0x0, .ro, 0xFF⟩,
  ⟨0xF0044, 1, 4, 1, 4, 1, 4, 0x0, 0x0, 0x0, 0x0, .ro, 0x0⟩,
  ⟨0xF0048, 1, 4, 1, 4, 1, 4, 0x0, 0x0, 0x0, 0x0, .ro, 0x0⟩,
  ⟨0xF004C, 1, 4, 1, 4, 1, 4, 0x0, 0x0, 0x0, 0x0, .ro, 0x0⟩,
  ⟨0xF0050, 1, 4, 1, 4, 1, 4, 0x0, 0x0, 0x0, 0x0, .ro, 0x0⟩,
  ⟨0xF0080, 1, 4, 1, 4, 1, 4, 0x0, 0x0, 0x1F, 0x0, .flags, 0x0⟩,
  ⟨0xF00C0, 5, 4, 1, 4, 1, 4, 0x0, 0xFF, 0x0, 0x0, .counter, 0x0⟩,
  ⟨0xF0100, 12, 4, 1, 4, 1, 4, 0x0, 0xFFFFFFFF, 0x0, 0x0, .counter, 0x0⟩,
  ⟨0xF0140, 14, 4, 1, 4, 1, 4, 0x0, 0xFFFFFFFF, 0x0, 0x0, .counter, 0x0⟩,
  ⟨0xF0180, 14, 4, 1, 4, 1, 4, 0x0, 0xFFFFFFFF, 0x0, 0x0, .counter, 0x0⟩,
  ⟨0xF01C0, 14, 4, 1, 4, 1, 4, 0x0, 0xFFFFFFFF, 0x0, 0x0, .counter, 0x0⟩,
  ⟨0xF0200, 16, 16, 1, 4, 1, 4, 0x0, 0x0, 0x0, 0x0, .ro, 0x0⟩,
  ⟨0xF0204, 16, 16, 1, 4, 1, 4, 0x0, 0x0, 0x0, 0x0, .ro, 0x0⟩,
  ⟨0xF0208, 16, 16, 1, 4, 1, 4, 0x0, 0x0, 0x0, 0x0, .ro, 0x0⟩,
  ⟨0xF020C, 16, 16, 1, 4, 1, 4, 0x0, 0x0, 0x0, 0x0, .ro, 0x0⟩]

/-- Rows of the register block at 0x00100000. -/
def regRows16 : List RegRow := [
  ⟨0x100000, 1, 4, 1, 4, 1, 4, 0x0, 0x0, 0x0, 0x0, .ro, 0x0⟩,
  ⟨0x100004, 1, 4, 1, 4, 1, 4, 0x0, 0x0, 0x3F, 0x0, .flags, 0x0⟩,
  ⟨0x100008, 1, 4, 1, 4, 1, 4, 0x4210, 0x0, 0x0, 0x0, .ro, 0x7777⟩,
  ⟨0x100010, 6, 4, 1, 4, 1, 4, 0x0, 0xFF, 0x0, 0x0, .counter, 0x0⟩]

/-- The rows of the block that holds a BAR0 offset (Table MAP-1). -/
def regRowsOf (off : Nat) : List RegRow :=
  match off / 0x10000 with
  | 0 => regRows0
  | 1 => regRows1
  | 2 => regRows2
  | 3 => regRows3
  | 4 => regRows4
  | 5 => regRows5
  | 6 => regRows6
  | 7 => regRows7
  | 8 => regRows8
  | 9 => regRows9
  | 10 => regRows10
  | 11 => regRows11
  | 12 => regRows12
  | 13 => regRows13
  | 14 => regRows14
  | 15 => regRows15
  | 16 => regRows16
  | _ => []

/-- The row covers the byte offset (of a 4-byte word). -/
def RegRow.covers (r : RegRow) (off : Nat) : Bool :=
  if off < r.off then false
  else
    let d := off - r.off
    let i := d / r.s1
    let d1 := d % r.s1
    let j := d1 / r.s2
    let d2 := d1 % r.s2
    if r.n1 = 1 && r.n2 = 1 && r.n3 = 1 then d == 0
    else if r.n2 = 1 && r.n3 = 1 then decide (i < r.n1) && d1 == 0
    else if r.n3 = 1 then decide (i < r.n1) && decide (j < r.n2) && d2 == 0
    else decide (i < r.n1) && decide (j < r.n2) && decide (d2 / r.s3 < r.n3) && d2 % r.s3 == 0

/-- The row that names a word offset of BAR0, if any (R381: an offset without one is reserved). -/
def regRow (off : Nat) : Option RegRow := (regRowsOf off).find? (fun r => r.covers off)

/-- The band edges of 11_analysis_triggers.md R235 in mHz. -/
def bandEdges : List Nat := [10, 100, 100, 300, 300, 800, 800, 2000, 2000, 5000, 5000, 15000]

/-- The access table defaults and fixed entries of 18_protection_integrity.md Table PRT-3: words 0, 1 and 2 of entry `e`
of target `t`. -/
def accessDefault (t e w : Nat) : Nat :=
  let pick := fun (m r lo hi : Nat) => if w = 0 then 0x80000000 + r * 0x10000 + m else if w = 1 then lo else hi
  let off := fun (_ : Unit) => if w = 2 then 0xFFFFFFFF else 0
  if t = 21 && e = 15 then pick 0x18 3 0x40 0xFFFFFFFF
  else if t = 21 && e = 14 then pick 0x10 3 0 0x3F
  else if e = 15 then pick 0x18 3 0 0xFFFFFFFF
  else if t ≤ 16 && e = 0 then pick 0x7 3 0 0xFFFFFFFF
  else if (t = 17 || t = 18 || t = 19 || t = 20) && e = 0 then pick 0x3 1 0 0xFFFFFFFF
  else if t = 18 && e = 1 then pick 0xF00 2 0 0xFFFFFFFF
  else if t = 21 && e = 0 then pick 0x40 3 0xC0 0x1BF
  else if t = 22 && e = 0 then pick 0x11 3 0 0xFFFFFFFF
  else if t = 24 && e = 0 then pick 0x41 1 0 0xFFFFFFFF
  else if t = 24 && e = 1 then pick 0x40 2 0 0xFFFFFFFF
  else off ()

/-- The reset value of the register word at a BAR0 offset: the Reset columns of the register tables, the bands of R235,
the access tables of Table PRT-3 and DDR region 0 of Table PRT-7. -/
def regReset (off : Nat) : BitVec 32 :=
  if 0x80020 ≤ off && off < 0x80060 then BitVec.ofNat 32 (bandEdges.getD ((off - 0x80020) / 4) 0)
  else if 0xF1000 ≤ off && off < 0xF3000 then
    if (off - 0xF1000) % 16 < 12 then
      BitVec.ofNat 32 (accessDefault ((off - 0xF1000) / 0x100) ((off - 0xF1000) % 0x100 / 0x10) ((off - 0xF1000) % 0x10 / 4))
    else 0
  else if off = 0xF0004 then 0x4000
  else
    match regRow off with
    | some r => BitVec.ofNat 32 r.reset
    | none => 0

/-- The word at a BAR0 offset of the register file. -/
def State.reg (s : State) (off : Nat) : BitVec 32 := s.regs.get regReset off

/-- Write a word of the register file. -/
def State.setReg (s : State) (off : Nat) (v : BitVec 32) : State := { s with regs := s.regs.set regReset off v }

/-- The field of width `w` at bit `lo` of a register. -/
def State.fld (s : State) (off lo w : Nat) : Nat := (s.reg off).toNat / 2 ^ lo % 2 ^ w

/-- Write the field of width `w` at bit `lo` of a register. -/
def State.setFld (s : State) (off lo w v : Nat) : State :=
  let old := (s.reg off).toNat
  let f := old / 2 ^ lo % 2 ^ w
  s.setReg off (BitVec.ofNat 32 (old - f * 2 ^ lo + v % 2 ^ w * 2 ^ lo))

/-- GLB_CAP (00_scope.md SCP-2). -/
def R_GLB_CAP : Nat := 0x10
/-- GLB_MODE (02_modes.md MOD-8). -/
def R_GLB_MODE : Nat := 0x20
/-- GLB_EPOCH (02_modes.md MOD-9). -/
def R_GLB_EPOCH : Nat := 0x24
/-- PWR_STATUS (02_modes.md MOD-10). -/
def R_PWR_STATUS : Nat := 0x100000
/-- PWR_FLAGS (02_modes.md MOD-11). -/
def R_PWR_FLAGS : Nat := 0x100004
/-- PWR_WARNMAP (02_modes.md MOD-12). -/
def R_PWR_WARNMAP : Nat := 0x100008
/-- Field PWR_WARNMAP_CODE0 of R_PWR_WARNMAP. -/
def State.PWR_WARNMAP_CODE0 (s : State) : Nat := s.fld R_PWR_WARNMAP 0 3
/-- Field PWR_WARNMAP_CODE1 of R_PWR_WARNMAP. -/
def State.PWR_WARNMAP_CODE1 (s : State) : Nat := s.fld R_PWR_WARNMAP 4 3
/-- Field PWR_WARNMAP_CODE2 of R_PWR_WARNMAP. -/
def State.PWR_WARNMAP_CODE2 (s : State) : Nat := s.fld R_PWR_WARNMAP 8 3
/-- Field PWR_WARNMAP_CODE3 of R_PWR_WARNMAP. -/
def State.PWR_WARNMAP_CODE3 (s : State) : Nat := s.fld R_PWR_WARNMAP 12 3
/-- TIM_STATUS (03_time_base.md TIM-5). -/
def R_TIM_STATUS : Nat := 0x10000
/-- TIM_SNAP (03_time_base.md TIM-6). -/
def R_TIM_SNAP : Nat := 0x10004
/-- TIM_SNAPFRAC (03_time_base.md TIM-6). -/
def R_TIM_SNAPFRAC : Nat := 0x10008
/-- TIM_SNAPSEC (03_time_base.md TIM-6). -/
def R_TIM_SNAPSEC : Nat := 0x1000C
/-- TIM_UTC (03_time_base.md TIM-6). -/
def R_TIM_UTC : Nat := 0x10010
/-- Field TIM_UTC_OFS of R_TIM_UTC. -/
def State.TIM_UTC_OFS (s : State) : Nat := s.fld R_TIM_UTC 0 16
/-- Field TIM_UTC_VALID of R_TIM_UTC. -/
def State.TIM_UTC_VALID (s : State) : Nat := s.fld R_TIM_UTC 16 1
/-- Field TIM_UTC_PENDING of R_TIM_UTC. -/
def State.TIM_UTC_PENDING (s : State) : Nat := s.fld R_TIM_UTC 17 1
/-- Field TIM_UTC_DIR of R_TIM_UTC. -/
def State.TIM_UTC_DIR (s : State) : Nat := s.fld R_TIM_UTC 18 1
/-- TIM_LEAPAT (03_time_base.md TIM-6). -/
def R_TIM_LEAPAT : Nat := 0x10014
/-- TIM_FREQ (03_time_base.md TIM-6). -/
def R_TIM_FREQ : Nat := 0x10018
/-- TIM_ERRBOUND (03_time_base.md TIM-6). -/
def R_TIM_ERRBOUND : Nat := 0x1001C
/-- TIM_SLEW (03_time_base.md TIM-6). -/
def R_TIM_SLEW : Nat := 0x10020
/-- TIM_SRCPRI (03_time_base.md TIM-7). -/
def R_TIM_SRCPRI : Nat := 0x10030
/-- Field TIM_SRCPRI_PRI0 of R_TIM_SRCPRI. -/
def State.TIM_SRCPRI_PRI0 (s : State) : Nat := s.fld R_TIM_SRCPRI 0 3
/-- Field TIM_SRCPRI_PRI1 of R_TIM_SRCPRI. -/
def State.TIM_SRCPRI_PRI1 (s : State) : Nat := s.fld R_TIM_SRCPRI 4 3
/-- Field TIM_SRCPRI_PRI2 of R_TIM_SRCPRI. -/
def State.TIM_SRCPRI_PRI2 (s : State) : Nat := s.fld R_TIM_SRCPRI 8 3
/-- Field TIM_SRCPRI_PRI3 of R_TIM_SRCPRI. -/
def State.TIM_SRCPRI_PRI3 (s : State) : Nat := s.fld R_TIM_SRCPRI 12 3
/-- Field TIM_SRCPRI_REF10_EN of R_TIM_SRCPRI. -/
def State.TIM_SRCPRI_REF10_EN (s : State) : Nat := s.fld R_TIM_SRCPRI 16 1
/-- TIM_QUALCFG (03_time_base.md TIM-7). -/
def R_TIM_QUALCFG : Nat := 0x10034
/-- Field TIM_QUALCFG_QUAL_N of R_TIM_QUALCFG. -/
def State.TIM_QUALCFG_QUAL_N (s : State) : Nat := s.fld R_TIM_QUALCFG 0 4
/-- Field TIM_QUALCFG_OUTLIER of R_TIM_QUALCFG. -/
def State.TIM_QUALCFG_OUTLIER (s : State) : Nat := s.fld R_TIM_QUALCFG 16 8
/-- Field TIM_QUALCFG_LOCK_US of R_TIM_QUALCFG. -/
def State.TIM_QUALCFG_LOCK_US (s : State) : Nat := s.fld R_TIM_QUALCFG 24 8
/-- TIM_HOLDCFG (03_time_base.md TIM-7). -/
def R_TIM_HOLDCFG : Nat := 0x10038
/-- Field TIM_HOLDCFG_RATE_NS of R_TIM_HOLDCFG. -/
def State.TIM_HOLDCFG_RATE_NS (s : State) : Nat := s.fld R_TIM_HOLDCFG 0 16
/-- TIM_PPSCFG (03_time_base.md TIM-7). -/
def R_TIM_PPSCFG : Nat := 0x1003C
/-- Field TIM_PPSCFG_EDGE of R_TIM_PPSCFG. -/
def State.TIM_PPSCFG_EDGE (s : State) : Nat := s.fld R_TIM_PPSCFG 0 1
/-- Field TIM_PPSCFG_LABEL_FLOW of R_TIM_PPSCFG. -/
def State.TIM_PPSCFG_LABEL_FLOW (s : State) : Nat := s.fld R_TIM_PPSCFG 1 13
/-- TIM_PPSDLY (03_time_base.md TIM-7). -/
def R_TIM_PPSDLY : Nat := 0x10040
/-- Field TIM_PPSDLY_DELAY_NS of R_TIM_PPSDLY. -/
def State.TIM_PPSDLY_DELAY_NS (s : State) : Nat := s.fld R_TIM_PPSDLY 0 32
/-- TIM_IRIGCFG (03_time_base.md TIM-7). -/
def R_TIM_IRIGCFG : Nat := 0x10044
/-- Field TIM_IRIGCFG_CODE of R_TIM_IRIGCFG. -/
def State.TIM_IRIGCFG_CODE (s : State) : Nat := s.fld R_TIM_IRIGCFG 0 3
/-- Field TIM_IRIGCFG_EXT of R_TIM_IRIGCFG. -/
def State.TIM_IRIGCFG_EXT (s : State) : Nat := s.fld R_TIM_IRIGCFG 3 1
/-- Field TIM_IRIGCFG_YEAR_BASE of R_TIM_IRIGCFG. -/
def State.TIM_IRIGCFG_YEAR_BASE (s : State) : Nat := s.fld R_TIM_IRIGCFG 8 8
/-- Field TIM_IRIGCFG_LOCAL_OFS of R_TIM_IRIGCFG. -/
def State.TIM_IRIGCFG_LOCAL_OFS (s : State) : Nat := s.fld R_TIM_IRIGCFG 16 16
/-- TIM_PPSOUT (03_time_base.md TIM-7). -/
def R_TIM_PPSOUT : Nat := 0x10048
/-- Field TIM_PPSOUT_ENABLE of R_TIM_PPSOUT. -/
def State.TIM_PPSOUT_ENABLE (s : State) : Nat := s.fld R_TIM_PPSOUT 0 1
/-- Field TIM_PPSOUT_STANDBY_EN of R_TIM_PPSOUT. -/
def State.TIM_PPSOUT_STANDBY_EN (s : State) : Nat := s.fld R_TIM_PPSOUT 1 1
/-- Field TIM_PPSOUT_GATE_QUALITY of R_TIM_PPSOUT. -/
def State.TIM_PPSOUT_GATE_QUALITY (s : State) : Nat := s.fld R_TIM_PPSOUT 4 4
/-- TIM_SRCACC (03_time_base.md TIM-7). -/
def R_TIM_SRCACC : Nat := 0x1004C
/-- Field TIM_SRCACC_PTP of R_TIM_SRCACC. -/
def State.TIM_SRCACC_PTP (s : State) : Nat := s.fld R_TIM_SRCACC 0 8
/-- Field TIM_SRCACC_PPS of R_TIM_SRCACC. -/
def State.TIM_SRCACC_PPS (s : State) : Nat := s.fld R_TIM_SRCACC 8 8
/-- Field TIM_SRCACC_IRIG of R_TIM_SRCACC. -/
def State.TIM_SRCACC_IRIG (s : State) : Nat := s.fld R_TIM_SRCACC 16 8
/-- Field TIM_SRCACC_ARM of R_TIM_SRCACC. -/
def State.TIM_SRCACC_ARM (s : State) : Nat := s.fld R_TIM_SRCACC 24 8
/-- TIM_SRCSTAT (03_time_base.md TIM-8). -/
def R_TIM_SRCSTAT (k : Nat) : Nat := 0x10050 + 0x4 * k
/-- TIM_SRCOFS (03_time_base.md TIM-8). -/
def R_TIM_SRCOFS (k : Nat) : Nat := 0x10060 + 0x4 * k
/-- TIM_FLAGS (03_time_base.md TIM-9). -/
def R_TIM_FLAGS : Nat := 0x10080
/-- SER_PCFG (04_serial_ports.md SER-5). -/
def R_SER_PCFG (n : Nat) : Nat := 0x20000 + 0x80 * n
/-- Field SER_PCFG_DIV of R_SER_PCFG. -/
def State.SER_PCFG_DIV (s : State) (n : Nat) : Nat := s.fld (R_SER_PCFG n) 0 16
/-- Field SER_PCFG_DBITS of R_SER_PCFG. -/
def State.SER_PCFG_DBITS (s : State) (n : Nat) : Nat := s.fld (R_SER_PCFG n) 16 4
/-- Field SER_PCFG_PAR of R_SER_PCFG. -/
def State.SER_PCFG_PAR (s : State) (n : Nat) : Nat := s.fld (R_SER_PCFG n) 20 3
/-- Field SER_PCFG_STOP of R_SER_PCFG. -/
def State.SER_PCFG_STOP (s : State) (n : Nat) : Nat := s.fld (R_SER_PCFG n) 23 2
/-- Field SER_PCFG_IR of R_SER_PCFG. -/
def State.SER_PCFG_IR (s : State) (n : Nat) : Nat := s.fld (R_SER_PCFG n) 25 2
/-- Field SER_PCFG_ENABLE of R_SER_PCFG. -/
def State.SER_PCFG_ENABLE (s : State) (n : Nat) : Nat := s.fld (R_SER_PCFG n) 27 1
/-- Field SER_PCFG_FLOW of R_SER_PCFG. -/
def State.SER_PCFG_FLOW (s : State) (n : Nat) : Nat := s.fld (R_SER_PCFG n) 28 1
/-- Field SER_PCFG_LOOP of R_SER_PCFG. -/
def State.SER_PCFG_LOOP (s : State) (n : Nat) : Nat := s.fld (R_SER_PCFG n) 29 1
/-- SER_PCTL (04_serial_ports.md SER-5). -/
def R_SER_PCTL (n : Nat) : Nat := 0x20004 + 0x80 * n
/-- Field SER_PCTL_HWM of R_SER_PCTL. -/
def State.SER_PCTL_HWM (s : State) (n : Nat) : Nat := s.fld (R_SER_PCTL n) 0 7
/-- Field SER_PCTL_LWM of R_SER_PCTL. -/
def State.SER_PCTL_LWM (s : State) (n : Nat) : Nat := s.fld (R_SER_PCTL n) 8 7
/-- Field SER_PCTL_STUCK_TIME of R_SER_PCTL. -/
def State.SER_PCTL_STUCK_TIME (s : State) (n : Nat) : Nat := s.fld (R_SER_PCTL n) 16 16
/-- SER_PCTL2 (04_serial_ports.md SER-5). -/
def R_SER_PCTL2 (n : Nat) : Nat := 0x20008 + 0x80 * n
/-- Field SER_PCTL2_BREAK_LEN of R_SER_PCTL2. -/
def State.SER_PCTL2_BREAK_LEN (s : State) (n : Nat) : Nat := s.fld (R_SER_PCTL2 n) 0 8
/-- Field SER_PCTL2_IR_MINW of R_SER_PCTL2. -/
def State.SER_PCTL2_IR_MINW (s : State) (n : Nat) : Nat := s.fld (R_SER_PCTL2 n) 8 8
/-- Field SER_PCTL2_RTS_POL of R_SER_PCTL2. -/
def State.SER_PCTL2_RTS_POL (s : State) (n : Nat) : Nat := s.fld (R_SER_PCTL2 n) 16 1
/-- Field SER_PCTL2_CTS_POL of R_SER_PCTL2. -/
def State.SER_PCTL2_CTS_POL (s : State) (n : Nat) : Nat := s.fld (R_SER_PCTL2 n) 17 1
/-- Field SER_PCTL2_IR_TXINV of R_SER_PCTL2. -/
def State.SER_PCTL2_IR_TXINV (s : State) (n : Nat) : Nat := s.fld (R_SER_PCTL2 n) 18 1
/-- Field SER_PCTL2_IR_RXINV of R_SER_PCTL2. -/
def State.SER_PCTL2_IR_RXINV (s : State) (n : Nat) : Nat := s.fld (R_SER_PCTL2 n) 19 1
/-- SER_PSTAT (04_serial_ports.md SER-5). -/
def R_SER_PSTAT (n : Nat) : Nat := 0x2000C + 0x80 * n
/-- SER_PRATE (04_serial_ports.md SER-5). -/
def R_SER_PRATE (n : Nat) : Nat := 0x20010 + 0x80 * n
/-- SER_PFLAGS (04_serial_ports.md SER-5). -/
def R_SER_PFLAGS (n : Nat) : Nat := 0x20014 + 0x80 * n
/-- SER_PRXCNT (04_serial_ports.md SER-5). -/
def R_SER_PRXCNT (n : Nat) : Nat := 0x20018 + 0x80 * n
/-- SER_PTXCNT (04_serial_ports.md SER-5). -/
def R_SER_PTXCNT (n : Nat) : Nat := 0x2001C + 0x80 * n
/-- SER_POVRCNT (04_serial_ports.md SER-5). -/
def R_SER_POVRCNT (n : Nat) : Nat := 0x20020 + 0x80 * n
/-- SER_PDISCNT (04_serial_ports.md SER-5). -/
def R_SER_PDISCNT (n : Nat) : Nat := 0x20024 + 0x80 * n
/-- SER_PFLAGCNT (04_serial_ports.md SER-5). -/
def R_SER_PFLAGCNT (n : Nat) (f : Nat) : Nat := 0x20040 + 0x80 * n + 0x4 * f
/-- SER_BANK (04_serial_ports.md SER-6). -/
def R_SER_BANK (b : Nat) : Nat := 0x23000 + 0x20 * b
/-- Field SER_BANK_SHEDDABLE of R_SER_BANK. -/
def State.SER_BANK_SHEDDABLE (s : State) (b : Nat) : Nat := s.fld (R_SER_BANK b) 2 1
/-- SER_BSTAT (04_serial_ports.md SER-6). -/
def R_SER_BSTAT (b : Nat) : Nat := 0x23004 + 0x20 * b
/-- SER_BFLAGS (04_serial_ports.md SER-6). -/
def R_SER_BFLAGS (b : Nat) : Nat := 0x23008 + 0x20 * b
/-- SER_BFLAGCNT (04_serial_ports.md SER-6). -/
def R_SER_BFLAGCNT (b : Nat) (f : Nat) : Nat := 0x23010 + 0x20 * b + 0x4 * f
/-- SER_PORTSUM (04_serial_ports.md SER-6). -/
def R_SER_PORTSUM (k : Nat) : Nat := 0x23100 + 0x4 * k
/-- SER_BANKSUM (04_serial_ports.md SER-6). -/
def R_SER_BANKSUM : Nat := 0x2310C
/-- SNT_NPCFG (05_sentences_checks.md SNT-5). -/
def R_SNT_NPCFG (k : Nat) : Nat := 0x30200 + 0x20 * k
/-- Field SNT_NPCFG_ENABLE of R_SNT_NPCFG. -/
def State.SNT_NPCFG_ENABLE (s : State) (k : Nat) : Nat := s.fld (R_SNT_NPCFG k) 0 1
/-- Field SNT_NPCFG_DEFAULT_HQ of R_SNT_NPCFG. -/
def State.SNT_NPCFG_DEFAULT_HQ (s : State) (k : Nat) : Nat := s.fld (R_SNT_NPCFG k) 4 4
/-- Field SNT_NPCFG_SHEDDABLE of R_SNT_NPCFG. -/
def State.SNT_NPCFG_SHEDDABLE (s : State) (k : Nat) : Nat := s.fld (R_SNT_NPCFG k) 8 1
/-- SNT_NPMACL (05_sentences_checks.md SNT-5). -/
def R_SNT_NPMACL (k : Nat) : Nat := 0x30204 + 0x20 * k
/-- Field SNT_NPMACL_MAC_LO of R_SNT_NPMACL. -/
def State.SNT_NPMACL_MAC_LO (s : State) (k : Nat) : Nat := s.fld (R_SNT_NPMACL k) 0 32
/-- SNT_NPMACH (05_sentences_checks.md SNT-5). -/
def R_SNT_NPMACH (k : Nat) : Nat := 0x30208 + 0x20 * k
/-- Field SNT_NPMACH_MAC_HI of R_SNT_NPMACH. -/
def State.SNT_NPMACH_MAC_HI (s : State) (k : Nat) : Nat := s.fld (R_SNT_NPMACH k) 0 16
/-- SNT_NPSTAT (05_sentences_checks.md SNT-5). -/
def R_SNT_NPSTAT (k : Nat) : Nat := 0x3020C + 0x20 * k
/-- SNT_RULE0 (05_sentences_checks.md SNT-5). -/
def R_SNT_RULE0 (r : Nat) : Nat := 0x30400 + 0x8 * r
/-- Field SNT_RULE0_ENABLE of R_SNT_RULE0. -/
def State.SNT_RULE0_ENABLE (s : State) (r : Nat) : Nat := s.fld (R_SNT_RULE0 r) 0 1
/-- Field SNT_RULE0_PORTS of R_SNT_RULE0. -/
def State.SNT_RULE0_PORTS (s : State) (r : Nat) : Nat := s.fld (R_SNT_RULE0 r) 1 4
/-- Field SNT_RULE0_IPV of R_SNT_RULE0. -/
def State.SNT_RULE0_IPV (s : State) (r : Nat) : Nat := s.fld (R_SNT_RULE0 r) 5 2
/-- Field SNT_RULE0_TYPE of R_SNT_RULE0. -/
def State.SNT_RULE0_TYPE (s : State) (r : Nat) : Nat := s.fld (R_SNT_RULE0 r) 7 2
/-- Field SNT_RULE0_HQ of R_SNT_RULE0. -/
def State.SNT_RULE0_HQ (s : State) (r : Nat) : Nat := s.fld (R_SNT_RULE0 r) 9 4
/-- Field SNT_RULE0_VLAN_MATCH of R_SNT_RULE0. -/
def State.SNT_RULE0_VLAN_MATCH (s : State) (r : Nat) : Nat := s.fld (R_SNT_RULE0 r) 13 1
/-- Field SNT_RULE0_VLAN of R_SNT_RULE0. -/
def State.SNT_RULE0_VLAN (s : State) (r : Nat) : Nat := s.fld (R_SNT_RULE0 r) 14 12
/-- SNT_RULE1 (05_sentences_checks.md SNT-5). -/
def R_SNT_RULE1 (r : Nat) : Nat := 0x30404 + 0x8 * r
/-- Field SNT_RULE1_UDP_LO of R_SNT_RULE1. -/
def State.SNT_RULE1_UDP_LO (s : State) (r : Nat) : Nat := s.fld (R_SNT_RULE1 r) 0 16
/-- Field SNT_RULE1_UDP_HI of R_SNT_RULE1. -/
def State.SNT_RULE1_UDP_HI (s : State) (r : Nat) : Nat := s.fld (R_SNT_RULE1 r) 16 16
/-- SNT_PCFG (05_sentences_checks.md SNT-6). -/
def R_SNT_PCFG (n : Nat) : Nat := 0x30000 + 0x4 * n
/-- Field SNT_PCFG_MODE of R_SNT_PCFG. -/
def State.SNT_PCFG_MODE (s : State) (n : Nat) : Nat := s.fld (R_SNT_PCFG n) 0 2
/-- Field SNT_PCFG_LONG_EN of R_SNT_PCFG. -/
def State.SNT_PCFG_LONG_EN (s : State) (n : Nat) : Nat := s.fld (R_SNT_PCFG n) 2 1
/-- Field SNT_PCFG_CS_REQUIRED of R_SNT_PCFG. -/
def State.SNT_PCFG_CS_REQUIRED (s : State) (n : Nat) : Nat := s.fld (R_SNT_PCFG n) 3 1
/-- Field SNT_PCFG_NF_ABANDON of R_SNT_PCFG. -/
def State.SNT_PCFG_NF_ABANDON (s : State) (n : Nat) : Nat := s.fld (R_SNT_PCFG n) 4 1
/-- Field SNT_PCFG_GAP_CT of R_SNT_PCFG. -/
def State.SNT_PCFG_GAP_CT (s : State) (n : Nat) : Nat := s.fld (R_SNT_PCFG n) 8 8
/-- Field SNT_PCFG_RAW_GAP of R_SNT_PCFG. -/
def State.SNT_PCFG_RAW_GAP (s : State) (n : Nat) : Nat := s.fld (R_SNT_PCFG n) 16 8
/-- CU_CFG (05_sentences_checks.md SNT-6). -/
def R_CU_CFG (u : Nat) : Nat := 0x30800 + 0x40 * u
/-- Field CU_CFG_ENABLE of R_CU_CFG. -/
def State.CU_CFG_ENABLE (s : State) (u : Nat) : Nat := s.fld (R_CU_CFG u) 0 1
/-- Field CU_CFG_ALG of R_CU_CFG. -/
def State.CU_CFG_ALG (s : State) (u : Nat) : Nat := s.fld (R_CU_CFG u) 1 3
/-- Field CU_CFG_POINT of R_CU_CFG. -/
def State.CU_CFG_POINT (s : State) (u : Nat) : Nat := s.fld (R_CU_CFG u) 4 4
/-- Field CU_CFG_INDEX of R_CU_CFG. -/
def State.CU_CFG_INDEX (s : State) (u : Nat) : Nat := s.fld (R_CU_CFG u) 11 13
/-- CU_RANGE (05_sentences_checks.md SNT-6). -/
def R_CU_RANGE (u : Nat) : Nat := 0x30804 + 0x40 * u
/-- CU_EXP (05_sentences_checks.md SNT-6). -/
def R_CU_EXP (u : Nat) : Nat := 0x30808 + 0x40 * u
/-- CU_LAST (05_sentences_checks.md SNT-6). -/
def R_CU_LAST (u : Nat) : Nat := 0x3080C + 0x40 * u
/-- CU_LASTEXP (05_sentences_checks.md SNT-6). -/
def R_CU_LASTEXP (u : Nat) : Nat := 0x30810 + 0x40 * u
/-- CU_BLOCKS (05_sentences_checks.md SNT-6). -/
def R_CU_BLOCKS (u : Nat) : Nat := 0x30814 + 0x40 * u
/-- CU_MISMATCH (05_sentences_checks.md SNT-6). -/
def R_CU_MISMATCH (u : Nat) : Nat := 0x30818 + 0x40 * u
/-- CU_FLAGS (05_sentences_checks.md SNT-6). -/
def R_CU_FLAGS (u : Nat) : Nat := 0x3081C + 0x40 * u
/-- CU_FLAGCNT (05_sentences_checks.md SNT-6). -/
def R_CU_FLAGCNT (u : Nat) (f : Nat) : Nat := 0x30820 + 0x40 * u + 0x4 * f
/-- SNT_FLAGS (05_sentences_checks.md SNT-7). -/
def R_SNT_FLAGS : Nat := 0x30600
/-- SNT_FLAGCNT (05_sentences_checks.md SNT-7). -/
def R_SNT_FLAGCNT (f : Nat) : Nat := 0x30640 + 0x4 * f
/-- SNT_ALIVE (05_sentences_checks.md SNT-7). -/
def R_SNT_ALIVE (m : Nat) : Nat := 0x30700 + 0x4 * m
/-- SNT_ALIVEGAP (05_sentences_checks.md SNT-7). -/
def R_SNT_ALIVEGAP (m : Nat) : Nat := 0x30710 + 0x4 * m
/-- SNT_REPEAT (05_sentences_checks.md SNT-7). -/
def R_SNT_REPEAT (m : Nat) : Nat := 0x30720 + 0x4 * m
/-- SNT_SCNT (05_sentences_checks.md SNT-7). -/
def R_SNT_SCNT (i : Nat) (c : Nat) : Nat := 0x31000 + 0x40 * i + 0x4 * c
/-- FLW_KEYPROF (06_flows.md FLW-5). -/
def R_FLW_KEYPROF (i : Nat) : Nat := 0x40000 + 0x4 * i
/-- Field FLW_KEYPROF_ASCII of R_FLW_KEYPROF. -/
def State.FLW_KEYPROF_ASCII (s : State) (i : Nat) : Nat := s.fld (R_FLW_KEYPROF i) 0 6
/-- Field FLW_KEYPROF_C37 of R_FLW_KEYPROF. -/
def State.FLW_KEYPROF_C37 (s : State) (i : Nat) : Nat := s.fld (R_FLW_KEYPROF i) 6 6
/-- Field FLW_KEYPROF_IEC450 of R_FLW_KEYPROF. -/
def State.FLW_KEYPROF_IEC450 (s : State) (i : Nat) : Nat := s.fld (R_FLW_KEYPROF i) 12 6
/-- Field FLW_KEYPROF_ARM of R_FLW_KEYPROF. -/
def State.FLW_KEYPROF_ARM (s : State) (i : Nat) : Nat := s.fld (R_FLW_KEYPROF i) 18 6
/-- Field FLW_KEYPROF_AUTOLEARN of R_FLW_KEYPROF. -/
def State.FLW_KEYPROF_AUTOLEARN (s : State) (i : Nat) : Nat := s.fld (R_FLW_KEYPROF i) 24 1
/-- FLW_AUTOCFG (06_flows.md FLW-5). -/
def R_FLW_AUTOCFG : Nat := 0x40200
/-- Field FLW_AUTOCFG_TEMPLATE of R_FLW_AUTOCFG. -/
def State.FLW_AUTOCFG_TEMPLATE (s : State) : Nat := s.fld R_FLW_AUTOCFG 0 13
/-- FLW_AUTOPOOL (06_flows.md FLW-5). -/
def R_FLW_AUTOPOOL : Nat := 0x40204
/-- Field FLW_AUTOPOOL_FIRST of R_FLW_AUTOPOOL. -/
def State.FLW_AUTOPOOL_FIRST (s : State) : Nat := s.fld R_FLW_AUTOPOOL 0 13
/-- Field FLW_AUTOPOOL_LAST of R_FLW_AUTOPOOL. -/
def State.FLW_AUTOPOOL_LAST (s : State) : Nat := s.fld R_FLW_AUTOPOOL 16 13
/-- FLW_QUARCFG (06_flows.md FLW-5). -/
def R_FLW_QUARCFG : Nat := 0x40208
/-- Field FLW_QUARCFG_HQ of R_FLW_QUARCFG. -/
def State.FLW_QUARCFG_HQ (s : State) : Nat := s.fld R_FLW_QUARCFG 0 4
/-- FLW_STATECNT (06_flows.md FLW-5). -/
def R_FLW_STATECNT (i : Nat) : Nat := 0x40210 + 0x4 * i
/-- FLW_FREECNT (06_flows.md FLW-5). -/
def R_FLW_FREECNT : Nat := 0x40224
/-- FLW_FLAGS (06_flows.md FLW-5). -/
def R_FLW_FLAGS : Nat := 0x40240
/-- FLW_FLAGCNT (06_flows.md FLW-5). -/
def R_FLW_FLAGCNT (f : Nat) : Nat := 0x40280 + 0x4 * f
/-- FLW_GCNT (06_flows.md FLW-5). -/
def R_FLW_GCNT (c : Nat) : Nat := 0x40300 + 0x4 * c
/-- FLW_LGRP (06_flows.md FLW-5). -/
def R_FLW_LGRP (g : Nat) (w : Nat) : Nat := 0x48000 + 0x20 * g + 0x4 * w
/-- CHS_CFG (07_chisel_machine.md CHS-14). -/
def R_CHS_CFG : Nat := 0x50000
/-- Field CHS_CFG_RUN_LIMIT_US of R_CHS_CFG. -/
def State.CHS_CFG_RUN_LIMIT_US (s : State) : Nat := s.fld R_CHS_CFG 0 16
/-- CHS_PCODE (07_chisel_machine.md CHS-14). -/
def R_CHS_PCODE : Nat := 0x50004
/-- Field CHS_PCODE_CODE_END of R_CHS_PCODE. -/
def State.CHS_PCODE_CODE_END (s : State) : Nat := s.fld R_CHS_PCODE 0 17
/-- CHS_PTABLE (07_chisel_machine.md CHS-14). -/
def R_CHS_PTABLE : Nat := 0x50008
/-- Field CHS_PTABLE_TABLE_BASE of R_CHS_PTABLE. -/
def State.CHS_PTABLE_TABLE_BASE (s : State) : Nat := s.fld R_CHS_PTABLE 0 17
/-- CHS_LAYOUT (07_chisel_machine.md CHS-14). -/
def R_CHS_LAYOUT : Nat := 0x5000C
/-- Field CHS_LAYOUT_BASE of R_CHS_LAYOUT. -/
def State.CHS_LAYOUT_BASE (s : State) : Nat := s.fld R_CHS_LAYOUT 0 16
/-- Field CHS_LAYOUT_COUNT of R_CHS_LAYOUT. -/
def State.CHS_LAYOUT_COUNT (s : State) : Nat := s.fld R_CHS_LAYOUT 16 10
/-- CHS_PRIENG (07_chisel_machine.md CHS-14). -/
def R_CHS_PRIENG (p : Nat) : Nat := 0x50010 + 0x4 * p
/-- Field CHS_PRIENG_ENGINES of R_CHS_PRIENG. -/
def State.CHS_PRIENG_ENGINES (s : State) (p : Nat) : Nat := s.fld (R_CHS_PRIENG p) 0 24
/-- CHS_TIMER0 (07_chisel_machine.md CHS-14). -/
def R_CHS_TIMER0 (k : Nat) : Nat := 0x50040 + 0x8 * k
/-- Field CHS_TIMER0_ENABLE of R_CHS_TIMER0. -/
def State.CHS_TIMER0_ENABLE (s : State) (k : Nat) : Nat := s.fld (R_CHS_TIMER0 k) 0 1
/-- Field CHS_TIMER0_FLOW of R_CHS_TIMER0. -/
def State.CHS_TIMER0_FLOW (s : State) (k : Nat) : Nat := s.fld (R_CHS_TIMER0 k) 1 13
/-- Field CHS_TIMER0_ENTRY_PC of R_CHS_TIMER0. -/
def State.CHS_TIMER0_ENTRY_PC (s : State) (k : Nat) : Nat := s.fld (R_CHS_TIMER0 k) 16 16
/-- CHS_TIMER1 (07_chisel_machine.md CHS-14). -/
def R_CHS_TIMER1 (k : Nat) : Nat := 0x50044 + 0x8 * k
/-- Field CHS_TIMER1_PERIOD_US of R_CHS_TIMER1. -/
def State.CHS_TIMER1_PERIOD_US (s : State) (k : Nat) : Nat := s.fld (R_CHS_TIMER1 k) 0 20
/-- CHS_TPHASE (07_chisel_machine.md CHS-14). -/
def R_CHS_TPHASE (k : Nat) : Nat := 0x500C0 + 0x4 * k
/-- Field CHS_TPHASE_PHASE_US of R_CHS_TPHASE. -/
def State.CHS_TPHASE_PHASE_US (s : State) (k : Nat) : Nat := s.fld (R_CHS_TPHASE k) 0 20
/-- CHS_ENGSTAT (07_chisel_machine.md CHS-14). -/
def R_CHS_ENGSTAT (e : Nat) : Nat := 0x50100 + 0x4 * e
/-- CHS_LFAULT0 (07_chisel_machine.md CHS-14). -/
def R_CHS_LFAULT0 : Nat := 0x50180
/-- CHS_LFAULT1 (07_chisel_machine.md CHS-14). -/
def R_CHS_LFAULT1 : Nat := 0x50184
/-- CHS_LFAULT2 (07_chisel_machine.md CHS-14). -/
def R_CHS_LFAULT2 : Nat := 0x50188
/-- CHS_LFAULT3 (07_chisel_machine.md CHS-14). -/
def R_CHS_LFAULT3 : Nat := 0x5018C
/-- CHS_FLAGS (07_chisel_machine.md CHS-14). -/
def R_CHS_FLAGS : Nat := 0x50190
/-- CHS_FLAGCNT (07_chisel_machine.md CHS-14). -/
def R_CHS_FLAGCNT (f : Nat) : Nat := 0x501C0 + 0x4 * f
/-- CHS_FCNT (07_chisel_machine.md CHS-14). -/
def R_CHS_FCNT (c : Nat) : Nat := 0x50200 + 0x4 * c
/-- CHS_GCNT (07_chisel_machine.md CHS-14). -/
def R_CHS_GCNT (c : Nat) : Nat := 0x50240 + 0x4 * c
/-- ALN_DCFG (09_alignment.md ALN-8). -/
def R_ALN_DCFG (d : Nat) : Nat := 0x60000 + 0x40 * d
/-- Field ALN_DCFG_ENABLE of R_ALN_DCFG. -/
def State.ALN_DCFG_ENABLE (s : State) (d : Nat) : Nat := s.fld (R_ALN_DCFG d) 0 1
/-- Field ALN_DCFG_RATE of R_ALN_DCFG. -/
def State.ALN_DCFG_RATE (s : State) (d : Nat) : Nat := s.fld (R_ALN_DCFG d) 1 4
/-- Field ALN_DCFG_STREAM_UP of R_ALN_DCFG. -/
def State.ALN_DCFG_STREAM_UP (s : State) (d : Nat) : Nat := s.fld (R_ALN_DCFG d) 5 1
/-- ALN_DWMIN (09_alignment.md ALN-8). -/
def R_ALN_DWMIN (d : Nat) : Nat := 0x60004 + 0x40 * d
/-- Field ALN_DWMIN_W_MIN_US of R_ALN_DWMIN. -/
def State.ALN_DWMIN_W_MIN_US (s : State) (d : Nat) : Nat := s.fld (R_ALN_DWMIN d) 0 20
/-- ALN_DMARGIN (09_alignment.md ALN-8). -/
def R_ALN_DMARGIN (d : Nat) : Nat := 0x60008 + 0x40 * d
/-- Field ALN_DMARGIN_M_US of R_ALN_DMARGIN. -/
def State.ALN_DMARGIN_M_US (s : State) (d : Nat) : Nat := s.fld (R_ALN_DMARGIN d) 0 20
/-- ALN_DWMAX (09_alignment.md ALN-8). -/
def R_ALN_DWMAX (d : Nat) : Nat := 0x6000C + 0x40 * d
/-- Field ALN_DWMAX_W_MAX_MS of R_ALN_DWMAX. -/
def State.ALN_DWMAX_W_MAX_MS (s : State) (d : Nat) : Nat := s.fld (R_ALN_DWMAX d) 0 14
/-- Field ALN_DWMAX_H_LATE_MS of R_ALN_DWMAX. -/
def State.ALN_DWMAX_H_LATE_MS (s : State) (d : Nat) : Nat := s.fld (R_ALN_DWMAX d) 16 14
/-- ALN_DTAIL (09_alignment.md ALN-8). -/
def R_ALN_DTAIL (d : Nat) : Nat := 0x60010 + 0x40 * d
/-- Field ALN_DTAIL_TAIL of R_ALN_DTAIL. -/
def State.ALN_DTAIL_TAIL (s : State) (d : Nat) : Nat := s.fld (R_ALN_DTAIL d) 0 24
/-- ALN_FREE (09_alignment.md ALN-9). -/
def R_ALN_FREE : Nat := 0x60400
/-- ALN_SPILLCFG (09_alignment.md ALN-9). -/
def R_ALN_SPILLCFG : Nat := 0x60404
/-- Field ALN_SPILLCFG_SPILL_LWM of R_ALN_SPILLCFG. -/
def State.ALN_SPILLCFG_SPILL_LWM (s : State) : Nat := s.fld R_ALN_SPILLCFG 0 17
/-- ALN_RESERVE (09_alignment.md ALN-9). -/
def R_ALN_RESERVE : Nat := 0x60408
/-- Field ALN_RESERVE_RESERVE of R_ALN_RESERVE. -/
def State.ALN_RESERVE_RESERVE (s : State) : Nat := s.fld R_ALN_RESERVE 0 17
/-- ALN_DEEPBASE (09_alignment.md ALN-9). -/
def R_ALN_DEEPBASE : Nat := 0x6040C
/-- Field ALN_DEEPBASE_BASE_MIB of R_ALN_DEEPBASE. -/
def State.ALN_DEEPBASE_BASE_MIB (s : State) : Nat := s.fld R_ALN_DEEPBASE 0 15
/-- ALN_DEEPSIZE (09_alignment.md ALN-9). -/
def R_ALN_DEEPSIZE : Nat := 0x60410
/-- Field ALN_DEEPSIZE_SIZE_MIB of R_ALN_DEEPSIZE. -/
def State.ALN_DEEPSIZE_SIZE_MIB (s : State) : Nat := s.fld R_ALN_DEEPSIZE 0 12
/-- ALN_DEEPSTAT (09_alignment.md ALN-9). -/
def R_ALN_DEEPSTAT : Nat := 0x60414
/-- ALN_FREEMIN (09_alignment.md ALN-9). -/
def R_ALN_FREEMIN : Nat := 0x60418
/-- Field ALN_FREEMIN_FREEMIN of R_ALN_FREEMIN. -/
def State.ALN_FREEMIN_FREEMIN (s : State) : Nat := s.fld R_ALN_FREEMIN 0 18
/-- ALN_FLAGS (09_alignment.md ALN-9). -/
def R_ALN_FLAGS : Nat := 0x60440
/-- ALN_FLAGCNT (09_alignment.md ALN-9). -/
def R_ALN_FLAGCNT (f : Nat) : Nat := 0x60480 + 0x4 * f
/-- ALN_DCNT (09_alignment.md ALN-9). -/
def R_ALN_DCNT (d : Nat) (c : Nat) : Nat := 0x61000 + 0x80 * d + 0x4 * c
/-- RCV_LCFG (10_rate_conversion.md RCV-8). -/
def R_RCV_LCFG (l : Nat) : Nat := 0x70000 + 0x40 * l
/-- Field RCV_LCFG_ENABLE of R_RCV_LCFG. -/
def State.RCV_LCFG_ENABLE (s : State) (l : Nat) : Nat := s.fld (R_RCV_LCFG l) 0 1
/-- Field RCV_LCFG_BANK of R_RCV_LCFG. -/
def State.RCV_LCFG_BANK (s : State) (l : Nat) : Nat := s.fld (R_RCV_LCFG l) 1 6
/-- Field RCV_LCFG_DOMAIN of R_RCV_LCFG. -/
def State.RCV_LCFG_DOMAIN (s : State) (l : Nat) : Nat := s.fld (R_RCV_LCFG l) 7 4
/-- Field RCV_LCFG_DEPTH of R_RCV_LCFG. -/
def State.RCV_LCFG_DEPTH (s : State) (l : Nat) : Nat := s.fld (R_RCV_LCFG l) 11 7
/-- Field RCV_LCFG_FADE_N of R_RCV_LCFG. -/
def State.RCV_LCFG_FADE_N (s : State) (l : Nat) : Nat := s.fld (R_RCV_LCFG l) 18 8
/-- RCV_LSWAP (10_rate_conversion.md RCV-8). -/
def R_RCV_LSWAP (l : Nat) : Nat := 0x70004 + 0x40 * l
/-- RCV_LSWAPSEC (10_rate_conversion.md RCV-8). -/
def R_RCV_LSWAPSEC (l : Nat) : Nat := 0x70008 + 0x40 * l
/-- RCV_LSWAPNS (10_rate_conversion.md RCV-8). -/
def R_RCV_LSWAPNS (l : Nat) : Nat := 0x7000C + 0x40 * l
/-- Field RCV_LSWAPNS_NS of R_RCV_LSWAPNS. -/
def State.RCV_LSWAPNS_NS (s : State) (l : Nat) : Nat := s.fld (R_RCV_LSWAPNS l) 0 30
/-- RCV_LCNT (10_rate_conversion.md RCV-8). -/
def R_RCV_LCNT (l : Nat) (c : Nat) : Nat := 0x71000 + 0x80 * l + 0x4 * c
/-- RCV_FLAGS (10_rate_conversion.md RCV-9). -/
def R_RCV_FLAGS : Nat := 0x70400
/-- RCV_FLAGCNT (10_rate_conversion.md RCV-9). -/
def R_RCV_FLAGCNT (f : Nat) : Nat := 0x70440 + 0x4 * f
/-- ANA_CFG (11_analysis_triggers.md ANA-5). -/
def R_ANA_CFG : Nat := 0x80000
/-- Field ANA_CFG_ENABLE of R_ANA_CFG. -/
def State.ANA_CFG_ENABLE (s : State) : Nat := s.fld R_ANA_CFG 0 1
/-- Field ANA_CFG_ISL_DOMAIN of R_ANA_CFG. -/
def State.ANA_CFG_ISL_DOMAIN (s : State) : Nat := s.fld R_ANA_CFG 1 4
/-- Field ANA_CFG_ISL_EN of R_ANA_CFG. -/
def State.ANA_CFG_ISL_EN (s : State) : Nat := s.fld R_ANA_CFG 5 1
/-- ANA_ISLCFG (11_analysis_triggers.md ANA-5). -/
def R_ANA_ISLCFG : Nat := 0x80004
/-- Field ANA_ISLCFG_N of R_ANA_ISLCFG. -/
def State.ANA_ISLCFG_N (s : State) : Nat := s.fld R_ANA_ISLCFG 0 8
/-- Field ANA_ISLCFG_EXIT_N of R_ANA_ISLCFG. -/
def State.ANA_ISLCFG_EXIT_N (s : State) : Nat := s.fld R_ANA_ISLCFG 8 8
/-- Field ANA_ISLCFG_LEAK of R_ANA_ISLCFG. -/
def State.ANA_ISLCFG_LEAK (s : State) : Nat := s.fld R_ANA_ISLCFG 16 4
/-- ANA_ISLTH (11_analysis_triggers.md ANA-5). -/
def R_ANA_ISLTH : Nat := 0x80008
/-- ANA_ISLEXIT (11_analysis_triggers.md ANA-5). -/
def R_ANA_ISLEXIT : Nat := 0x8000C
/-- ANA_ISLSTAT (11_analysis_triggers.md ANA-5). -/
def R_ANA_ISLSTAT : Nat := 0x80010
/-- ANA_QSTAT (11_analysis_triggers.md ANA-5). -/
def R_ANA_QSTAT : Nat := 0x80014
/-- ANA_BLO (11_analysis_triggers.md ANA-5). -/
def R_ANA_BLO (b : Nat) : Nat := 0x80020 + 0x8 * b
/-- Field ANA_BLO_F_LO of R_ANA_BLO. -/
def State.ANA_BLO_F_LO (s : State) (b : Nat) : Nat := s.fld (R_ANA_BLO b) 0 20
/-- ANA_BHI (11_analysis_triggers.md ANA-5). -/
def R_ANA_BHI (b : Nat) : Nat := 0x80024 + 0x8 * b
/-- Field ANA_BHI_F_HI of R_ANA_BHI. -/
def State.ANA_BHI_F_HI (s : State) (b : Nat) : Nat := s.fld (R_ANA_BHI b) 0 20
/-- ANA_BCTL (11_analysis_triggers.md ANA-5). -/
def R_ANA_BCTL (b : Nat) : Nat := 0x80060 + 0x4 * b
/-- Field ANA_BCTL_AVG_SHIFT of R_ANA_BCTL. -/
def State.ANA_BCTL_AVG_SHIFT (s : State) (b : Nat) : Nat := s.fld (R_ANA_BCTL b) 0 4
/-- Field ANA_BCTL_FORGET_SHIFT of R_ANA_BCTL. -/
def State.ANA_BCTL_FORGET_SHIFT (s : State) (b : Nat) : Nat := s.fld (R_ANA_BCTL b) 4 4
/-- ANA_BCOEF (11_analysis_triggers.md ANA-5). -/
def R_ANA_BCOEF (d : Nat) (b : Nat) (w : Nat) : Nat := 0x81000 + 0x200 * d + 0x40 * b + 0x4 * w
/-- Field ANA_BCOEF_COEF of R_ANA_BCOEF. -/
def State.ANA_BCOEF_COEF (s : State) (d : Nat) (b : Nat) (w : Nat) : Nat := s.fld (R_ANA_BCOEF d b w) 0 32
/-- ANA_BSETTLE (11_analysis_triggers.md ANA-5). -/
def R_ANA_BSETTLE (d : Nat) (b : Nat) : Nat := 0x81028 + 0x200 * d + 0x40 * b
/-- Field ANA_BSETTLE_NSETTLE of R_ANA_BSETTLE. -/
def State.ANA_BSETTLE_NSETTLE (s : State) (d : Nat) (b : Nat) : Nat := s.fld (R_ANA_BSETTLE d b) 0 16
/-- ANA_AREA (11_analysis_triggers.md ANA-5). -/
def R_ANA_AREA (a : Nat) : Nat := 0x88000 + 0x4 * a
/-- Field ANA_AREA_ENABLE of R_ANA_AREA. -/
def State.ANA_AREA_ENABLE (s : State) (a : Nat) : Nat := s.fld (R_ANA_AREA a) 0 1
/-- Field ANA_AREA_MIN_MEMBERS of R_ANA_AREA. -/
def State.ANA_AREA_MIN_MEMBERS (s : State) (a : Nat) : Nat := s.fld (R_ANA_AREA a) 1 10
/-- ANA_AREAF (11_analysis_triggers.md ANA-5). -/
def R_ANA_AREAF (a : Nat) : Nat := 0x88080 + 0x4 * a
/-- ANA_SIG0 (11_analysis_triggers.md ANA-6). -/
def R_ANA_SIG0 (i : Nat) : Nat := 0x84000 + 0x10 * i
/-- Field ANA_SIG0_ENABLE of R_ANA_SIG0. -/
def State.ANA_SIG0_ENABLE (s : State) (i : Nat) : Nat := s.fld (R_ANA_SIG0 i) 0 1
/-- Field ANA_SIG0_DOMAIN of R_ANA_SIG0. -/
def State.ANA_SIG0_DOMAIN (s : State) (i : Nat) : Nat := s.fld (R_ANA_SIG0 i) 1 4
/-- Field ANA_SIG0_KIND of R_ANA_SIG0. -/
def State.ANA_SIG0_KIND (s : State) (i : Nat) : Nat := s.fld (R_ANA_SIG0 i) 5 3
/-- Field ANA_SIG0_BANDS of R_ANA_SIG0. -/
def State.ANA_SIG0_BANDS (s : State) (i : Nat) : Nat := s.fld (R_ANA_SIG0 i) 8 8
/-- Field ANA_SIG0_GAP_MAX of R_ANA_SIG0. -/
def State.ANA_SIG0_GAP_MAX (s : State) (i : Nat) : Nat := s.fld (R_ANA_SIG0 i) 16 8
/-- ANA_SIG1 (11_analysis_triggers.md ANA-6). -/
def R_ANA_SIG1 (i : Nat) : Nat := 0x84004 + 0x10 * i
/-- Field ANA_SIG1_FLOW of R_ANA_SIG1. -/
def State.ANA_SIG1_FLOW (s : State) (i : Nat) : Nat := s.fld (R_ANA_SIG1 i) 0 13
/-- Field ANA_SIG1_PMU of R_ANA_SIG1. -/
def State.ANA_SIG1_PMU (s : State) (i : Nat) : Nat := s.fld (R_ANA_SIG1 i) 13 4
/-- Field ANA_SIG1_CHAN of R_ANA_SIG1. -/
def State.ANA_SIG1_CHAN (s : State) (i : Nat) : Nat := s.fld (R_ANA_SIG1 i) 17 8
/-- ANA_SIG2 (11_analysis_triggers.md ANA-6). -/
def R_ANA_SIG2 (i : Nat) : Nat := 0x84008 + 0x10 * i
/-- Field ANA_SIG2_RFLOW of R_ANA_SIG2. -/
def State.ANA_SIG2_RFLOW (s : State) (i : Nat) : Nat := s.fld (R_ANA_SIG2 i) 0 13
/-- Field ANA_SIG2_RPMU of R_ANA_SIG2. -/
def State.ANA_SIG2_RPMU (s : State) (i : Nat) : Nat := s.fld (R_ANA_SIG2 i) 13 4
/-- Field ANA_SIG2_RCHAN of R_ANA_SIG2. -/
def State.ANA_SIG2_RCHAN (s : State) (i : Nat) : Nat := s.fld (R_ANA_SIG2 i) 17 8
/-- Field ANA_SIG2_AREA of R_ANA_SIG2. -/
def State.ANA_SIG2_AREA (s : State) (i : Nat) : Nat := s.fld (R_ANA_SIG2 i) 25 5
/-- Field ANA_SIG2_AREA_EN of R_ANA_SIG2. -/
def State.ANA_SIG2_AREA_EN (s : State) (i : Nat) : Nat := s.fld (R_ANA_SIG2 i) 30 1
/-- ANA_SIG3 (11_analysis_triggers.md ANA-6). -/
def R_ANA_SIG3 (i : Nat) : Nat := 0x8400C + 0x10 * i
/-- ANA_TC0 (11_analysis_triggers.md ANA-6). -/
def R_ANA_TC0 (k : Nat) : Nat := 0x89000 + 0x10 * k
/-- Field ANA_TC0_ENABLE of R_ANA_TC0. -/
def State.ANA_TC0_ENABLE (s : State) (k : Nat) : Nat := s.fld (R_ANA_TC0 k) 0 1
/-- Field ANA_TC0_DOMAIN of R_ANA_TC0. -/
def State.ANA_TC0_DOMAIN (s : State) (k : Nat) : Nat := s.fld (R_ANA_TC0 k) 1 4
/-- Field ANA_TC0_SRC of R_ANA_TC0. -/
def State.ANA_TC0_SRC (s : State) (k : Nat) : Nat := s.fld (R_ANA_TC0 k) 5 4
/-- Field ANA_TC0_CMP of R_ANA_TC0. -/
def State.ANA_TC0_CMP (s : State) (k : Nat) : Nat := s.fld (R_ANA_TC0 k) 9 2
/-- Field ANA_TC0_INDEX of R_ANA_TC0. -/
def State.ANA_TC0_INDEX (s : State) (k : Nat) : Nat := s.fld (R_ANA_TC0 k) 11 10
/-- Field ANA_TC0_BAND of R_ANA_TC0. -/
def State.ANA_TC0_BAND (s : State) (k : Nat) : Nat := s.fld (R_ANA_TC0 k) 21 3
/-- Field ANA_TC0_PERSIST of R_ANA_TC0. -/
def State.ANA_TC0_PERSIST (s : State) (k : Nat) : Nat := s.fld (R_ANA_TC0 k) 24 8
/-- ANA_TC1 (11_analysis_triggers.md ANA-6). -/
def R_ANA_TC1 (k : Nat) : Nat := 0x89004 + 0x10 * k
/-- Field ANA_TC1_CLEAR_N of R_ANA_TC1. -/
def State.ANA_TC1_CLEAR_N (s : State) (k : Nat) : Nat := s.fld (R_ANA_TC1 k) 0 8
/-- Field ANA_TC1_AND_WITH of R_ANA_TC1. -/
def State.ANA_TC1_AND_WITH (s : State) (k : Nat) : Nat := s.fld (R_ANA_TC1 k) 8 5
/-- Field ANA_TC1_AND_EN of R_ANA_TC1. -/
def State.ANA_TC1_AND_EN (s : State) (k : Nat) : Nat := s.fld (R_ANA_TC1 k) 13 1
/-- Field ANA_TC1_UPLINK of R_ANA_TC1. -/
def State.ANA_TC1_UPLINK (s : State) (k : Nat) : Nat := s.fld (R_ANA_TC1 k) 14 1
/-- Field ANA_TC1_CAPMASK of R_ANA_TC1. -/
def State.ANA_TC1_CAPMASK (s : State) (k : Nat) : Nat := s.fld (R_ANA_TC1 k) 16 16
/-- ANA_TC2 (11_analysis_triggers.md ANA-6). -/
def R_ANA_TC2 (k : Nat) : Nat := 0x89008 + 0x10 * k
/-- ANA_TC3 (11_analysis_triggers.md ANA-6). -/
def R_ANA_TC3 (k : Nat) : Nat := 0x8900C + 0x10 * k
/-- ANA_TCSTATE (11_analysis_triggers.md ANA-6). -/
def R_ANA_TCSTATE : Nat := 0x89200
/-- ANA_TCFIRED (11_analysis_triggers.md ANA-6). -/
def R_ANA_TCFIRED : Nat := 0x89204
/-- ANA_TCSETSEC (11_analysis_triggers.md ANA-6). -/
def R_ANA_TCSETSEC : Nat := 0x89208
/-- ANA_TCSETNS (11_analysis_triggers.md ANA-6). -/
def R_ANA_TCSETNS : Nat := 0x8920C
/-- ANA_ALARMMAP (11_analysis_triggers.md ANA-6). -/
def R_ANA_ALARMMAP (p : Nat) : Nat := 0x89210 + 0x4 * p
/-- ANA_RSEL (11_analysis_triggers.md ANA-7). -/
def R_ANA_RSEL : Nat := 0x8A000
/-- Field ANA_RSEL_SIG of R_ANA_RSEL. -/
def State.ANA_RSEL_SIG (s : State) : Nat := s.fld R_ANA_RSEL 0 10
/-- Field ANA_RSEL_BAND of R_ANA_RSEL. -/
def State.ANA_RSEL_BAND (s : State) : Nat := s.fld R_ANA_RSEL 10 3
/-- ANA_RAMP (11_analysis_triggers.md ANA-7). -/
def R_ANA_RAMP : Nat := 0x8A004
/-- ANA_RFREQ (11_analysis_triggers.md ANA-7). -/
def R_ANA_RFREQ : Nat := 0x8A008
/-- ANA_RDAMP (11_analysis_triggers.md ANA-7). -/
def R_ANA_RDAMP : Nat := 0x8A00C
/-- ANA_RFLAGS (11_analysis_triggers.md ANA-7). -/
def R_ANA_RFLAGS : Nat := 0x8A010
/-- ANA_RSETSEC (11_analysis_triggers.md ANA-7). -/
def R_ANA_RSETSEC : Nat := 0x8A014
/-- ANA_RSETNS (11_analysis_triggers.md ANA-7). -/
def R_ANA_RSETNS : Nat := 0x8A018
/-- ANA_RVAL (11_analysis_triggers.md ANA-7). -/
def R_ANA_RVAL : Nat := 0x8A01C
/-- ANA_PSEL (11_analysis_triggers.md ANA-7). -/
def R_ANA_PSEL : Nat := 0x8A020
/-- Field ANA_PSEL_I of R_ANA_PSEL. -/
def State.ANA_PSEL_I (s : State) : Nat := s.fld R_ANA_PSEL 0 5
/-- Field ANA_PSEL_J of R_ANA_PSEL. -/
def State.ANA_PSEL_J (s : State) : Nat := s.fld R_ANA_PSEL 8 5
/-- ANA_PDF (11_analysis_triggers.md ANA-7). -/
def R_ANA_PDF : Nat := 0x8A024
/-- ANA_PPHI (11_analysis_triggers.md ANA-7). -/
def R_ANA_PPHI : Nat := 0x8A028
/-- ANA_PSTAT (11_analysis_triggers.md ANA-7). -/
def R_ANA_PSTAT : Nat := 0x8A02C
/-- ANA_FLAGS (11_analysis_triggers.md ANA-7). -/
def R_ANA_FLAGS : Nat := 0x8A100
/-- ANA_FLAGCNT (11_analysis_triggers.md ANA-7). -/
def R_ANA_FLAGCNT (f : Nat) : Nat := 0x8A140 + 0x4 * f
/-- ANA_GCNT (11_analysis_triggers.md ANA-7). -/
def R_ANA_GCNT (c : Nat) : Nat := 0x8A200 + 0x4 * c
/-- ANA_TCCNT (11_analysis_triggers.md ANA-7). -/
def R_ANA_TCCNT (k : Nat) : Nat := 0x8A300 + 0x4 * k
/-- CAP_GCFG (12_event_capture.md CAP-6). -/
def R_CAP_GCFG (g : Nat) : Nat := 0x90000 + 0x40 * g
/-- Field CAP_GCFG_ENABLE of R_CAP_GCFG. -/
def State.CAP_GCFG_ENABLE (s : State) (g : Nat) : Nat := s.fld (R_CAP_GCFG g) 0 1
/-- Field CAP_GCFG_DOMAIN of R_CAP_GCFG. -/
def State.CAP_GCFG_DOMAIN (s : State) (g : Nat) : Nat := s.fld (R_CAP_GCFG g) 1 4
/-- Field CAP_GCFG_SINGLE of R_CAP_GCFG. -/
def State.CAP_GCFG_SINGLE (s : State) (g : Nat) : Nat := s.fld (R_CAP_GCFG g) 5 1
/-- Field CAP_GCFG_OVERWRITE of R_CAP_GCFG. -/
def State.CAP_GCFG_OVERWRITE (s : State) (g : Nat) : Nat := s.fld (R_CAP_GCFG g) 6 1
/-- Field CAP_GCFG_TRIGIN of R_CAP_GCFG. -/
def State.CAP_GCFG_TRIGIN (s : State) (g : Nat) : Nat := s.fld (R_CAP_GCFG g) 7 2
/-- CAP_GMEMB (12_event_capture.md CAP-6). -/
def R_CAP_GMEMB (g : Nat) : Nat := 0x90004 + 0x40 * g
/-- Field CAP_GMEMB_FIRST_MEMBER of R_CAP_GMEMB. -/
def State.CAP_GMEMB_FIRST_MEMBER (s : State) (g : Nat) : Nat := s.fld (R_CAP_GMEMB g) 0 13
/-- Field CAP_GMEMB_COUNT of R_CAP_GMEMB. -/
def State.CAP_GMEMB_COUNT (s : State) (g : Nat) : Nat := s.fld (R_CAP_GMEMB g) 16 11
/-- CAP_GWIN (12_event_capture.md CAP-6). -/
def R_CAP_GWIN (g : Nat) : Nat := 0x90008 + 0x40 * g
/-- Field CAP_GWIN_PRE of R_CAP_GWIN. -/
def State.CAP_GWIN_PRE (s : State) (g : Nat) : Nat := s.fld (R_CAP_GWIN g) 0 12
/-- Field CAP_GWIN_POST of R_CAP_GWIN. -/
def State.CAP_GWIN_POST (s : State) (g : Nat) : Nat := s.fld (R_CAP_GWIN g) 16 12
/-- CAP_GSIZE (12_event_capture.md CAP-6). -/
def R_CAP_GSIZE (g : Nat) : Nat := 0x9000C + 0x40 * g
/-- Field CAP_GSIZE_MB64 of R_CAP_GSIZE. -/
def State.CAP_GSIZE_MB64 (s : State) (g : Nat) : Nat := s.fld (R_CAP_GSIZE g) 0 7
/-- Field CAP_GSIZE_RECORDS of R_CAP_GSIZE. -/
def State.CAP_GSIZE_RECORDS (s : State) (g : Nat) : Nat := s.fld (R_CAP_GSIZE g) 16 16
/-- CAP_GBASE (12_event_capture.md CAP-6). -/
def R_CAP_GBASE (g : Nat) : Nat := 0x90010 + 0x40 * g
/-- Field CAP_GBASE_BASE of R_CAP_GBASE. -/
def State.CAP_GBASE_BASE (s : State) (g : Nat) : Nat := s.fld (R_CAP_GBASE g) 0 22
/-- CAP_GACK (12_event_capture.md CAP-6). -/
def R_CAP_GACK (g : Nat) : Nat := 0x90020 + 0x40 * g
/-- Field CAP_GACK_SEQ of R_CAP_GACK. -/
def State.CAP_GACK_SEQ (s : State) (g : Nat) : Nat := s.fld (R_CAP_GACK g) 0 32
/-- CAP_GCNT (12_event_capture.md CAP-6). -/
def R_CAP_GCNT (g : Nat) (c : Nat) : Nat := 0x91000 + 0x40 * g + 0x4 * c
/-- CAP_WINBASE (12_event_capture.md CAP-7). -/
def R_CAP_WINBASE : Nat := 0x90400
/-- Field CAP_WINBASE_BASE of R_CAP_WINBASE. -/
def State.CAP_WINBASE_BASE (s : State) : Nat := s.fld R_CAP_WINBASE 0 22
/-- CAP_SUMSTAT (12_event_capture.md CAP-7). -/
def R_CAP_SUMSTAT : Nat := 0x90404
/-- CAP_SUMNEWEST (12_event_capture.md CAP-7). -/
def R_CAP_SUMNEWEST : Nat := 0x90408
/-- CAP_FLAGS (12_event_capture.md CAP-7). -/
def R_CAP_FLAGS : Nat := 0x90440
/-- CAP_FLAGCNT (12_event_capture.md CAP-7). -/
def R_CAP_FLAGCNT (f : Nat) : Nat := 0x90480 + 0x4 * f
/-- CAP_SUMM (12_event_capture.md CAP-7). -/
def R_CAP_SUMM (i : Nat) (w : Nat) : Nat := 0x92000 + 0x20 * i + 0x4 * w
/-- EGR_SCFG (13_egress.md EGR-5). -/
def R_EGR_SCFG (i : Nat) : Nat := 0xA0000 + 0x40 * i
/-- Field EGR_SCFG_ENABLE of R_EGR_SCFG. -/
def State.EGR_SCFG_ENABLE (s : State) (i : Nat) : Nat := s.fld (R_EGR_SCFG i) 0 1
/-- Field EGR_SCFG_PORT of R_EGR_SCFG. -/
def State.EGR_SCFG_PORT (s : State) (i : Nat) : Nat := s.fld (R_EGR_SCFG i) 1 2
/-- Field EGR_SCFG_KIND of R_EGR_SCFG. -/
def State.EGR_SCFG_KIND (s : State) (i : Nat) : Nat := s.fld (R_EGR_SCFG i) 3 2
/-- Field EGR_SCFG_PRIO of R_EGR_SCFG. -/
def State.EGR_SCFG_PRIO (s : State) (i : Nat) : Nat := s.fld (R_EGR_SCFG i) 5 3
/-- Field EGR_SCFG_DOMAIN of R_EGR_SCFG. -/
def State.EGR_SCFG_DOMAIN (s : State) (i : Nat) : Nat := s.fld (R_EGR_SCFG i) 8 4
/-- Field EGR_SCFG_EMPTY_SEND of R_EGR_SCFG. -/
def State.EGR_SCFG_EMPTY_SEND (s : State) (i : Nat) : Nat := s.fld (R_EGR_SCFG i) 12 1
/-- Field EGR_SCFG_FIX_CHK of R_EGR_SCFG. -/
def State.EGR_SCFG_FIX_CHK (s : State) (i : Nat) : Nat := s.fld (R_EGR_SCFG i) 13 1
/-- Field EGR_SCFG_IPV6 of R_EGR_SCFG. -/
def State.EGR_SCFG_IPV6 (s : State) (i : Nat) : Nat := s.fld (R_EGR_SCFG i) 14 1
/-- Field EGR_SCFG_VERSION of R_EGR_SCFG. -/
def State.EGR_SCFG_VERSION (s : State) (i : Nat) : Nat := s.fld (R_EGR_SCFG i) 15 1
/-- Field EGR_SCFG_PAIR of R_EGR_SCFG. -/
def State.EGR_SCFG_PAIR (s : State) (i : Nat) : Nat := s.fld (R_EGR_SCFG i) 16 8
/-- Field EGR_SCFG_TXON_INIT of R_EGR_SCFG. -/
def State.EGR_SCFG_TXON_INIT (s : State) (i : Nat) : Nat := s.fld (R_EGR_SCFG i) 24 1
/-- EGR_SCFG2 (13_egress.md EGR-5). -/
def R_EGR_SCFG2 (i : Nat) : Nat := 0xA0004 + 0x40 * i
/-- Field EGR_SCFG2_IDCODE of R_EGR_SCFG2. -/
def State.EGR_SCFG2_IDCODE (s : State) (i : Nat) : Nat := s.fld (R_EGR_SCFG2 i) 0 16
/-- Field EGR_SCFG2_NBLK of R_EGR_SCFG2. -/
def State.EGR_SCFG2_NBLK (s : State) (i : Nat) : Nat := s.fld (R_EGR_SCFG2 i) 16 10
/-- EGR_STB (13_egress.md EGR-5). -/
def R_EGR_STB (i : Nat) : Nat := 0xA0008 + 0x40 * i
/-- Field EGR_STB_TIME_BASE of R_EGR_STB. -/
def State.EGR_STB_TIME_BASE (s : State) (i : Nat) : Nat := s.fld (R_EGR_STB i) 0 24
/-- EGR_SBLK (13_egress.md EGR-5). -/
def R_EGR_SBLK (i : Nat) : Nat := 0xA000C + 0x40 * i
/-- Field EGR_SBLK_FIRST of R_EGR_SBLK. -/
def State.EGR_SBLK_FIRST (s : State) (i : Nat) : Nat := s.fld (R_EGR_SBLK i) 0 13
/-- Field EGR_SBLK_LATE_HOLD_US of R_EGR_SBLK. -/
def State.EGR_SBLK_LATE_HOLD_US (s : State) (i : Nat) : Nat := s.fld (R_EGR_SBLK i) 16 16
/-- EGR_SHDR (13_egress.md EGR-5). -/
def R_EGR_SHDR (i : Nat) : Nat := 0xA0010 + 0x40 * i
/-- Field EGR_SHDR_HDR_LEN of R_EGR_SHDR. -/
def State.EGR_SHDR_HDR_LEN (s : State) (i : Nat) : Nat := s.fld (R_EGR_SHDR i) 0 7
/-- EGR_SCTL (13_egress.md EGR-5). -/
def R_EGR_SCTL (i : Nat) : Nat := 0xA0014 + 0x40 * i
/-- Field EGR_SCTL_TXON of R_EGR_SCTL. -/
def State.EGR_SCTL_TXON (s : State) (i : Nat) : Nat := s.fld (R_EGR_SCTL i) 0 1
/-- EGR_SSEQ (13_egress.md EGR-5). -/
def R_EGR_SSEQ (i : Nat) : Nat := 0xA0018 + 0x40 * i
/-- EGR_SLASTSEC (13_egress.md EGR-5). -/
def R_EGR_SLASTSEC (i : Nat) : Nat := 0xA001C + 0x40 * i
/-- EGR_SLASTNS (13_egress.md EGR-5). -/
def R_EGR_SLASTNS (i : Nat) : Nat := 0xA0020 + 0x40 * i
/-- EGR_SCNT (13_egress.md EGR-5). -/
def R_EGR_SCNT (i : Nat) (c : Nat) : Nat := 0xA4000 + 0x40 * i + 0x4 * c
/-- EGR_HQCFG (13_egress.md EGR-6). -/
def R_EGR_HQCFG (h : Nat) : Nat := 0xA8000 + 0x40 * h
/-- Field EGR_HQCFG_KIB of R_EGR_HQCFG. -/
def State.EGR_HQCFG_KIB (s : State) (h : Nat) : Nat := s.fld (R_EGR_HQCFG h) 0 11
/-- Field EGR_HQCFG_DMA of R_EGR_HQCFG. -/
def State.EGR_HQCFG_DMA (s : State) (h : Nat) : Nat := s.fld (R_EGR_HQCFG h) 11 1
/-- EGR_HQSTAT (13_egress.md EGR-6). -/
def R_EGR_HQSTAT (h : Nat) : Nat := 0xA8004 + 0x40 * h
/-- EGR_HQACK (13_egress.md EGR-6). -/
def R_EGR_HQACK (h : Nat) : Nat := 0xA8008 + 0x40 * h
/-- EGR_PORTCFG (13_egress.md EGR-6). -/
def R_EGR_PORTCFG (k : Nat) : Nat := 0xA8400 + 0x4 * k
/-- Field EGR_PORTCFG_QUANTUM of R_EGR_PORTCFG. -/
def State.EGR_PORTCFG_QUANTUM (s : State) (k : Nat) : Nat := s.fld (R_EGR_PORTCFG k) 0 14
/-- EGR_LVCFG (13_egress.md EGR-6). -/
def R_EGR_LVCFG (n : Nat) : Nat := 0xA9000 + 0x10 * n
/-- Field EGR_LVCFG_SLOTS of R_EGR_LVCFG. -/
def State.EGR_LVCFG_SLOTS (s : State) (n : Nat) : Nat := s.fld (R_EGR_LVCFG n) 0 7
/-- Field EGR_LVCFG_KEY_PORT of R_EGR_LVCFG. -/
def State.EGR_LVCFG_KEY_PORT (s : State) (n : Nat) : Nat := s.fld (R_EGR_LVCFG n) 7 1
/-- EGR_LVSTAT (13_egress.md EGR-6). -/
def R_EGR_LVSTAT (n : Nat) : Nat := 0xA9004 + 0x10 * n
/-- EGR_LVCNT (13_egress.md EGR-6). -/
def R_EGR_LVCNT (n : Nat) (c : Nat) : Nat := 0xAA000 + 0x10 * n + 0x4 * c
/-- EGR_ALARM (13_egress.md EGR-6). -/
def R_EGR_ALARM (p : Nat) : Nat := 0xAB000 + 0x4 * p
/-- Field EGR_ALARM_POL of R_EGR_ALARM. -/
def State.EGR_ALARM_POL (s : State) (p : Nat) : Nat := s.fld (R_EGR_ALARM p) 0 1
/-- Field EGR_ALARM_DRIVE of R_EGR_ALARM. -/
def State.EGR_ALARM_DRIVE (s : State) (p : Nat) : Nat := s.fld (R_EGR_ALARM p) 1 1
/-- Field EGR_ALARM_MIN_WIDTH_MS of R_EGR_ALARM. -/
def State.EGR_ALARM_MIN_WIDTH_MS (s : State) (p : Nat) : Nat := s.fld (R_EGR_ALARM p) 2 16
/-- EGR_ALSTAT (13_egress.md EGR-6). -/
def R_EGR_ALSTAT (p : Nat) : Nat := 0xAB010 + 0x4 * p
/-- EGR_FLAGS (13_egress.md EGR-6). -/
def R_EGR_FLAGS : Nat := 0xAB100
/-- EGR_FLAGCNT (13_egress.md EGR-6). -/
def R_EGR_FLAGCNT (f : Nat) : Nat := 0xAB140 + 0x4 * f
/-- EGR_GCNT (13_egress.md EGR-6). -/
def R_EGR_GCNT (c : Nat) : Nat := 0xAB200 + 0x4 * c
/-- ARM_LCFG (14_armature_links.md ARM-5). -/
def R_ARM_LCFG (k : Nat) : Nat := 0xB0000 + 0x40 * k
/-- Field ARM_LCFG_ENABLE of R_ARM_LCFG. -/
def State.ARM_LCFG_ENABLE (s : State) (k : Nat) : Nat := s.fld (R_ARM_LCFG k) 0 1
/-- Field ARM_LCFG_ROLE of R_ARM_LCFG. -/
def State.ARM_LCFG_ROLE (s : State) (k : Nat) : Nat := s.fld (R_ARM_LCFG k) 1 2
/-- Field ARM_LCFG_SHEDDABLE of R_ARM_LCFG. -/
def State.ARM_LCFG_SHEDDABLE (s : State) (k : Nat) : Nat := s.fld (R_ARM_LCFG k) 3 1
/-- Field ARM_LCFG_KEY_INDEX of R_ARM_LCFG. -/
def State.ARM_LCFG_KEY_INDEX (s : State) (k : Nat) : Nat := s.fld (R_ARM_LCFG k) 4 3
/-- Field ARM_LCFG_PREF of R_ARM_LCFG. -/
def State.ARM_LCFG_PREF (s : State) (k : Nat) : Nat := s.fld (R_ARM_LCFG k) 7 1
/-- ARM_LASYM (14_armature_links.md ARM-5). -/
def R_ARM_LASYM (k : Nat) : Nat := 0xB0004 + 0x40 * k
/-- ARM_LCNT (14_armature_links.md ARM-5). -/
def R_ARM_LCNT (k : Nat) (c : Nat) : Nat := 0xB1000 + 0x80 * k + 0x4 * c
/-- ARM_ID (14_armature_links.md ARM-6). -/
def R_ARM_ID : Nat := 0xB0400
/-- Field ARM_ID_DEVICE_ID of R_ARM_ID. -/
def State.ARM_ID_DEVICE_ID (s : State) : Nat := s.fld R_ARM_ID 0 14
/-- ARM_CFG (14_armature_links.md ARM-6). -/
def R_ARM_CFG : Nat := 0xB0404
/-- Field ARM_CFG_MGMT_EN of R_ARM_CFG. -/
def State.ARM_CFG_MGMT_EN (s : State) : Nat := s.fld R_ARM_CFG 0 1
/-- Field ARM_CFG_UP_MODE of R_ARM_CFG. -/
def State.ARM_CFG_UP_MODE (s : State) : Nat := s.fld R_ARM_CFG 1 1
/-- Field ARM_CFG_REVERT of R_ARM_CFG. -/
def State.ARM_CFG_REVERT (s : State) : Nat := s.fld R_ARM_CFG 2 1
/-- Field ARM_CFG_MGMT_HOPS of R_ARM_CFG. -/
def State.ARM_CFG_MGMT_HOPS (s : State) : Nat := s.fld R_ARM_CFG 8 8
/-- Field ARM_CFG_ALARM_HQ of R_ARM_CFG. -/
def State.ARM_CFG_ALARM_HQ (s : State) : Nat := s.fld R_ARM_CFG 16 4
/-- ARM_STAT (14_armature_links.md ARM-6). -/
def R_ARM_STAT : Nat := 0xB0408
/-- ARM_DHOP (14_armature_links.md ARM-6). -/
def R_ARM_DHOP (w : Nat) : Nat := 0xB0410 + 0x4 * w
/-- ARM_FLAGS (14_armature_links.md ARM-6). -/
def R_ARM_FLAGS : Nat := 0xB0480
/-- ARM_FLAGCNT (14_armature_links.md ARM-6). -/
def R_ARM_FLAGCNT (f : Nat) : Nat := 0xB04C0 + 0x4 * f
/-- ARM_ROUTE (14_armature_links.md ARM-6). -/
def R_ARM_ROUTE (w : Nat) : Nat := 0xBC000 + 0x4 * w
/-- HST_CTL (15_host_interface.md HST-8). -/
def R_HST_CTL : Nat := 0xC0000
/-- Field HST_CTL_CR_EN of R_HST_CTL. -/
def State.HST_CTL_CR_EN (s : State) : Nat := s.fld R_HST_CTL 0 1
/-- Field HST_CTL_KR_EN of R_HST_CTL. -/
def State.HST_CTL_KR_EN (s : State) : Nat := s.fld R_HST_CTL 1 1
/-- HST_CRBASEL (15_host_interface.md HST-8). -/
def R_HST_CRBASEL : Nat := 0xC0004
/-- HST_CRBASEH (15_host_interface.md HST-8). -/
def R_HST_CRBASEH : Nat := 0xC0008
/-- HST_CRTAIL (15_host_interface.md HST-8). -/
def R_HST_CRTAIL : Nat := 0xC000C
/-- Field HST_CRTAIL_TAIL of R_HST_CRTAIL. -/
def State.HST_CRTAIL_TAIL (s : State) : Nat := s.fld R_HST_CRTAIL 0 16
/-- HST_CRHEAD (15_host_interface.md HST-8). -/
def R_HST_CRHEAD : Nat := 0xC0010
/-- Field HST_CRHEAD_HEAD of R_HST_CRHEAD. -/
def State.HST_CRHEAD_HEAD (s : State) : Nat := s.fld R_HST_CRHEAD 0 16
/-- HST_KRBASEL (15_host_interface.md HST-8). -/
def R_HST_KRBASEL : Nat := 0xC0014
/-- HST_KRBASEH (15_host_interface.md HST-8). -/
def R_HST_KRBASEH : Nat := 0xC0018
/-- HST_KRTAIL (15_host_interface.md HST-8). -/
def R_HST_KRTAIL : Nat := 0xC001C
/-- Field HST_KRTAIL_TAIL of R_HST_KRTAIL. -/
def State.HST_KRTAIL_TAIL (s : State) : Nat := s.fld R_HST_KRTAIL 0 16
/-- HST_KRHEAD (15_host_interface.md HST-8). -/
def R_HST_KRHEAD : Nat := 0xC0020
/-- Field HST_KRHEAD_HEAD of R_HST_KRHEAD. -/
def State.HST_KRHEAD_HEAD (s : State) : Nat := s.fld R_HST_KRHEAD 0 16
/-- HST_KCOAL (15_host_interface.md HST-8). -/
def R_HST_KCOAL : Nat := 0xC0024
/-- Field HST_KCOAL_COUNT of R_HST_KCOAL. -/
def State.HST_KCOAL_COUNT (s : State) : Nat := s.fld R_HST_KCOAL 0 8
/-- Field HST_KCOAL_TIME_US of R_HST_KCOAL. -/
def State.HST_KCOAL_TIME_US (s : State) : Nat := s.fld R_HST_KCOAL 8 16
/-- HST_INFLIGHT (15_host_interface.md HST-8). -/
def R_HST_INFLIGHT : Nat := 0xC0028
/-- HST_FLAGS (15_host_interface.md HST-8). -/
def R_HST_FLAGS : Nat := 0xC0040
/-- HST_FLAGCNT (15_host_interface.md HST-8). -/
def R_HST_FLAGCNT (f : Nat) : Nat := 0xC0080 + 0x4 * f
/-- HST_HQBASEL (15_host_interface.md HST-8). -/
def R_HST_HQBASEL (h : Nat) : Nat := 0xC0100 + 0x20 * h
/-- HST_HQBASEH (15_host_interface.md HST-8). -/
def R_HST_HQBASEH (h : Nat) : Nat := 0xC0104 + 0x20 * h
/-- HST_HQSIZE (15_host_interface.md HST-8). -/
def R_HST_HQSIZE (h : Nat) : Nat := 0xC0108 + 0x20 * h
/-- Field HST_HQSIZE_LOG2 of R_HST_HQSIZE. -/
def State.HST_HQSIZE_LOG2 (s : State) (h : Nat) : Nat := s.fld (R_HST_HQSIZE h) 0 5
/-- HST_HQWR (15_host_interface.md HST-8). -/
def R_HST_HQWR (h : Nat) : Nat := 0xC010C + 0x20 * h
/-- Field HST_HQWR_WR of R_HST_HQWR. -/
def State.HST_HQWR_WR (s : State) (h : Nat) : Nat := s.fld (R_HST_HQWR h) 0 32
/-- HST_HQRD (15_host_interface.md HST-8). -/
def R_HST_HQRD (h : Nat) : Nat := 0xC0110 + 0x20 * h
/-- Field HST_HQRD_RD of R_HST_HQRD. -/
def State.HST_HQRD_RD (s : State) (h : Nat) : Nat := s.fld (R_HST_HQRD h) 0 32
/-- HST_GCNT (15_host_interface.md HST-8). -/
def R_HST_GCNT (c : Nat) : Nat := 0xC0400 + 0x4 * c
/-- PBR_CFG (16_peer_bridge_twin.md PBR-4). -/
def R_PBR_CFG : Nat := 0xD0000
/-- Field PBR_CFG_TWIN of R_PBR_CFG. -/
def State.PBR_CFG_TWIN (s : State) : Nat := s.fld R_PBR_CFG 0 1
/-- Field PBR_CFG_PERIOD_US of R_PBR_CFG. -/
def State.PBR_CFG_PERIOD_US (s : State) : Nat := s.fld R_PBR_CFG 8 8
/-- PBR_STAT (16_peer_bridge_twin.md PBR-4). -/
def R_PBR_STAT : Nat := 0xD0004
/-- PBR_PEER (16_peer_bridge_twin.md PBR-4). -/
def R_PBR_PEER : Nat := 0xD0008
/-- PBR_PEERVER (16_peer_bridge_twin.md PBR-4). -/
def R_PBR_PEERVER : Nat := 0xD000C
/-- PBR_LOCK (16_peer_bridge_twin.md PBR-4). -/
def R_PBR_LOCK : Nat := 0xD0010
/-- Field PBR_LOCK_BLOCK of R_PBR_LOCK. -/
def State.PBR_LOCK_BLOCK (s : State) : Nat := s.fld R_PBR_LOCK 0 5
/-- Field PBR_LOCK_STATE of R_PBR_LOCK. -/
def State.PBR_LOCK_STATE (s : State) : Nat := s.fld R_PBR_LOCK 10 3
/-- PBR_NEARERR (16_peer_bridge_twin.md PBR-4). -/
def R_PBR_NEARERR : Nat := 0xD0014
/-- PBR_NEARADDR (16_peer_bridge_twin.md PBR-4). -/
def R_PBR_NEARADDR : Nat := 0xD0018
/-- PBR_FARINT (16_peer_bridge_twin.md PBR-4). -/
def R_PBR_FARINT : Nat := 0xD001C
/-- PBR_RANGE (16_peer_bridge_twin.md PBR-4). -/
def R_PBR_RANGE (i : Nat) : Nat := 0xD0040 + 0x8 * i
/-- Field PBR_RANGE_ENABLE of R_PBR_RANGE. -/
def State.PBR_RANGE_ENABLE (s : State) (i : Nat) : Nat := s.fld (R_PBR_RANGE i) 0 1
/-- Field PBR_RANGE_NONPOSTED of R_PBR_RANGE. -/
def State.PBR_RANGE_NONPOSTED (s : State) (i : Nat) : Nat := s.fld (R_PBR_RANGE i) 1 1
/-- Field PBR_RANGE_BASE of R_PBR_RANGE. -/
def State.PBR_RANGE_BASE (s : State) (i : Nat) : Nat := s.fld (R_PBR_RANGE i) 2 9
/-- Field PBR_RANGE_LIMIT of R_PBR_RANGE. -/
def State.PBR_RANGE_LIMIT (s : State) (i : Nat) : Nat := s.fld (R_PBR_RANGE i) 16 9
/-- PBR_MIRUSER (16_peer_bridge_twin.md PBR-4). -/
def R_PBR_MIRUSER (w : Nat) (h : Nat) : Nat := 0xD0100 + 0x8 * w + 0x4 * h
/-- PBR_MIRFAR (16_peer_bridge_twin.md PBR-4). -/
def R_PBR_MIRFAR (w : Nat) (h : Nat) : Nat := 0xD0200 + 0x8 * w + 0x4 * h
/-- PBR_FLAGS (16_peer_bridge_twin.md PBR-4). -/
def R_PBR_FLAGS : Nat := 0xD0400
/-- PBR_FLAGCNT (16_peer_bridge_twin.md PBR-4). -/
def R_PBR_FLAGCNT (f : Nat) : Nat := 0xD0440 + 0x4 * f
/-- PBR_GCNT (16_peer_bridge_twin.md PBR-4). -/
def R_PBR_GCNT (c : Nat) : Nat := 0xD0500 + 0x4 * c
/-- CFG_STAT (17_configuration.md CFG-7). -/
def R_CFG_STAT : Nat := 0xE0000
/-- CFG_RUNVER (17_configuration.md CFG-7). -/
def R_CFG_RUNVER : Nat := 0xE0004
/-- CFG_PREVVER (17_configuration.md CFG-7). -/
def R_CFG_PREVVER : Nat := 0xE0008
/-- CFG_SLOTVER (17_configuration.md CFG-7). -/
def R_CFG_SLOTVER (i : Nat) : Nat := 0xE000C + 0x4 * i
/-- CFG_RETVER (17_configuration.md CFG-7). -/
def R_CFG_RETVER : Nat := 0xE0014
/-- CFG_MAQVER (17_configuration.md CFG-7). -/
def R_CFG_MAQVER : Nat := 0xE0018
/-- CFG_COMMITSEC (17_configuration.md CFG-7). -/
def R_CFG_COMMITSEC : Nat := 0xE001C
/-- CFG_COMMITNS (17_configuration.md CFG-7). -/
def R_CFG_COMMITNS : Nat := 0xE0020
/-- CFG_FLASHGEO (17_configuration.md CFG-7). -/
def R_CFG_FLASHGEO : Nat := 0xE0024
/-- Field CFG_FLASHGEO_SLOT_64K of R_CFG_FLASHGEO. -/
def State.CFG_FLASHGEO_SLOT_64K (s : State) : Nat := s.fld R_CFG_FLASHGEO 0 16
/-- CFG_JSEQ (17_configuration.md CFG-7). -/
def R_CFG_JSEQ : Nat := 0xE0028
/-- CFG_LASTERR (17_configuration.md CFG-7). -/
def R_CFG_LASTERR : Nat := 0xE002C
/-- CFG_LASTERROFS (17_configuration.md CFG-7). -/
def R_CFG_LASTERROFS : Nat := 0xE0030
/-- CFG_HOSTRAML (17_configuration.md CFG-7). -/
def R_CFG_HOSTRAML : Nat := 0xE0034
/-- CFG_HOSTRAMH (17_configuration.md CFG-7). -/
def R_CFG_HOSTRAMH : Nat := 0xE0038
/-- CFG_FLAGS (17_configuration.md CFG-7). -/
def R_CFG_FLAGS : Nat := 0xE0040
/-- CFG_FLAGCNT (17_configuration.md CFG-7). -/
def R_CFG_FLAGCNT (f : Nat) : Nat := 0xE0080 + 0x4 * f
/-- CFG_GCNT (17_configuration.md CFG-7). -/
def R_CFG_GCNT (c : Nat) : Nat := 0xE0100 + 0x4 * c
/-- PRT_AT0 (18_protection_integrity.md PRT-7). -/
def R_PRT_AT0 (t : Nat) (e : Nat) : Nat := 0xF1000 + 0x100 * t + 0x10 * e
/-- PRT_AT1 (18_protection_integrity.md PRT-7). -/
def R_PRT_AT1 (t : Nat) (e : Nat) : Nat := 0xF1004 + 0x100 * t + 0x10 * e
/-- PRT_AT2 (18_protection_integrity.md PRT-7). -/
def R_PRT_AT2 (t : Nat) (e : Nat) : Nat := 0xF1008 + 0x100 * t + 0x10 * e
/-- PRT_DDRREG0 (18_protection_integrity.md PRT-7). -/
def R_PRT_DDRREG0 (r : Nat) : Nat := 0xF0000 + 0x8 * r
/-- Field PRT_DDRREG0_BASE_MIB of R_PRT_DDRREG0. -/
def State.PRT_DDRREG0_BASE_MIB (s : State) (r : Nat) : Nat := s.fld (R_PRT_DDRREG0 r) 0 15
/-- PRT_DDRREG1 (18_protection_integrity.md PRT-7). -/
def R_PRT_DDRREG1 (r : Nat) : Nat := 0xF0004 + 0x8 * r
/-- Field PRT_DDRREG1_SIZE_MIB of R_PRT_DDRREG1. -/
def State.PRT_DDRREG1_SIZE_MIB (s : State) (r : Nat) : Nat := s.fld (R_PRT_DDRREG1 r) 0 15
/-- PRT_ECCLAST (18_protection_integrity.md PRT-7). -/
def R_PRT_ECCLAST : Nat := 0xF0044
/-- PRT_ECCADDR (18_protection_integrity.md PRT-7). -/
def R_PRT_ECCADDR : Nat := 0xF0048
/-- PRT_ERRNEXT (18_protection_integrity.md PRT-7). -/
def R_PRT_ERRNEXT : Nat := 0xF004C
/-- Field PRT_ERRNEXT_NEXT of R_PRT_ERRNEXT. -/
def State.PRT_ERRNEXT_NEXT (s : State) : Nat := s.fld R_PRT_ERRNEXT 0 4
/-- PRT_LOGNEXT (18_protection_integrity.md PRT-7). -/
def R_PRT_LOGNEXT : Nat := 0xF0050
/-- PRT_FLAGS (18_protection_integrity.md PRT-7). -/
def R_PRT_FLAGS : Nat := 0xF0080
/-- PRT_FLAGCNT (18_protection_integrity.md PRT-7). -/
def R_PRT_FLAGCNT (f : Nat) : Nat := 0xF00C0 + 0x4 * f
/-- PRT_VIOCNT (18_protection_integrity.md PRT-7). -/
def R_PRT_VIOCNT (m : Nat) : Nat := 0xF0100 + 0x4 * m
/-- PRT_CECNT (18_protection_integrity.md PRT-7). -/
def R_PRT_CECNT (i : Nat) : Nat := 0xF0140 + 0x4 * i
/-- PRT_UECNT (18_protection_integrity.md PRT-7). -/
def R_PRT_UECNT (i : Nat) : Nat := 0xF0180 + 0x4 * i
/-- PRT_ECCDROP (18_protection_integrity.md PRT-7). -/
def R_PRT_ECCDROP (i : Nat) : Nat := 0xF01C0 + 0x4 * i
/-- PRT_ERRLOG0 (18_protection_integrity.md PRT-7). -/
def R_PRT_ERRLOG0 (i : Nat) : Nat := 0xF0200 + 0x10 * i
/-- PRT_ERRLOG1 (18_protection_integrity.md PRT-7). -/
def R_PRT_ERRLOG1 (i : Nat) : Nat := 0xF0204 + 0x10 * i
/-- PRT_ERRLOG2 (18_protection_integrity.md PRT-7). -/
def R_PRT_ERRLOG2 (i : Nat) : Nat := 0xF0208 + 0x10 * i
/-- PRT_ERRLOG3 (18_protection_integrity.md PRT-7). -/
def R_PRT_ERRLOG3 (i : Nat) : Nat := 0xF020C + 0x10 * i
/-- GLB_IDENT (19_register_map.md MAP-2). -/
def R_GLB_IDENT : Nat := 0x0
/-- GLB_SERIALL (19_register_map.md MAP-2). -/
def R_GLB_SERIALL : Nat := 0x4
/-- GLB_SERIALH (19_register_map.md MAP-2). -/
def R_GLB_SERIALH : Nat := 0x8
/-- GLB_STATUS (19_register_map.md MAP-2). -/
def R_GLB_STATUS : Nat := 0x14
/-- GLB_WINPAGE (19_register_map.md MAP-2). -/
def R_GLB_WINPAGE : Nat := 0x28
/-- GLB_INTSUM (19_register_map.md MAP-2). -/
def R_GLB_INTSUM : Nat := 0x2C
/-- GLB_FLAGCNT (19_register_map.md MAP-2). -/
def R_GLB_FLAGCNT (f : Nat) : Nat := 0x80 + 0x4 * f
/-- TIM_FLAGCNT (03_time_base.md R70). -/
def R_TIM_FLAGCNT (f : Nat) : Nat := 0x100C0 + 0x4 * f
/-- PWR_FLAGCNT (02_modes.md MOD-11). -/
def R_PWR_FLAGCNT (f : Nat) : Nat := 0x100010 + 0x4 * f

end Sys2Proof.Machine
end

