-- ==== Sys2Proof/Machine/Ops.lean ====
section
/-! DEFINITION. Named operations every unit uses: time stamps, flags and their event counters, wide counters, MSI-X
vectors, the logs, access checks and absent units. -/

namespace Sys2Proof.Machine

/-- Outputs that the watchdog pin actions stop: SerDes transmitters of the links and serial TXD (16_peer_bridge_twin.md
R346). -/
def Output.stopped : Output → Bool
  | .serial .. => true
  | .frame .. => true
  | .cell .. => true
  | .packet .. => true
  | _ => false

/-- Record an output. -/
def State.emit (s : State) (o : Output) : State :=
  if s.glb.silenced && o.stopped then s else { s with out := o :: s.out }

/-- Nanoseconds of one second. -/
def nsPerSec : Nat := 1000000000

/-- Device time as 64 bits, TSEC and TFRAC, of a time in ns (03_time_base.md R49). -/
def dev64 (ns : Nat) : Nat := ns / nsPerSec % 2 ^ 32 * 2 ^ 32 + (ns % nsPerSec * 2 ^ 32 + nsPerSec - 1) / nsPerSec

/-- Time in ns of a 64-bit device time (R49). -/
def ofDev64 (v : Nat) : Nat := v / 2 ^ 32 % 2 ^ 32 * nsPerSec + v % 2 ^ 32 * nsPerSec / 2 ^ 32

/-- Device time in ns. -/
def State.now (s : State) : Nat := s.tim.dt

/-- TSEC of device time (R49). -/
def State.tsec (s : State) : Nat := s.now / nsPerSec

/-- The device time of an event `ago` ns before now, with the STEP_COUNT then in force (R65): an event older than the
latest step was stamped on the time scale before it. -/
def State.stampAt (s : State) (ago : Nat) : Nat × BitVec 8 :=
  if 4 * (s.tim.ticks - s.tim.stepTick) < ago ∧ s.tim.stepTick ≠ 0 then
    (((s.tim.dt : Int) - (ago : Int) - s.tim.stepDelta).toNat, s.tim.step - 1)
  else (s.tim.dt - ago, s.tim.step)

/-- The moment `ago` ns before now on the counter that no step moves, ns of TCLK. -/
def State.tickAt (s : State) (ago : Nat) : Nat := 4 * s.tim.ticks - ago

/-- Code of a mode (02_modes.md Table MOD-1). -/
def Mode.code : Mode → Nat
  | .reset => 0
  | .plinth => 1
  | .run => 2
  | .shed => 3
  | .standby => 4
  | .halt => 5

/-- RUN, SHED or STANDBY: the modes in which the data path runs. -/
def State.live (s : State) : Bool := s.glb.mode == .run || s.glb.mode == .shed || s.glb.mode == .standby

/-- A twin device in RUN or SHED that does not hold ACTIVE_CLAIM keeps every output silent, as in STANDBY
(16_peer_bridge_twin.md R345). -/
def State.unclaimed (s : State) : Bool :=
  (s.glb.mode == .run || s.glb.mode == .shed) && s.PBR_CFG_TWIN == 1 && !s.glb.active

/-- RUN or SHED, and not kept silent: outputs are driven. -/
def State.outOn (s : State) : Bool := (s.glb.mode == .run || s.glb.mode == .shed) && !s.unclaimed

/-- STANDBY, or silent as in STANDBY. -/
def State.quiet (s : State) : Bool := s.glb.mode == .standby || s.unclaimed

/-- GLB_CAP (00_scope.md R4). -/
def State.units (s : State) : Nat :=
  match s.glb.variant with
  | .a => 0x01FFFFFF
  | .c => 0x02B0FFFF
  | .e => 0x0300330F

/-- The device's own ID: ARM_ID.DEVICE_ID, and 0 in PLINTH (02_modes.md R42, 14_armature_links.md R301). -/
def State.ownId (s : State) : Nat := if s.glb.mode = .plinth then 0 else s.ARM_ID_DEVICE_ID

/-- Serial bank `b` is present (R5, Table SCP-2). -/
def State.hasBank (s : State) (b : Nat) : Bool := decide (b < 8) && bitOf s.units b
/-- Serial port `n` is present. -/
def State.hasPort (s : State) (n : Nat) : Bool := s.hasBank (n / 12)
/-- Network port `k` is present. -/
def State.hasNp (s : State) (k : Nat) : Bool := decide (k < 4) && bitOf s.units (8 + k)
/-- Armature link `k` is present. -/
def State.hasLink (s : State) (k : Nat) : Bool := decide (k < 8) && bitOf s.units (12 + k)
/-- The DDR controller is present. -/
def State.hasDdr (s : State) : Bool := bitOf s.units 20
/-- Event capture is present. -/
def State.hasCapture (s : State) : Bool := bitOf s.units 21
/-- The analysis unit is present. -/
def State.hasAnalysis (s : State) : Bool := bitOf s.units 22
/-- The peer link is present. -/
def State.hasPeer (s : State) : Bool := bitOf s.units 23

/-- The W1C fields of block `b` that are set (19_register_map.md R386). -/
def State.blockFlagged (s : State) (b : Nat) : Bool :=
  s.regs.any fun (off, v) =>
    off / 0x10000 == b &&
      (match regRow off with
        | some r => decide (v.toNat &&& r.w1c ≠ 0)
        | none => false)

/-- The MSI-X vector of a block's summary bit (Table MAP-1). -/
def blockVector (b : Nat) : Nat := if b = 0 then 34 else 17 + b

/-- The MSI-X table after reset: every vector masked (PCI Express; PRESUMED, log entry 6). -/
def msixReset (off : Nat) : BitVec 32 := if off % 16 = 12 then 1 else 0

/-- Raise an MSI-X vector: a masked one becomes pending, an unmasked one sends its message (15_host_interface.md R327). -/
def State.raiseVector (s : State) (v : Nat) : State :=
  if bitOf (s.hst.msix.get msixReset (16 * v + 12)).toNat 0 then
    if s.hst.msixPend.contains v then s else { s with hst := { s.hst with msixPend := v :: s.hst.msixPend } }
  else
    s.emit (.msix v
      ((s.hst.msix.get msixReset (16 * v)).toNat + 2 ^ 32 * (s.hst.msix.get msixReset (16 * v + 4)).toNat)
      (s.hst.msix.get msixReset (16 * v + 8)).toNat)

/-- Set bit `bit` of the flag register at `off`: the flag is set, its event counter at `cnt + 4·bit` counts and saturates
at 255 (18_protection_integrity.md R377), and the block's vector is raised when its summary bit rises (R327, R386). -/
def State.flagAt (s : State) (off cnt bit : Nat) : State :=
  let was := s.blockFlagged (off / 0x10000)
  let s1 := s.setFld off bit 1 1
  let s2 := s1.setFld (cnt + 4 * bit) 0 8 (min 255 (s.fld (cnt + 4 * bit) 0 8 + 1))
  if was then s2 else s2.raiseVector (blockVector (off / 0x10000))

/-- Count one in a wide counter, which wraps at 2^32 (R377). -/
def State.count (s : State) (off : Nat) : State := s.setReg off (s.reg off + 1)

/-- Count `n` in a wide counter. -/
def State.countN (s : State) (off n : Nat) : State := if n = 0 then s else s.setReg off (s.reg off + BitVec.ofNat 32 n)

def State.glbFlag (s : State) (b : Nat) : State := s.flagAt R_GLB_STATUS (R_GLB_FLAGCNT 0) b
def State.timFlag (s : State) (b : Nat) : State := s.flagAt R_TIM_FLAGS (R_TIM_FLAGCNT 0) b
def State.serFlag (s : State) (n b : Nat) : State := s.flagAt (R_SER_PFLAGS n) (R_SER_PFLAGCNT n 0) b
def State.bankFlag (s : State) (b f : Nat) : State := s.flagAt (R_SER_BFLAGS b) (R_SER_BFLAGCNT b 0) f
def State.sntFlag (s : State) (b : Nat) : State := s.flagAt R_SNT_FLAGS (R_SNT_FLAGCNT 0) b
def State.cuFlag (s : State) (u b : Nat) : State := s.flagAt (R_CU_FLAGS u) (R_CU_FLAGCNT u 0) b
def State.flwFlag (s : State) (b : Nat) : State := s.flagAt R_FLW_FLAGS (R_FLW_FLAGCNT 0) b
def State.chsFlag (s : State) (b : Nat) : State := s.flagAt R_CHS_FLAGS (R_CHS_FLAGCNT 0) b
def State.alnFlag (s : State) (b : Nat) : State := s.flagAt R_ALN_FLAGS (R_ALN_FLAGCNT 0) b
def State.rcvFlag (s : State) (b : Nat) : State := s.flagAt R_RCV_FLAGS (R_RCV_FLAGCNT 0) b
def State.anaFlag (s : State) (b : Nat) : State := s.flagAt R_ANA_FLAGS (R_ANA_FLAGCNT 0) b
def State.capFlag (s : State) (b : Nat) : State := s.flagAt R_CAP_FLAGS (R_CAP_FLAGCNT 0) b
def State.egrFlag (s : State) (b : Nat) : State := s.flagAt R_EGR_FLAGS (R_EGR_FLAGCNT 0) b
def State.armFlag (s : State) (b : Nat) : State := s.flagAt R_ARM_FLAGS (R_ARM_FLAGCNT 0) b
def State.hstFlag (s : State) (b : Nat) : State := s.flagAt R_HST_FLAGS (R_HST_FLAGCNT 0) b
def State.pbrFlag (s : State) (b : Nat) : State := s.flagAt R_PBR_FLAGS (R_PBR_FLAGCNT 0) b
def State.cfgFlag (s : State) (b : Nat) : State := s.flagAt R_CFG_FLAGS (R_CFG_FLAGCNT 0) b
def State.prtFlag (s : State) (b : Nat) : State := s.flagAt R_PRT_FLAGS (R_PRT_FLAGCNT 0) b
def State.pwrFlag (s : State) (b : Nat) : State := s.flagAt R_PWR_FLAGS (R_PWR_FLAGCNT 0) b

/-- Write one event-log entry (18_protection_integrity.md R379, Table PRT-6). -/
def State.logEvent (s : State) (kind code : Nat) (data : List (Nat × Nat)) : State :=
  let no := (s.reg R_PRT_LOGNEXT).toNat
  let e : LogEntry := ⟨no, s.now, kind, s.glb.mode.code + 16 * s.glb.shed, code, data⟩
  let s1 := { s with log := e :: s.log.take 1023 }
  let s2 := s1.setReg R_PRT_LOGNEXT (BitVec.ofNat 32 (no + 1))
  if s.log.length ≥ 1024 then s2.prtFlag 4 else s2

/-- Write one error-log entry (R378): its SEQ and words 1 to 3. -/
def State.logError (s : State) (w1 w2 w3 : Nat) : State :=
  let i := s.PRT_ERRNEXT_NEXT
  let seq := (s.reg (R_PRT_ERRLOG0 ((i + 15) % 16))).toNat + 1
  let wrap := decide ((s.reg (R_PRT_ERRLOG0 i)).toNat ≠ 0)
  let s1 := (((s.setReg (R_PRT_ERRLOG0 i) (BitVec.ofNat 32 seq)).setReg (R_PRT_ERRLOG1 i) (BitVec.ofNat 32 w1)).setReg
    (R_PRT_ERRLOG2 i) (BitVec.ofNat 32 w2)).setReg (R_PRT_ERRLOG3 i) (BitVec.ofNat 32 w3)
  let s2 := s1.setFld R_PRT_ERRNEXT 0 4 ((i + 1) % 16)
  if wrap then s2.prtFlag 3 else s2

/-- An access violation (R373): direction 0 read, 1 write, 2 command. -/
def State.violation (s : State) (master target addr dir : Nat) : State :=
  let w1 := master + 16 * dir + 256 * target
  let s1 := (s.count (R_PRT_VIOCNT master)).logError w1 (addr % 2 ^ 32) (addr / 2 ^ 32 % 256)
  (s1.logEvent 5 target [(w1, 4), (addr % 2 ^ 32, 4), (addr / 2 ^ 32 % 256, 4)]).prtFlag 0

/-- An uncorrectable ECC error of store `st` at 8-byte word `addr` is counted and logged (R375). -/
def State.eccUncorrectable (s : State) (st addr : Nat) : State :=
  let s1 := (s.count (R_PRT_UECNT st)).setReg R_PRT_ECCLAST (BitVec.ofNat 32 (st + 16))
  let s2 := s1.setReg R_PRT_ECCADDR (BitVec.ofNat 32 addr)
  ((s2.logError (64 + 256 * st) (8 * addr % 2 ^ 32) (8 * addr / 2 ^ 32 % 256)).logEvent 6 st [(addr, 8)]).prtFlag 2

/-- The word of store `st` at 8-byte address `addr` holds an uncorrectable error (R376). -/
def State.isBad (s : State) (st addr : Nat) : Bool := s.eccBad.contains (st, addr)

/-- A word is rewritten with good check bits. -/
def State.clearBad (s : State) (st addr : Nat) : State := { s with eccBad := s.eccBad.filter (· ≠ (st, addr)) }

/-- An entry that lies on words of store `st` is used: the first bad word it meets is logged and freed with it (R375, R376). The answer is
true when the entry cannot be read. -/
def State.useEntry (s : State) (st key : Nat) : State × Bool :=
  match s.eccBad.find? (fun x => x.1 == st && Config.placed st x.2 key) with
  | some x => ((s.eccUncorrectable st x.2).clearBad st x.2, true)
  | none => (s, false)

/-- One access-table entry grants the master the right over the byte range (R369): right bit 16 read, 17 write. -/
def State.entryGrants (s : State) (t e m right lo hi : Nat) : Bool :=
  let w0 := (s.reg (R_PRT_AT0 t e)).toNat
  bitOf w0 31 && bitOf w0 m && bitOf w0 right && decide ((s.reg (R_PRT_AT1 t e)).toNat * 64 ≤ lo) &&
    decide (hi ≤ (s.reg (R_PRT_AT2 t e)).toNat * 64 + 63)

/-- Every byte of the access is granted by at least one entry (R369). -/
def State.granted (s : State) (t m right addr len : Nat) : Bool :=
  (List.range len).all fun i => (List.range 16).any fun e => s.entryGrants t e m right (addr + i) (addr + i)

/-- Draw the next fresh free value's index. -/
def State.draw (s : State) : Nat × State := (s.fresh, { s with fresh := s.fresh + 1 })

/-- Fold a function over a list of indices. -/
def State.forEach (s : State) (l : List Nat) (f : State → Nat → State) : State := l.foldl f s

/-- Do only when a condition holds. -/
def State.when (s : State) (c : Bool) (f : State → State) : State := if c then f s else s

end Sys2Proof.Machine
end

