-- ==== Sys2Proof/Machine/Flash.lean ====
section
/-! DEFINITION. The boot flash and the DDR as byte stores (17_configuration.md R362, 12_event_capture.md R267, R270). -/

namespace Sys2Proof.Machine

/-- Bytes of the flash. -/
def State.flashRead (s : State) (a n : Nat) : Bytes := s.flash.bytes 0xFF a n
/-- Little-endian number of `n` bytes in the flash. -/
def State.flashLe (s : State) (a n : Nat) : Nat := leNat (s.flashRead a n)
/-- Erase the 4 KiB sector at `a`. -/
def State.flashErase (s : State) (a : Nat) : State := { s with flash := s.flash.filter (fun x => !(x.1 / 4096 == a / 4096)) }
/-- Program bytes: a bit is only cleared. -/
def State.flashProgram (s : State) (a : Nat) (bs : Bytes) : State :=
  { s with flash := s.flash.setBytes 0xFF a ((s.flashRead a bs.length).zipWith (· &&& ·) bs) }

/-- Bytes of the DDR. -/
def State.ddrRead (s : State) (a n : Nat) : Bytes := s.ddr.bytes 0 a n
/-- Write bytes of the DDR; words written whole or in part hold good check bits. -/
def State.ddrWrite (s : State) (a : Nat) (bs : Bytes) : State :=
  { s with ddr := s.ddr.setBytes 0 a bs,
           eccBad := s.eccBad.filter (fun x => !(x.1 == 12 && decide (a / 8 ≤ x.2) && decide (8 * x.2 < a + bs.length))) }
/-- The DDR holds data: trained and out of self-refresh (R265, R270). -/
def State.ddrUsable (s : State) : Bool := s.hasDdr && s.glb.ddrTrained && !s.glb.ddrSelfRefresh

end Sys2Proof.Machine
end

