-- ==== Sys2Proof/Machine/Areas.lean ====
section
/-! DEFINITION. The two image areas in RAM (17_configuration.md R353): the Maquette and the retained copy, in the top of
DDR, or on the IXM-48E in host memory of which the device keeps what it has read. -/

namespace Sys2Proof.Machine

def State.modCfg (s : State) (f : Cfg → Cfg) : State := { s with cfg := f s.cfg }

/-- Bytes of each area. -/
def areaBytes : Nat := 0x4000000

/-- DDR address of the Maquette (R353). -/
def State.maqBase (s : State) : Nat := s.cfg.ddrBytes - 2 * areaBytes

/-- Read `n` bytes at offset `a` of the two areas, the Maquette lowest. -/
def State.areaRead (s : State) (a n : Nat) : Bytes :=
  if s.hasDdr then s.ddrRead (s.maqBase + a) n else s.cfg.hram.bytes 0 a n

/-- Write bytes at offset `a` of the two areas. -/
def State.areaWrite (s : State) (a : Nat) (bs : Bytes) : State :=
  if s.hasDdr then s.ddrWrite (s.maqBase + a) bs else s.modCfg fun c => { c with hram := c.hram.setBytes 0 a bs }

/-- The areas are usable (R353, R354). -/
def State.areasUp (s : State) : Bool := !s.hasDdr || s.ddrUsable

/-- CFG_MAQVER: bytes 8 to 11 of the Maquette as they stand (R354). -/
def State.maqVer (s : State) : Nat := if s.cfg.maqVerSet then leNat (s.areaRead 8 4) else 0

/-- LENGTH of the image in the Maquette. -/
def State.maqLen (s : State) : Nat := leNat (s.areaRead 12 4)

end Sys2Proof.Machine
end

