-- ==== Sys2Proof/Machine/Operands.lean ====
section
/-! DEFINITION. Operand forms of the Chisel engines (07_chisel_machine.md R153, Tables CHS-7 and CHS-8): the word of each
format, which words are assigned, and the reading and writing of a thread's registers. -/

namespace Sys2Proof.Machine

/-- Word of format CA. -/
def wordCA (op : Nat) (x : OpsCA) (fn : Nat) : Nat :=
  op * 2 ^ 26 + x.rd.toNat * 2 ^ 22 + x.ra.toNat * 2 ^ 18 + x.rb.toNat * 2 ^ 14 + fn % 2 ^ 14
/-- Word of format CB. -/
def wordCB (op : Nat) (x : OpsCB) (fn : Nat) : Nat :=
  op * 2 ^ 26 + x.rd.toNat * 2 ^ 22 + x.ra.toNat * 2 ^ 18 + fn % 4 * 2 ^ 16 + x.imm.toNat
/-- Word of format CC. -/
def wordCC (op : Nat) (x : OpsCC) (fn : Nat) : Nat :=
  op * 2 ^ 26 + x.rd.toNat * 2 ^ 22 + x.ra.toNat * 2 ^ 18 + fn % 16 * 2 ^ 14 + x.width.toNat * 2 ^ 8 + x.ofs.toNat
/-- Word of format CD. -/
def wordCD (op : Nat) (x : OpsCD) : Nat :=
  op * 2 ^ 26 + x.cond.toNat * 2 ^ 22 + x.ra.toNat * 2 ^ 18 + x.disp.toNat
/-- Word of format CE. -/
def wordCE (op : Nat) (x : OpsCE) : Nat :=
  op * 2 ^ 26 + x.rd.toNat * 2 ^ 22 + x.ra.toNat * 2 ^ 18 + x.space.toNat * 2 ^ 16 + x.size.toNat * 2 ^ 14 + x.ofs.toNat
/-- Word of format CF. -/
def wordCF (op : Nat) (x : OpsCF) (fn : Nat) : Nat :=
  op * 2 ^ 26 + x.td.toNat * 2 ^ 24 + x.ta.toNat * 2 ^ 22 + x.ra.toNat * 2 ^ 18 + fn % 64 * 2 ^ 12 + x.imm.toNat

/-- Below a bound. -/
def below (v n : Nat) : Bool := decide (v < n)

/-- The opcode and FN of a word are assigned (R153, Tables CHX-2 to CHX-14). -/
def assigned (w : Nat) : Bool :=
  let ca := w % 2 ^ 14
  let cb := bits w 16 2
  let cc := bits w 14 4
  let cf := bits w 12 6
  match w / 2 ^ 26 with
  | 0x00 => below ca 21
  | 0x01 | 0x02 | 0x03 | 0x04 | 0x07 | 0x09 => true
  | 0x05 => below cb 3
  | 0x06 => below cb 2
  | 0x08 => below ca 12
  | 0x10 | 0x11 | 0x12 | 0x13 | 0x14 | 0x15 | 0x16 => true
  | 0x18 => below cc 3
  | 0x19 => below cc 4
  | 0x1A => below cc 4
  | 0x1B => below cc 1
  | 0x1C => below cc 3
  | 0x1D => below ca 2
  | 0x20 | 0x22 | 0x23 | 0x24 | 0x25 => true
  | 0x21 => below (bits w 22 4) 2
  | 0x28 | 0x29 | 0x2A | 0x2B => true
  | 0x2C => below cf 8
  | 0x2D => below cf 2
  | 0x2E => below cf 6
  | 0x30 => below cb 2
  | 0x31 => below cb 1
  | 0x32 => below ca 4
  | 0x34 => below cf 5
  | 0x35 => below cf 4
  | 0x38 | 0x39 | 0x3A => true
  | 0x3B => below cb 2
  | 0x3C => below cf 5
  | 0x3D => below cf 2
  | _ => false

/-- The result of an instruction comes after more than one CCLK, so that the next one may have to wait for it (R138, Table CHS-2, the Result
columns of 08_chisel_instructions.md). -/
def lateResult (w : Nat) : Bool :=
  let fn := bits w 12 6
  match w / 2 ^ 26 with
  | 0x08 => below (w % 2 ^ 14) 10
  | 0x10 | 0x11 | 0x13 | 0x15 => bits w 16 2 == 2
  | 0x19 => bits w 14 4 == 2
  | 0x1A | 0x1B | 0x1C => true
  | 0x28 | 0x29 | 0x2B => true
  | 0x2C => fn == 0 || fn == 2 || fn == 3 || fn == 7
  | 0x2D | 0x2E => true
  | 0x30 => bits w 16 2 == 0
  | 0x31 | 0x35 | 0x38 | 0x39 | 0x3A | 0x3B | 0x3D => true
  | _ => false

/-- G register r: G0 reads zero (R144). -/
def Thread.gr (t : Thread) (r : Nat) : Nat := if r = 0 then 0 else (t.g.at 0 r).toNat

/-- Write G register r: a write to G0 is discarded (R144). -/
def Thread.setG (t : Thread) (r v : Nat) : Thread := if r = 0 then t else { t with g := t.g.put 0 r (BitVec.ofNat 32 v) }

/-- T register r (R144). -/
def Thread.tr (t : Thread) (r : Nat) : Nat := (t.t.at 0 r).toNat

/-- Write T register r. -/
def Thread.setT (t : Thread) (r v : Nat) : Thread := { t with t := t.t.put 0 r (BitVec.ofNat 64 v) }

/-- Device time of T register r in ns (R49). -/
def Thread.tns (t : Thread) (r : Nat) : Nat := ofDev64 (t.tr r)

/-- A time in ns, of either sign, as a device time of 64 bits. -/
def devOfInt (i : Int) : Nat := dev64 (i % (2 ^ 32 * nsPerSec : Nat)).toNat

/-- A pair of registers as 64 bits, the even one less significant (08_chisel_instructions.md R172). -/
def Thread.pair (t : Thread) (r : Nat) : Nat := t.gr r + 2 ^ 32 * t.gr (r + 1)

/-- Write a pair; with RD = G0 only G1 is written (R172). -/
def Thread.setPair (t : Thread) (r v : Nat) : Thread := (t.setG r (v % 2 ^ 32)).setG (r + 1) (v / 2 ^ 32)

/-- A signed value saturated to 32 bits. -/
def sat32 (i : Int) : Nat :=
  if i > 0x7FFFFFFF then 0x7FFFFFFF else if i < -0x80000000 then 0x80000000 else wrapI 32 i

end Sys2Proof.Machine
end

