-- ==== Sys2Proof/Machine/Flags.lean ====
section
/-! DEFINITION. The flags Z, N, C and V of a Chisel thread and the conditions made of them (08_chisel_instructions.md
R169, R170, Table CHX-1). -/

namespace Sys2Proof.Machine

/-- Z and N of a 32-bit result; C and V kept (R169). -/
def Thread.zn (t : Thread) (v : Nat) : Thread := { t with z := v % 2 ^ 32 == 0, n := bitOf v 31 }

/-- The 32-bit sum of a, b and a carry. -/
def sum32 (a b c : Nat) : Nat := (a + b + c) % 2 ^ 32

/-- Carry out of a + b + c. -/
def carry32 (a b c : Nat) : Bool := decide (2 ^ 32 ≤ a + b + c)

/-- Signed overflow of a + b + c. -/
def over32 (a b c : Nat) : Bool := decide (sxt 32 a + sxt 32 b + (c : Int) ≠ sxt 32 (sum32 a b c))

/-- Z, N, C and V of an addition (Table CHX-2). -/
def Thread.addFlags (t : Thread) (a b c : Nat) : Thread :=
  { t with z := sum32 a b c == 0, n := bitOf (sum32 a b c) 31, c := carry32 a b c, v := over32 a b c }

/-- One's complement of 32 bits: a − b − (1 − c) is a + not32 b + c, and its carry means no borrow (R169). -/
def not32 (b : Nat) : Nat := 2 ^ 32 - 1 - b % 2 ^ 32

/-- C of a shift: kept for a count of 0, else the last bit shifted out (R170). -/
def Thread.shiftC (t : Thread) (n : Nat) (out : Bool) : Thread := if n = 0 then t else { t with c := out }

/-- Conditions 0 to 14 (Table CHX-1). -/
def Thread.cond (t : Thread) (c : Nat) : Bool :=
  match c with
  | 0 => true
  | 1 => t.z
  | 2 => !t.z
  | 3 => t.n != t.v
  | 4 => t.n == t.v
  | 5 => !t.z && t.n == t.v
  | 6 => t.z || t.n != t.v
  | 7 => !t.c
  | 8 => t.c
  | 9 => t.c && !t.z
  | 10 => !t.c || t.z
  | 11 => t.n
  | 12 => !t.n
  | 13 => t.v
  | _ => !t.v

end Sys2Proof.Machine
end

