-- ==== Sys2Proof/Machine/Crc.lean ====
section
/-! DEFINITION. The fixed checks of 05_sentences_checks.md Table SNT-4: CRC-16/CCITT, CRC-16/IBM, CRC-32/IEEE, CRC-32C and
XOR-8, as a start value, a fold of one byte and a final value, and the fold prefix of R117. -/

namespace Sys2Proof.Machine

/-- One bit of a CRC that shifts left. -/
def crcBitL (w poly c : Nat) : Nat :=
  if c / 2 ^ (w - 1) % 2 = 1 then (c * 2 % 2 ^ w) ^^^ poly else c * 2 % 2 ^ w

/-- One bit of a reflected CRC. -/
def crcBitR (poly c : Nat) : Nat := if c % 2 = 1 then (c / 2) ^^^ poly else c / 2

/-- Eight times. -/
def times8 (f : Nat → Nat) (c : Nat) : Nat := f (f (f (f (f (f (f (f c)))))))

/-- Width of an algorithm in bytes (Table SNT-4). -/
def checkBytes (alg : Nat) : Nat :=
  match alg with
  | 0 => 2
  | 1 => 2
  | 2 => 4
  | 3 => 4
  | _ => 1

/-- Start value of an algorithm. -/
def checkInit (alg : Nat) : Nat :=
  match alg with
  | 0 => 0xFFFF
  | 1 => 0xFFFF
  | 2 => 0xFFFFFFFF
  | 3 => 0xFFFFFFFF
  | _ => 0

/-- Fold one byte. -/
def checkFold (alg c b : Nat) : Nat :=
  match alg with
  | 0 => times8 (crcBitL 16 0x1021) (c ^^^ (b * 256))
  | 1 => times8 (crcBitR 0xA001) (c ^^^ b)
  | 2 => times8 (crcBitR 0xEDB88320) (c ^^^ b)
  | 3 => times8 (crcBitR 0x82F63B78) (c ^^^ b)
  | _ => c ^^^ b

/-- Final value. -/
def checkFin (alg c : Nat) : Nat :=
  match alg with
  | 2 => c ^^^ 0xFFFFFFFF
  | 3 => c ^^^ 0xFFFFFFFF
  | _ => c

/-- Fold a run of bytes. -/
def checkRun (alg c : Nat) (bs : Bytes) : Nat := bs.foldl (fun a b => checkFold alg a b.toNat) c

/-- The check of a run of bytes. -/
def checkOf (alg : Nat) (bs : Bytes) : Nat := checkFin alg (checkRun alg (checkInit alg) bs)

/-- The 6-byte fold prefix of R117: source device ID, flow number and sequence number. -/
def foldPrefix (dev flow seq : Nat) : Bytes :=
  beBytes 6 (dev % 2 ^ 14 * 2 ^ 29 + flow % 2 ^ 13 * 2 ^ 16 + seq % 2 ^ 16)

/-- CRC-32C of the covered bytes behind the fold prefix (R117). -/
def foldCrc (dev flow seq : Nat) (bs : Bytes) : Nat := checkOf 3 (foldPrefix dev flow seq ++ bs)

/-- Value of an ASCII hex digit. -/
def hexVal (c : Nat) : Option Nat :=
  if 48 ≤ c ∧ c ≤ 57 then some (c - 48)
  else if 65 ≤ c ∧ c ≤ 70 then some (c - 55)
  else if 97 ≤ c ∧ c ≤ 102 then some (c - 87)
  else none

/-- Value of an ASCII decimal digit. -/
def decVal (c : Nat) : Option Nat := if 48 ≤ c ∧ c ≤ 57 then some (c - 48) else none

/-- Upper-case ASCII hex digit of a value. -/
def hexChar (v : Nat) : Nat := if v % 16 < 10 then 48 + v % 16 else 55 + v % 16

end Sys2Proof.Machine
end

