-- ==== Sys2Proof/Machine/Framing.lean ====
section
/-! DEFINITION. Sentence forms (05_sentences_checks.md R97 to R100, R106): the ASCII sentence with its tag block as an
automaton over characters, its check, its key fields, the C37.118.2 frame, and datagram payloads. Pure functions. -/

namespace Sys2Proof.Machine

/-- What a character does to an ASCII sentence in progress (Table SNT-2): `drop` carries the source counter. -/
inductive AscRes where
  | more (o : OpenSent)
  | drop (counter : Nat)
  | done (o : OpenSent)
  deriving DecidableEq, Repr

/-- Source counters of Table SNT-8. -/
def cSentences : Nat := 0
def cCheckFail : Nat := 1
def cCheckForm : Nat := 2
def cForm : Nat := 3
def cTooLong : Nat := 4
def cFragment : Nat := 5
def cCharError : Nat := 6

def isLetter (v : Nat) : Bool := decide (65 ≤ v ∧ v ≤ 90) || decide (97 ≤ v ∧ v ≤ 122)
def isAddrChar (v : Nat) : Bool := decide (48 ≤ v ∧ v ≤ 57) || decide (65 ≤ v ∧ v ≤ 90)
/-- 0x20–0x7E other than `~` (R97). -/
def isPlain (v : Nat) : Bool := decide (0x20 ≤ v ∧ v < 0x7E)
def isStart (v : Nat) : Bool := v == 0x24 || v == 0x21
def isOpener (v : Nat) : Bool := isStart v || v == 0x5C

/-- Phase inside the tag block. -/
def AscPhase.inTag : AscPhase → Bool
  | .tagKey => true
  | .tagColon => true
  | .tagValue => true
  | .tagSum _ => true
  | _ => false

/-- The address characters taken so far: everything after the opener. -/
def addrOf (o : OpenSent) : Bytes := (o.chars.drop (o.tagLen + 1)).takeWhile (fun b => b != 0x2C && b != 0x2A)

/-- The address field is complete and well formed (R97 item 3). -/
def addrOk (a : Bytes) : Bool :=
  if a.head? = some 0x50 then decide (4 ≤ a.length ∧ a.length ≤ 8) else decide (a.length = 5)

/-- The address field can still become well formed with one more character. -/
def addrRoom (a : Bytes) : Bool := if a.head? = some 0x50 then decide (a.length < 8) else decide (a.length < 5)

/-- Take the character in a phase, watching the length limits (Table SNT-2, last rows). -/
def ascTake (lim : Nat) (o : OpenSent) (v : Nat) (p : AscPhase) (tag : Bool) : AscRes :=
  let chars := o.chars ++ [BitVec.ofNat 8 v]
  let tagLen := if tag then chars.length else o.tagLen
  if tag && decide (80 < tagLen) then .drop cTooLong
  else if !tag && decide (lim < chars.length - tagLen) then .drop cTooLong
  else .more { o with kind := .ascii p, chars := chars, tagLen := tagLen }

/-- One character of an ASCII sentence (R96, R97): a new opener first, then the form, then the length. Whatever else stands between `*`
and CR is judged with the closed sentence (Table SNT-2, CHECK_FORM). -/
def ascStep (lim : Nat) (o : OpenSent) (p : AscPhase) (v : Nat) : AscRes :=
  if isStart v && p != .tagDone then .drop cFragment
  else if v == 0x5C && !p.inTag then .drop cFragment
  else
    match p with
    | .tagKey => if isLetter v then ascTake lim o v .tagColon true else .drop cForm
    | .tagColon => if v = 0x3A then ascTake lim o v .tagValue true else .drop cForm
    | .tagValue =>
      if v = 0x2C then ascTake lim o v .tagKey true
      else if v = 0x2A then ascTake lim o v (.tagSum 0) true
      else if isPlain v && v != 0x5C then ascTake lim o v .tagValue true
      else .drop cForm
    | .tagSum n =>
      if n < 2 then (if (hexVal v).isSome then ascTake lim o v (.tagSum (n + 1)) true else .drop cForm)
      else if v = 0x5C then ascTake lim o v .tagDone true
      else .drop cForm
    | .tagDone => if isStart v then ascTake lim o v .addr false else .drop cForm
    | .addr =>
      if v = 0x2C then (if addrOk (addrOf o) then ascTake lim o v .data false else .drop cForm)
      else if v = 0x2A then (if addrOk (addrOf o) then ascTake lim o v .sum false else .drop cForm)
      else if isAddrChar v && addrRoom (addrOf o) then ascTake lim o v .addr false
      else .drop cForm
    | .data =>
      if v = 0x2A then ascTake lim o v .sum false
      else if v = 0x0D then ascTake lim o v .cr false
      else if isPlain v then ascTake lim o v .data false
      else .drop cForm
    | .sum => ascTake lim o v (if v = 0x0D then .cr else .sum) false
    | .cr =>
      if v = 0x0A then
        match ascTake lim o v .cr false with
        | .more o' => .done o'
        | r => r
      else .drop cForm

/-- XOR-8 of bytes. -/
def xor8 (bs : Bytes) : Nat := checkOf 4 bs

/-- Value of exactly two hex digits. -/
def hex2 (bs : Bytes) : Option Nat :=
  match bs with
  | [a, b] =>
    match hexVal a.toNat, hexVal b.toNat with
    | some x, some y => some (16 * x + y)
    | _, _ => none
  | _ => none

/-- The characters of the sentence proper, without the tag block and the opener and without CR LF. -/
def ascBody (o : OpenSent) : Bytes := ((o.chars.drop (o.tagLen + 1)).dropLast).dropLast

/-- The sentence has a `*`. -/
def ascHasStar (o : OpenSent) : Bool := (ascBody o).contains 0x2A
/-- The characters the checksum covers (R98). -/
def ascCovered (o : OpenSent) : Bytes := (ascBody o).takeWhile (· != 0x2A)
/-- The characters after `*`. -/
def ascField (o : OpenSent) : Bytes := ((ascBody o).dropWhile (· != 0x2A)).drop 1

/-- The tag block's checksum holds, or there is no tag block (R98). -/
def tagOk (o : OpenSent) : Bool :=
  if o.tagLen = 0 then true
  else
    let t := (o.chars.take o.tagLen).drop 1
    hex2 (((t.dropWhile (· != 0x2A)).drop 1).take 2) == some (xor8 (t.takeWhile (· != 0x2A)))

/-- The counter of a closed ASCII sentence (Table SNT-2, in row order). -/
def ascOutcome (o : OpenSent) (csRequired : Bool) : Nat :=
  let sumBad := ascHasStar o && (match hex2 (ascField o) with
    | some v => v != xor8 (ascCovered o)
    | none => false)
  let formBad := (ascHasStar o && (hex2 (ascField o)).isNone) || (!ascHasStar o && csRequired)
  if sumBad || !tagOk o then cCheckFail else if formBad then cCheckForm else cSentences

/-- Split at a byte. -/
def splitAt (sep : Byte) : Bytes → List Bytes
  | [] => [[]]
  | b :: r =>
    match splitAt sep r with
    | [] => [[b]]
    | h :: t => if b = sep then [] :: h :: t else (b :: h) :: t

/-- Fields of the tag block. -/
def tagFields (o : OpenSent) : List Bytes :=
  if o.tagLen = 0 then [] else splitAt 0x2C (((o.chars.take o.tagLen).drop 1).takeWhile (· != 0x2A))

/-- Decimal value of digits. -/
def decOf (bs : Bytes) : Option Nat :=
  if bs = [] then none
  else bs.foldl (fun a b =>
    match a, decVal b.toNat with
    | some x, some d => some (10 * x + d)
    | _, _ => none) (some 0)

/-- The extracted `s:` value: 1 to 15 characters (R106). -/
def tagS (o : OpenSent) : Option Bytes :=
  (tagFields o).findSome? fun f =>
    if f.take 2 = ([0x73, 0x3A] : Bytes) ∧ 1 ≤ (f.drop 2).length ∧ (f.drop 2).length ≤ 15 then some (f.drop 2) else none

/-- The extracted `n:` value: 0 to 999 (R106). -/
def tagN (o : OpenSent) : Option Nat :=
  (tagFields o).findSome? fun f =>
    if f.take 2 = ([0x6E, 0x3A] : Bytes) then
      match decOf (f.drop 2) with
      | some v => if v ≤ 999 then some v else none
      | none => none
    else none

/-- Pad with zero bytes to a length. -/
def padTo (n : Nat) (bs : Bytes) : Bytes := bs.take n ++ List.replicate (n - bs.length) 0

/-- The closed ASCII sentence (R97, R107); one without a `*` that need not have it is marked NO_CS (R99). -/
def ascSentence (o : OpenSent) (typ idx fmt outcome : Nat) (csRequired : Bool) : Sentence :=
  let a := addrOf o
  let prop := a.head? = some 0x50
  { typ := typ, idx := idx, fmt := fmt, stamp := o.stamp, step := o.step, data := o.chars,
    len := o.chars.length - o.tagLen,
    ident := if prop then 0x5000 else beNat (padTo 2 a),
    formatter := if prop then beNat (padTo 4 ((a.drop 1).take 3)) else beNat (padTo 4 ((a.drop 2).take 3)),
    sTag := tagS o, nTag := tagN o, noisy := o.noisy, noCs := !ascHasStar o && !csRequired,
    checkFailed := decide (outcome ≠ cSentences) }

/-- Second byte of a C37.118.2 frame (R100). -/
def c37TypeOk (b : Nat) : Bool := decide (b < 128) && decide (b / 16 % 8 ≤ 5) && (b % 16 == 1 || b % 16 == 2)

/-- The last two bytes hold the CRC of those before (R100). -/
def c37CrcOk (bs : Bytes) : Bool := beNat (bs.drop (bs.length - 2)) == checkOf 0 (bs.take (bs.length - 2))

/-- A closed C37.118.2 frame. -/
def c37Sentence (bs : Bytes) (typ idx stamp : Nat) (step : BitVec 8) (noisy : Bool) : Sentence :=
  { typ := typ, idx := idx, fmt := 1, stamp := stamp, step := step, data := bs, len := bs.length,
    ident := beNat ((bs.drop 4).take 2), noisy := noisy, checkFailed := !c37CrcOk bs }

/-- The outcome of a UDP payload under TYPE C37 (R106): a counter for a drop, or the frame. -/
def c37Payload (pl : Bytes) : Nat ⊕ Bytes :=
  let fs := beNat ((pl.drop 2).take 2)
  if pl.head? ≠ some 0xAA ∨ pl.length < 4 ∨ c37TypeOk (beNat ((pl.drop 1).take 1)) = false then .inl cForm
  else if fs > 4096 then .inl 7
  else if fs < 16 then .inl cForm
  else if fs ≠ pl.length then .inl 8
  else .inr pl

/-- The lines of an IEC 61162-450 payload (R106): counters counted, and closed sentences. `cur` is the sentence in
progress, `skip` that the rest of a bad line is passed over. -/
def iecLines (idx stamp : Nat) (step : BitVec 8) :
    Bytes → Option OpenSent → Bool → List (Nat ⊕ Sentence)
  | [], cur, _ => if cur.isSome then [.inl cForm] else []
  | b :: r, cur, skip =>
    if skip then iecLines idx stamp step r none (b != 0x0A)
    else
      let fresh : Option OpenSent :=
        if b = 0x5C then some { kind := .ascii .tagKey, chars := [b], tagLen := 1, stamp := stamp, step := step }
        else if isStart b.toNat then some { kind := .ascii .addr, chars := [b], stamp := stamp, step := step }
        else none
      match cur with
      | none =>
        match fresh with
        | some o => iecLines idx stamp step r (some o) false
        | none => .inl cForm :: iecLines idx stamp step r none (b != 0x0A)
      | some o =>
        match o.kind with
        | .ascii p =>
          match ascStep 82 o p b.toNat with
          | .more o' => iecLines idx stamp step r (some o') false
          | .done o' =>
            let out := ascOutcome o' true
            .inl out :: .inr (ascSentence o' 1 idx 3 out true) :: iecLines idx stamp step r none false
          | .drop c =>
            if c = cFragment then .inl c :: iecLines idx stamp step r fresh false
            else .inl c :: iecLines idx stamp step r none (b != 0x0A)
        | _ => iecLines idx stamp step r none false

/-- Header of an IEC 61162-450 payload: `UdPbC` and 0x00 (R106). -/
def iecHeader : Bytes := [0x55, 0x64, 0x50, 0x62, 0x43, 0x00]

/-- The Internet checksum: the ones' complement sum of 16-bit words. -/
def inetSum : Bytes → Nat
  | [] => 0
  | [a] => a.toNat * 256
  | a :: b :: r => a.toNat * 256 + b.toNat + inetSum r

/-- Fold carries of a ones' complement sum. -/
def foldSum (n : Nat) : Nat :=
  let a := n % 65536 + n / 65536
  let b := a % 65536 + a / 65536
  b % 65536 + b / 65536

/-- A received Ethernet frame taken apart (R105): what it is before the receive rules. -/
inductive NetKind where
  | pause
  | ipErr
  | udpErr
  | other
  | udp (v6 : Bool) (src : Bytes) (sport dport : Nat) (payload : Bytes)
  deriving DecidableEq, Repr

/-- Take apart the frame after its MAC addresses and VLAN tag: Ethertype and packet (R105 items 3, 5, 6). -/
def netKind (et : Nat) (p : Bytes) : NetKind :=
  if et = 0x8808 then .pause
  else if et = 0x0800 then
    let ihl := 4 * (beNat (p.take 1) % 16)
    let tot := beNat ((p.drop 2).take 2)
    let frag := beNat ((p.drop 6).take 2) % 0x4000
    if beNat (p.take 1) / 16 ≠ 4 ∨ ihl < 20 ∨ p.length < tot ∨ tot < ihl ∨ foldSum (inetSum (p.take ihl)) ≠ 0xFFFF then .ipErr
    else if frag ≠ 0 ∨ ihl ≠ 20 ∨ p.getD 9 0 ≠ 17 then .other
    else
      let u := (p.take tot).drop 20
      let len := beNat ((u.drop 4).take 2)
      let ck := beNat ((u.drop 6).take 2)
      let pseudo := inetSum ((p.drop 12).take 8) + 17 + len
      if len < 8 ∨ u.length ≠ len then .ipErr
      else if ck ≠ 0 ∧ foldSum (pseudo + inetSum u) ≠ 0xFFFF then .udpErr
      else .udp false (padTo 16 ((p.drop 12).take 4)) (beNat (u.take 2)) (beNat ((u.drop 2).take 2)) (u.drop 8)
  else if et = 0x86DD then
    let pl := beNat ((p.drop 4).take 2)
    if beNat (p.take 1) / 16 ≠ 6 ∨ p.length < 40 + pl then .ipErr
    else if p.getD 6 0 ≠ 17 then .other
    else
      let u := (p.drop 40).take pl
      let len := beNat ((u.drop 4).take 2)
      let ck := beNat ((u.drop 6).take 2)
      let pseudo := inetSum ((p.drop 8).take 32) + 17 + len
      if len < 8 ∨ u.length ≠ len then .ipErr
      else if ck = 0 ∨ foldSum (pseudo + inetSum u) ≠ 0xFFFF then .udpErr
      else .udp true ((p.drop 8).take 16) (beNat (u.take 2)) (beNat ((u.drop 2).take 2)) (u.drop 8)
  else .other

end Sys2Proof.Machine
end

