-- ==== Sys2Proof/Machine/Serial.lean ====
section
/-! DEFINITION. Serial ports (04_serial_ports.md): the bit decision, the receive queue and its overrun, RTS and CTS,
transmission, breaks and the stuck line, setting changes, bank supplies. What a dead or held line does to flows stands in
Flows.lean. -/

namespace Sys2Proof.Machine

/-- Port n. -/
def State.port (s : State) (n : Nat) : Port := s.ports.at {} n
/-- Write port n. -/
def State.setPort (s : State) (n : Nat) (p : Port) : State := { s with ports := s.ports.put {} n p }
/-- Bank b. -/
def State.bank (s : State) (b : Nat) : Bank := s.banks.at {} b
/-- Write bank b. -/
def State.setBank (s : State) (b : Nat) (x : Bank) : State := { s with banks := s.banks.put {} b x }

/-- The port is enabled by its setting and its bank is present (R5, R72). -/
def State.portEnabled (s : State) (n : Nat) : Bool := s.hasPort n && s.SER_PCFG_ENABLE n == 1

/-- The bank is held: shed at SHED2 or for a VIO fault (R92, R93). -/
def State.bankHeld (s : State) (b : Nat) : Bool := (s.bank b).shed || (s.bank b).fault

/-- The receiver of the port runs (Table SER-4). -/
def State.rxOn (s : State) (n : Nat) : Bool :=
  s.portEnabled n && !s.bankHeld (n / 12) && (s.live || s.glb.mode == .plinth)

/-- The transmitter of the port runs (Table SER-4). -/
def State.txOn (s : State) (n : Nat) : Bool :=
  s.portEnabled n && !s.bankHeld (n / 12) && (s.outOn || s.glb.mode == .plinth)

/-- DBITS, PAR, STOP and DIV of a setting. -/
def cfgDiv (c : BitVec 32) : Nat := bits c.toNat 0 16
def cfgBits (c : BitVec 32) : Nat := bits c.toNat 16 4
def cfgPar (c : BitVec 32) : Nat := bits c.toNat 20 3
def cfgStop (c : BitVec 32) : Nat := bits c.toNat 23 2
def cfgIr (c : BitVec 32) : Nat := bits c.toNat 25 2

/-- The fields of SER_PCFG that R87 applies at a character boundary. -/
def cfgFormat (c : BitVec 32) : Nat := c.toNat % 2 ^ 27

/-- One character time in half bits: start, data, parity and stop bits (R84). -/
def charHalfBits (c : BitVec 32) : Nat := 2 * (1 + cfgBits c + b1 (decide (cfgPar c ≠ 0))) + 2 + cfgStop c

/-- One character time in ns at a setting: UCLK is 147.456 MHz (R73, R84). -/
def charNs (c : BitVec 32) : Nat := charHalfBits c * cfgDiv c * 15625 / 288

/-- The majority of samples 7, 8 and 9 of a bit (R75). -/
def majority (x : BitVec 3) : Bool := decide (2 ≤ b1 (x.getLsbD 0) + b1 (x.getLsbD 1) + b1 (x.getLsbD 2))

/-- The three samples of a bit disagree (R75). -/
def disagree (x : BitVec 3) : Bool := x != 0 && x != 7

/-- Value of bits, least significant first (R76). -/
def bitsVal : List Bool → Nat
  | [] => 0
  | b :: r => b1 b + 2 * bitsVal r

/-- Expected parity bit of data with so many ones (Table SER-5): even, odd, mark, space. -/
def parityBit (par ones : Nat) : Bool :=
  match par with
  | 1 => ones % 2 == 1
  | 2 => ones % 2 == 0
  | 3 => true
  | _ => false

/-! What TXD carries (R76, R84, R88). -/

/-- The bits of a character before its stop bits (R76): start, data and the parity bit that the transmitter generates. -/
def charBits (c : BitVec 32) (d : BitVec 9) : List Bool :=
  let data := (List.range (cfgBits c)).map d.getLsbD
  false :: data ++ (if cfgPar c = 0 then [] else [parityBit (cfgPar c) (data.filter id).length])

/-- One bit time in UCLK cycles (R73). -/
def bitTime (c : BitVec 32) : Nat := 16 * cfgDiv c

/-- The 0 bit of IR mode (R88): a pulse from sample 7, to sample 10 or for 240 UCLK. -/
def irZero (c : BitVec 32) (inv : Bool) : List (Bool × Nat) :=
  let w := if cfgIr c = 1 then 3 * cfgDiv c else 240
  [(inv, 7 * cfgDiv c), (!inv, w), (inv, bitTime c - 7 * cfgDiv c - w)]

/-- Bits as TXD carries them (R84, R88): a level each, in IR mode a pulse for each 0. -/
def waveOf (c : BitVec 32) (inv : Bool) (l : List Bool) : List (Bool × Nat) :=
  if cfgIr c = 0 then l.map fun b => (b, bitTime c)
  else l.flatMap fun b => if b then [(inv, bitTime c)] else irZero c inv

/-- TXD at rest: mark, in IR mode the level between pulses (R83, R88). -/
def restLevel (c : BitVec 32) (inv : Bool) : Bool := if cfgIr c = 0 then true else inv

/-- A character on TXD: its bits, then 16, 24 or 32 sample periods of stop bits (R76). -/
def charWave (c : BitVec 32) (inv : Bool) (d : BitVec 9) : List (Bool × Nat) :=
  waveOf c inv (charBits c d) ++ [(restLevel c inv, (2 + cfgStop c) * (bitTime c / 2))]

/-- A break on TXD (R84, R88): low for its character times, in IR mode one pulse per bit time, then at mark for one bit time. -/
def breakWave (c : BitVec 32) (inv : Bool) (len : Nat) : List (Bool × Nat) :=
  let h := len * charHalfBits c
  (if cfgIr c = 0 then [(false, h * (bitTime c / 2))]
   else (List.replicate (h / 2) (irZero c inv)).flatten ++ [(inv, h % 2 * (bitTime c / 2))]) ++ [(restLevel c inv, bitTime c)]

/-! RTS (R82). -/

/-- Drive SPn_RTS as the port asserts it: low unless RTS_POL. -/
def State.showRts (s : State) (n : Nat) : State := s.emit (.rtsPin n ((s.port n).rts == (s.SER_PCTL2_RTS_POL n == 1)))

/-- Assert or deassert RTS. -/
def State.setRts (s : State) (n : Nat) (on : Bool) : State :=
  if (s.port n).rts = on then s else (s.setPort n { s.port n with rts := on }).showRts n

/-- RTS after an enqueue (R82). -/
def State.rtsAfterEnqueue (s : State) (n : Nat) : State :=
  if s.SER_PCFG_FLOW n = 1 ∧ (s.port n).rxq.length ≥ s.SER_PCTL_HWM n then s.setRts n false else s

/-- RTS after a dequeue (R82). -/
def State.rtsAfterDequeue (s : State) (n : Nat) : State :=
  if s.SER_PCFG_FLOW n = 1 ∧ (s.port n).rxq.length ≤ s.SER_PCTL_LWM n then s.setRts n true else s

/-- Enqueue a decided character or break: a full queue drops it, counts OVR and marks LOSS on the next entry (R81). -/
def State.rxEnqueue (s : State) (n : Nat) (e : RxEntry) : State :=
  let p := s.port n
  if p.rxq.length ≥ 64 then ((s.setPort n { p with lossPending := true }).serFlag n 0).count (R_SER_POVRCNT n)
  else
    ((s.setPort n { p with rxq := p.rxq ++ [{ e with loss := p.lossPending }], lossPending := false }).count
      (R_SER_PRXCNT n)).rtsAfterEnqueue n

/-- A break is decided (R85, R79): one BRK entry with the noise and the wrong parity bit it may have, and LINE becomes BREAK. Its low
parity bit is wrong where odd or mark parity asks for a one. -/
def State.rxBreak (s : State) (n : Nat) (noise : Bool) (ago : Nat) : State :=
  let (st, c) := s.stampAt (ago + 28)
  let pe := parityBit (cfgPar (s.port n).rxCfg) 0
  let s1 := (((s.serFlag n 2).serFlag n 4).when pe (fun s => s.serFlag n 1)).when noise (fun s => s.serFlag n 3)
  let s2 := s1.rxEnqueue n { d := 0, nf := noise, pe := pe, fe := true, brk := true, stamp := st, step := c, tick := s.tickAt (ago + 28) }
  s2.setPort n { s2.port n with line := .brk, stuckFrom := some st }

/-- A character as its bits spell it. -/
structure Decided where
  start : Bool
  data : List Bool
  pbit : Bool
  stop : Bool

/-- The bits of a character at a setting (R75, R76). -/
def decided (cfg : BitVec 32) (dec : List Bool) : Decided :=
  let nb := cfgBits cfg
  { start := dec.getD 0 true, data := (dec.drop 1).take nb, pbit := dec.getD (1 + nb) true,
    stop := dec.getD (1 + nb + b1 (decide (cfgPar cfg ≠ 0))) true }

/-- Every bit of the character was decided low (R85). -/
def Decided.isBreak (x : Decided) (cfg : BitVec 32) : Bool :=
  !x.start && x.data.all (fun b => !b) && (cfgPar cfg == 0 || !x.pbit) && !x.stop

/-- A character is decided from the samples of its bits (R75, R76, R79). -/
def State.rxDecide (s : State) (n : Nat) (samples : List (BitVec 3)) (ago : Nat) : State :=
  let cfg := (s.port n).rxCfg
  let noise := samples.any disagree
  let x := decided cfg (samples.map majority)
  if x.start then s.serFlag n 7
  else if x.isBreak cfg then s.rxBreak n noise ago
  else
    let pe := cfgPar cfg ≠ 0 && x.pbit != parityBit (cfgPar cfg) (x.data.filter id).length
    let (st, c) := s.stampAt (ago + 28)
    let s1 := ((s.when pe (fun s => s.serFlag n 1)).when (!x.stop) (fun s => s.serFlag n 2)).when noise (fun s => s.serFlag n 3)
    s1.rxEnqueue n
      { d := BitVec.ofNat 9 (bitsVal x.data), nf := noise, pe := pe, fe := !x.stop, stamp := st, step := c, tick := s.tickAt (ago + 28) }

/-- In loopback the receiver takes the port's own transmitted entry (R90). -/
def State.rxLoop (s : State) (n ago : Nat) : State :=
  let p := s.port n
  match p.loopq with
  | [] => s
  | e :: r =>
    let s1 := s.setPort n { p with loopq := r }
    if e.brk then s1.rxBreak n false ago
    else
      let (st, c) := s.stampAt (ago + 28)
      s1.rxEnqueue n { d := BitVec.ofNat 9 (e.d.toNat % 2 ^ cfgBits p.rxCfg), stamp := st, step := c, tick := s.tickAt (ago + 28) }

/-! IR mode (R89): a pulse of at least IR_MINW cycles at the pulse level is stretched to 16 sample ticks. -/

/-- The first tick of each stretched pulse. -/
def State.irTicks (s : State) (n : Nat) (pulses : List IrPulse) : List Nat :=
  (pulses.filter fun p => p.high == (s.SER_PCTL2_IR_RXINV n == 1) && decide (s.SER_PCTL2_IR_MINW n ≤ p.len)).map fun p =>
    (p.start + (cfgDiv (s.port n).rxCfg - 1)) / cfgDiv (s.port n).rxCfg

/-- Sample 0 of the character: the first tick of the first stretched pulse. -/
def irStart : List Nat → Nat
  | [] => 0
  | t :: r => r.foldl min t

/-- Samples 7, 8 and 9 of each bit of the stretched signal, low within a stretched pulse. -/
def State.irSamples (s : State) (n : Nat) (ticks : List Nat) : List (BitVec 3) :=
  let c := (s.port n).rxCfg
  let low := fun t => ticks.any fun x => decide (x ≤ t ∧ t < x + 16)
  (List.range (2 + cfgBits c + b1 (decide (cfgPar c ≠ 0)))).map fun k =>
    let t := irStart ticks + 16 * k
    BitVec.ofNat 3 (b1 (!low (t + 7)) + 2 * b1 (!low (t + 8)) + 4 * b1 (!low (t + 9)))

/-- What the receiver has sampled: the samples 7, 8 and 9 of each bit and how many ns ago sample 0 was; none where no pulse starts a
character in IR mode. One UCLK cycle is 15,625/2,304 ns. -/
def State.sampled (s : State) (n : Nat) (line : RxLine) (ago : Nat) : Option (List (BitVec 3) × Nat) :=
  let c := (s.port n).rxCfg
  if cfgIr c = 0 then some (line.samples, ago)
  else
    match s.irTicks n line.pulses with
    | [] => none
    | t => some (s.irSamples n t, ago - irStart t * cfgDiv c * 15625 / 2304)

/-- A serial character is decided at its stop bit (CHARACTER_RECEIVE, R75): the samples 7, 8 and 9 of each bit from the
start bit on and how many ns ago sample 0 was; in IR mode the pulses on RXD and how many ns ago the tick was that they count from. -/
def execCharacterReceive (n : Fin 96) (line : RxLine) (ago : Nat) (s : State) : Res := .next <|
  if !s.rxOn n || (s.port n).line != .alive then s
  else if s.SER_PCFG_LOOP n = 1 then s.rxLoop n ago
  else
    match s.sampled n line ago with
    | some (x, a) => s.rxDecide n x a
    | none => s

/-- A break character is decided (BREAK_RECEIVE, R85), in loopback the port's own (R90); samples that are no break make none. -/
def execBreakReceive (n : Fin 96) (rx : RxBreak) (s : State) : Res := .next <|
  let p := s.port n
  if !s.rxOn n || p.line != .alive then s
  else if s.SER_PCFG_LOOP n = 1 then
    match p.loopq with
    | e :: _ => if e.brk then s.rxLoop n rx.ago else s
    | [] => s
  else
    match s.sampled n rx.line rx.ago with
    | some (x, a) => if (decided p.rxCfg (x.map majority)).isBreak p.rxCfg then s.rxDecide n x a else s
    | none => s

/-- RXD has been high for 16 ticks after a break (BREAK_END, R85). -/
def execBreakEnd (n : Fin 96) (s : State) : Res := .next <|
  if s.rxOn n && (s.port n).line == .brk then s.setPort n { s.port n with line := .alive, stuckFrom := none } else s

/-- RXD has been high for two character times (LINE_ALIVE, R86, R92). -/
def execLineAlive (n : Fin 96) (s : State) : Res := .next <|
  if s.rxOn n && ((s.port n).line == .dead || (s.port n).line == .held) then
    (s.setPort n { s.port n with line := .alive, stuckFrom := none }).serFlag n 6
  else s

/-- RATE_APPLIED once both directions have switched (R87). -/
def State.rateApplied (s : State) (n : Nat) : State :=
  if (s.port n).rxPend || (s.port n).txPend then s else s.serFlag n 8

/-- The transmitter takes the new setting (R87). -/
def State.txApply (s : State) (n : Nat) : State :=
  let p := s.port n
  if p.txPend then (s.setPort n { p with txCfg := s.reg (R_SER_PCFG n), txPend := false, txBusy := false }).rateApplied n else s

/-- The receiver takes the new setting at an idle tick (RX_RATE_APPLY, R87). -/
def execRxRateApply (n : Fin 96) (s : State) : Res := .next <|
  let p := s.port n
  if p.rxPend then (s.setPort n { p with rxCfg := s.reg (R_SER_PCFG n), rxPend := false }).rateApplied n else s

/-- The transmitter takes the new setting after the character in progress (TX_RATE_APPLY, R87). -/
def execTxRateApply (n : Fin 96) (s : State) : Res := .next (s.txApply n)

/-- CTS as the transmitter samples it: asserted low unless CTS_POL, or the port's own RTS in loopback (R83, R90). -/
def State.ctsOf (s : State) (n : Nat) (level : Bool) : Bool :=
  if s.SER_PCFG_LOOP n = 1 then (s.port n).rts else level == (s.SER_PCTL2_CTS_POL n == 1)

/-- Start the head entry of the transmit queue (R84), in loopback with TXD at mark (R90). -/
def State.txStart (s : State) (n : Nat) : State :=
  let p := s.port n
  match p.txq with
  | [] => s.setPort n { p with txBusy := false, ctsWait := false }
  | e :: r =>
    let p1 := { p with txq := r, txBusy := true, ctsWait := false }
    let s1 := (s.setPort n (if s.SER_PCFG_LOOP n = 1 then { p1 with loopq := p1.loopq ++ [e] } else p1)).count (R_SER_PTXCNT n)
    if s.SER_PCFG_LOOP n = 1 then s1
    else
      let inv := s.SER_PCTL2_IR_TXINV n == 1
      s1.emit (.serial n (if e.brk then breakWave p.txCfg inv (s.SER_PCTL2_BREAK_LEN n) else charWave p.txCfg inv e.d))

/-- A character boundary of the transmitter with the CTS pin at a level (R83): the entry waits while CTS is deasserted. -/
def State.txBoundary (s : State) (n : Nat) (level : Bool) : State :=
  let s0 := s.txApply n
  let cts := s0.ctsOf n level
  let s1 := s0.setPort n { s0.port n with cts := cts }
  if s1.SER_PCFG_FLOW n = 1 ∧ cts = false ∧ (s1.port n).txq ≠ [] then
    s1.setPort n { s1.port n with ctsWait := true, txBusy := false }
  else s1.txStart n

/-- The character or break in the shifter has ended and no entry follows: a new setting is taken (R87). -/
def State.txFinish (s : State) (n : Nat) : State :=
  let s1 := s.txApply n
  s1.setPort n { s1.port n with txBusy := false }

/-- The transmitter starts the next entry (CHARACTER_TRANSMIT, R83, R84); in STANDBY the character in the shifter finishes and TXD stays at
mark (Table SER-4). -/
def execCharacterTransmit (n : Fin 96) (ctsLevel : Bool) (s : State) : Res := .next <|
  if s.txOn n then s.txBoundary n ctsLevel else if s.rxOn n then s.txFinish n else s

/-- The transmitter starts a break entry (BREAK_TRANSMIT, R84). -/
def execBreakTransmit (n : Fin 96) (ctsLevel : Bool) (s : State) : Res := .next <|
  match (s.port n).txq with
  | e :: _ => if s.txOn n && e.brk then s.txBoundary n ctsLevel else s
  | [] => s

/-- Discard the queued entries of a port, counted in SER_PDISCNT (R91, R92). -/
def State.portDiscard (s : State) (n : Nat) (rx tx : Bool) : State :=
  let p := s.port n
  let c := (if rx then p.rxq.length else 0) + (if tx then p.txq.length else 0)
  let s1 := s.setPort n { p with rxq := if rx then [] else p.rxq, txq := if tx then [] else p.txq }
  if c = 0 then s1 else (s1.countN (R_SER_PDISCNT n) c).serFlag n 9

/-- Hold one port of a bank: queues discarded, RTS deasserted, LINE HELD (R92). -/
def State.portHold (s : State) (n : Nat) : State :=
  let s1 := (s.portDiscard n true true).setRts n false
  s1.setPort n
    { s1.port n with line := .held, txBusy := false, ctsWait := false, lossPending := false, loopq := [], stuckFrom := none }

/-- The ports of a bank (R71). -/
def bankPorts (b : Nat) : List Nat := (List.range 12).map (12 * b + ·)

/-- Some port of the bank is enabled. -/
def State.bankUsed (s : State) (b : Nat) : Bool := (bankPorts b).any (fun n => s.portEnabled n)

/-- Hold every enabled port of a bank (R92). -/
def State.bankHold (s : State) (b : Nat) : State :=
  s.forEach ((bankPorts b).filter (fun n => s.portEnabled n)) (fun s n => s.portHold n)

/-- An enabled port starts to run with RTS as R82 gives it; in a held bank it is held (R92). -/
def State.portStart (s : State) (n : Nat) : State :=
  if s.bankHeld (n / 12) then s.portHold n
  else s.setRts n (decide (s.SER_PCFG_FLOW n = 0 ∨ (s.port n).rxq.length < s.SER_PCTL_HWM n))

/-- A held bank returns: its ports wait, LINE still HELD, and STUCK_TIME counts from now (R92). -/
def State.bankReturn (s : State) (b : Nat) : State :=
  s.forEach ((bankPorts b).filter (fun n => s.portEnabled n)) fun s n =>
    (s.setPort n { s.port n with stuckFrom := some s.now }).portStart n

/-- A commit that ends flow control leaves RTS asserted (R82). -/
def State.flowOff (s : State) (n : Nat) : State := if s.SER_PCFG_FLOW n = 0 ∧ s.rxOn n then s.setRts n true else s

/-- A port that is not enabled: transmitter at mark, RTS deasserted, both queues empty (R72). -/
def State.portOff (s : State) (n : Nat) : State := (s.setRts n false).setPort n {}

/-- A port takes a new SER_PCFG at commit: format changes wait for a character boundary, or apply at once where no
character can be in progress (R72, R87). A direction that still waits for a format keeps the one in force. -/
def State.portConfig (s : State) (n : Nat) (old : BitVec 32) : State :=
  let new := s.reg (R_SER_PCFG n)
  let p := s.port n
  if !s.portEnabled n then s.portOff n
  else if bitOf old.toNat 27 = false then (s.setPort n { p with rxCfg := new, txCfg := new, rxPend := false, txPend := false }).portStart n
  else
    let q :=
      if cfgFormat old = cfgFormat new then
        { p with rxCfg := if p.rxPend then p.rxCfg else new, txCfg := if p.txPend then p.txCfg else new }
      else if p.txBusy then { p with rxPend := true, txPend := true }
      else { p with rxPend := true, txPend := false, txCfg := new }
    (s.setPort n q).flowOff n

/-- The ports of the variant. -/
def State.allPorts (s : State) : List Nat := (List.range 96).filter (fun n => s.hasPort n)

/-- HALT: transmitters at mark, RTS deasserted, queues kept (Table SER-4). -/
def State.portsHalt (s : State) : State :=
  s.forEach (s.allPorts.filter (fun n => s.portEnabled n)) fun s n =>
    (s.setPort n { s.port n with txBusy := false, ctsWait := false }).setRts n false

/-- STANDBY: transmit queues are discarded and counted, and no entry waits for CTS (Table SER-4). -/
def State.portsStandby (s : State) : State :=
  s.forEach (s.allPorts.filter (fun n => s.portEnabled n)) fun s n =>
    let s1 := s.portDiscard n false true
    s1.setPort n { s1.port n with ctsWait := false }

end Sys2Proof.Machine
end

