-- ==== Sys2Proof/Machine/Assembly.lean ====
section
/-! DEFINITION. Sentence assembly on serial ports, check units and alive counters (05_sentences_checks.md). -/

namespace Sys2Proof.Machine

/-- Change the assembly record. -/
def State.modSnt (s : State) (f : Snt → Snt) : State := { s with snt := f s.snt }

/-- The open sentence of serial source n. -/
def State.asmOf (s : State) (n : Nat) : Option OpenSent := s.snt.asm.at none n
/-- Write it. -/
def State.setAsm (s : State) (n : Nat) (o : Option OpenSent) : State := s.modSnt fun t => { t with asm := t.asm.put none n o }

/-- Network port k. -/
def State.np (s : State) (k : Nat) : NetPort := s.snt.np.at {} k
/-- Write it. -/
def State.setNp (s : State) (k : Nat) (p : NetPort) : State := s.modSnt fun t => { t with np := t.np.put {} k p }

/-- Count counter c of source `src` and set the flag that goes with it (Table SNT-7, Table SNT-8). -/
def State.srcCount (s : State) (src c : Nat) : State :=
  let s1 := s.count (R_SNT_SCNT src c)
  if c = cCheckFail then s1.sntFlag 1
  else if c = cCheckForm then s1.sntFlag 2
  else if c = cFragment then s1.sntFlag 3
  else if c = cTooLong then s1.sntFlag 4
  else if c = 7 ∧ 96 ≤ src then s1.sntFlag 5
  else if c = 13 then s1.sntFlag 6
  else s1

/-- A serial OVERSIZE counts under FORM and sets OVERSIZE (Table SNT-8). -/
def State.serOversize (s : State) (n : Nat) : State := (s.count (R_SNT_SCNT n cForm)).sntFlag 5

/-- Compare one block at check unit u (R112): the covered bytes, the value compared against. -/
def State.cuCompare (s : State) (u : Nat) (value against : Nat) : State :=
  let s1 := ((s.setReg (R_CU_LAST u) (BitVec.ofNat 32 value)).setReg (R_CU_LASTEXP u) (BitVec.ofNat 32 against)).count (R_CU_BLOCKS u)
  if value = against then s1 else ((s1.count (R_CU_MISMATCH u)).cuFlag u 0).sntFlag 0

/-- A check unit and the CU_CFG and CU_RANGE under which it takes a block (R112, R116). -/
abbrev Watch := Nat × BitVec 32 × BitVec 32

/-- One block at a check unit (R112, R117): `asc` is given for an ASCII sentence, with the characters between opener and
`*` and the checksum read from its field; `pre` is the fold prefix of the block's header, which only CRC-32C takes. -/
def State.cuBlock (s : State) (w : Watch) (blk : Bytes) (asc : Option (Bytes × Option Nat)) (pre : Bytes) : State :=
  let u := w.1
  let cfg := w.2.1.toNat
  let alg := bits cfg 1 3
  let cmp := bitOf cfg 8
  let start := bits w.2.2.toNat 0 16
  let fl := if cmp then 0 else checkBytes alg
  let exp := (s.reg (R_CU_EXP u)).toNat
  match alg, asc with
  | 4, some (cov, fld) =>
    match fld with
    | none => s.cuFlag u 2
    | some v => s.cuCompare u (xor8 cov) (if cmp then exp else v)
  | _, _ =>
    if blk.length < start + fl + 1 then s.cuFlag u 1
    else
      let cov := (blk.drop start).take (blk.length - start - fl)
      let fb := blk.drop (blk.length - fl)
      let fv := if bitOf cfg 9 then leNat fb else beNat fb
      s.cuCompare u (checkOf alg ((if bitOf cfg 10 ∧ alg = 3 then pre else []) ++ cov)) (if cmp then exp else fv)

/-- The enabled check units CU0–CU14 that select a snoop point, as they stand at the start of a block; in PLINTH none runs (R112, R116). -/
def State.watches (s : State) (point index : Nat) : List Watch :=
  if !s.live then []
  else
    ((List.range 15).filter fun u =>
      s.CU_CFG_ENABLE u = 1 ∧ s.CU_CFG_POINT u = point ∧ s.CU_CFG_INDEX u = index ∧ s.CU_CFG_ALG u ≤ 4).map fun u =>
      (u, s.reg (R_CU_CFG u), s.reg (R_CU_RANGE u))

/-- A block ends at the check units that watched it from its start (R112, R116). -/
def State.snoopBy (s : State) (ws : List Watch) (blk : Bytes) (asc : Option (Bytes × Option Nat)) (pre : Bytes) : State :=
  if !s.live then s else ws.foldl (fun s w => s.cuBlock w blk asc pre) s

/-- A whole block passes a snoop point (R112). -/
def State.snoop (s : State) (point index : Nat) (blk : Bytes) (asc : Option (Bytes × Option Nat)) (pre : Bytes) : State :=
  s.snoopBy (s.watches point index) blk asc pre

/-- What a check unit sees of an ASCII sentence. -/
def ascSeen (o : OpenSent) : Option (Bytes × Option Nat) := some (ascCovered o, hex2 (ascField o))

/-- What a check unit sees of a closed sentence by its bytes. -/
def seenOf (x : Sentence) : Option (Bytes × Option Nat) :=
  if x.fmt = 0 ∨ x.fmt = 3 then
    ascSeen { kind := .ascii .cr, chars := x.data, tagLen := x.data.length - x.len }
  else none

/-- A sentence closes: it counts, is snooped, and waits for classification (R107, R108). -/
def State.closeSentence (s : State) (n : Nat) (ws : List Watch) (x : Sentence) (outcome : Nat) : State :=
  let s1 := (s.srcCount n outcome).snoopBy ws x.data (seenOf x) []
  (s1.setAsm n none).modSnt fun t => { t with classQ := t.classQ ++ [x] }

/-- Abandon the open sentence of source n under a counter (Table SNT-2). -/
def State.abandon (s : State) (n c : Nat) : State := (s.setAsm n none).srcCount n c

/-- A RAW_GAP run closes (R102). -/
def State.closeRaw (s : State) (n : Nat) (o : OpenSent) : State :=
  s.closeSentence n o.cus
    { typ := 0, idx := n, fmt := 2, stamp := o.stamp, step := o.step, data := o.chars, len := o.chars.length, noisy := o.noisy }
    cSentences

/-- PE, FE, or NF with NF_ABANDON (R104). -/
def State.badFlags (s : State) (n : Nat) (e : RxEntry) : Bool := e.pe || e.fe || (e.nf && s.SNT_PCFG_NF_ABANDON n == 1)

/-- An entry in hunt state (R96). -/
def State.hunt (s : State) (n : Nat) (e : RxEntry) : State :=
  let m := s.SNT_PCFG_MODE n
  let b : Byte := e.d.setWidth 8
  let o := fun (k : AsmKind) (tag : Nat) =>
    s.setAsm n (some
      { kind := k, chars := [b], tagLen := tag, stamp := e.stamp, step := e.step, noisy := e.nf, lastStamp := e.stamp, lastStep := e.step,
        lastTick := e.tick, cus := s.watches 0 n })
  if e.brk then s
  else if s.badFlags n e then s.count (R_SNT_SCNT n 7)
  else if m = 3 then o .raw 0
  else if (m = 0 ∨ m = 2) ∧ isStart e.d.toNat then o (.ascii .addr) 0
  else if (m = 0 ∨ m = 2) ∧ e.d = 0x5C then o (.ascii .tagKey) 1
  else if (m = 1 ∨ m = 2) ∧ e.d = 0xAA then o .c37 0
  else s.count (R_SNT_SCNT n 7)

/-- The data of an entry inside an open sentence; the second part lists entries to examine again in hunt state (R96, R101). -/
def State.extend (s : State) (n : Nat) (o : OpenSent) (e : RxEntry) : State × List RxEntry :=
  let o1 := { o with noisy := o.noisy || e.nf, lastStamp := e.stamp, lastStep := e.step, lastTick := e.tick }
  match o.kind with
  | .ascii p =>
    match ascStep (if s.SNT_PCFG_LONG_EN n = 1 then 1024 else 82) o1 p e.d.toNat with
    | .more o2 => (s.setAsm n (some o2), [])
    | .drop c => (s.abandon n c, [e])
    | .done o2 =>
      let out := ascOutcome o2 (s.SNT_PCFG_CS_REQUIRED n == 1)
      (s.closeSentence n o.cus (ascSentence o2 0 n 0 out (s.SNT_PCFG_CS_REQUIRED n == 1)) out, [])
  | .raw =>
    let o2 := { o1 with chars := o1.chars ++ [e.d.setWidth 8] }
    (if o2.chars.length ≥ 1024 then s.closeRaw n o2 else s.setAsm n (some o2), [])
  | .c37 =>
    let o2 := { o1 with chars := o1.chars ++ [e.d.setWidth 8], ents := if o1.chars.length < 4 then o1.ents ++ [e] else [] }
    let len := o2.chars.length
    let fs := beNat ((o2.chars.drop 2).take 2)
    if len = 2 ∧ c37TypeOk (e.d.toNat % 256) = false then (s.abandon n cForm, o2.ents)
    else if len = 4 ∧ fs > 4096 then ((s.setAsm n none).serOversize n, o2.ents)
    else if len = 4 ∧ fs < 16 then (s.abandon n cForm, o2.ents)
    else if len ≥ 16 ∧ len = fs then
      let x := c37Sentence o2.chars 0 n o2.stamp o2.step o2.noisy
      (s.closeSentence n o.cus x (if x.checkFailed then cCheckFail else cSentences), [])
    else (s.setAsm n (some o2), [])

/-- The time from an open sentence's last entry to a stamp: between stamps, or across a step on the counter that no step moves (R102, R103,
R110). -/
def OpenSent.gapTo (o : OpenSent) (stamp tick : Nat) (step : BitVec 8) : Nat :=
  if step = o.lastStep then stamp - o.lastStamp else tick - o.lastTick

/-- So long a gap ends a RAW_GAP run (R102). -/
def State.rawGapOver (s : State) (n gap : Nat) : Bool :=
  let ct := charNs (s.port n).rxCfg
  decide (2 * ct + s.SNT_PCFG_RAW_GAP n * ct ≤ 2 * gap)

/-- So long a gap abandons a sentence in progress (R103). -/
def State.gapOver (s : State) (n gap : Nat) : Bool :=
  let ct := charNs (s.port n).rxCfg
  s.SNT_PCFG_GAP_CT n != 0 && decide (ct + s.SNT_PCFG_GAP_CT n * ct < gap)

/-- An entry meets an open sentence: time, then flags, then data (R102 to R104, R108). -/
def State.meet (s : State) (n : Nat) (o : OpenSent) (e : RxEntry) : State × List RxEntry :=
  let gap := o.gapTo e.stamp e.tick e.step
  if o.kind = .raw ∧ s.rawGapOver n gap then (s.closeRaw n o, [e])
  else if o.kind ≠ .raw ∧ s.gapOver n gap then (s.abandon n cFragment, [e])
  else if e.brk then (s.abandon n cFragment, [])
  else if e.loss then (s.abandon n cFragment, if s.badFlags n e then [] else [{ e with loss := false }])
  else if s.badFlags n e then (s.abandon n cCharError, [])
  else s.extend n o e

/-- Examine entries in order; entries given back are examined before the rest (R96). -/
def State.examine : Nat → State → Nat → List RxEntry → State
  | 0, s, _, _ => s
  | _, s, _, [] => s
  | fuel + 1, s, n, e :: r =>
    match s.asmOf n with
    | none => State.examine fuel (s.hunt n e) n r
    | some o =>
      let (s1, again) := s.meet n o e
      State.examine fuel s1 n (again ++ r)

/-- Assembly runs on port n (R110, R42). -/
def State.asmOn (s : State) (n : Nat) : Bool :=
  s.portEnabled n && !s.bankHeld (n / 12) && (s.live || s.glb.mode == .plinth)

/-- The gap that has passed at port n without an entry: to the next entry in the queue, or to now. -/
def State.gapNow (s : State) (n : Nat) (o : OpenSent) : Nat :=
  match (s.port n).rxq with
  | e :: _ => o.gapTo e.stamp e.tick e.step
  | [] => o.gapTo s.now (s.tickAt 0) s.tim.step

/-- No entry for GAP_CT character times (GAP_TIMEOUT, R103). -/
def State.gapTimeout (s : State) (n : Nat) : State :=
  match s.asmOf n with
  | some o => if o.kind ≠ .raw ∧ s.gapOver n (s.gapNow n o) ∧ s.asmOn n then s.abandon n cFragment else s
  | none => s

/-- A RAW_GAP run's gap time passes (RAW_GAP_CLOSE, R102). -/
def State.rawGapClose (s : State) (n : Nat) : State :=
  match s.asmOf n with
  | some o => if o.kind = .raw ∧ s.rawGapOver n (s.gapNow n o) ∧ s.asmOn n then s.closeRaw n o else s
  | none => s

/-- Abandon whatever is open on the ports (R108 first row, R110). -/
def State.abandonAll (s : State) (ports : List Nat) : State :=
  s.forEach ports fun s n => if (s.asmOf n).isSome then s.abandon n cFragment else s

/-- Judge an alive counter against its reference: accept with the new reference, or REPEAT (R118). -/
def State.aliveM (s : State) (m : Nat) (ref : Option Nat) (v : Nat) : State × Bool :=
  match ref with
  | none => (s, true)
  | some r =>
    if v = (r + 1) % 256 then (s, true)
    else if v = r then ((s.count (R_SNT_REPEAT m)).sntFlag 8, false)
    else ((s.count (R_SNT_ALIVEGAP m)).sntFlag 7, true)

/-- The alive check of a host command (M0). -/
def State.alive0 (s : State) (v : Nat) : State × Bool :=
  let (s1, ok) := s.aliveM 0 s.snt.alive0 v
  (if ok then s1.modSnt fun t => { t with alive0 := some v } else s1, ok)

/-- The alive check of a bridge request (M1). -/
def State.alive1 (s : State) (v : Nat) : State × Bool :=
  let (s1, ok) := s.aliveM 1 s.snt.alive1 v
  (if ok then s1.modSnt fun t => { t with alive1 := some v } else s1, ok)

/-- The alive check of a management command from device `dev` (M2): one reference for each of up to 64 devices, the
least recently used replaced. -/
def State.alive2 (s : State) (dev v : Nat) : State × Bool :=
  let ref := (s.snt.alive2.find? (fun x => x.1 == dev)).map (·.2)
  let (s1, ok) := s.aliveM 2 ref v
  let keep := if ok then v else ref.getD v
  (s1.modSnt fun t => { t with alive2 := ((dev, keep) :: t.alive2.filter (fun x => x.1 != dev)).take 64 }, ok)

/-- Every reference becomes unset (R118). -/
def State.aliveUnset (s : State) : State := s.modSnt fun t => { t with alive0 := none, alive1 := none, alive2 := [] }

end Sys2Proof.Machine
end

