-- ==== Sys2Proof/Machine/Flows.lean ====
section
/-! DEFINITION. Flow contexts, the key table and flow states (06_flows.md). -/

namespace Sys2Proof.Machine

/-- Field of `n` bytes at offset `o` of flow context f, little-endian (R124). -/
def State.fctx (s : State) (f o n : Nat) : Nat := s.flw.ctx.le 0 (512 * f + o) n
/-- Write it. -/
def State.setFctx (s : State) (f o n v : Nat) : State := { s with flw := { s.flw with ctx := s.flw.ctx.setLe 0 (512 * f + o) n v } }
/-- Bytes of flow context f. -/
def State.fbytes (s : State) (f o n : Nat) : Bytes := s.flw.ctx.bytes 0 (512 * f + o) n
/-- Write bytes of flow context f. -/
def State.setFbytes (s : State) (f o : Nat) (bs : Bytes) : State :=
  { s with flw := { s.flw with ctx := s.flw.ctx.setBytes 0 (512 * f + o) bs } }
/-- Bytes of key table bucket j. -/
def State.bucket (s : State) (j : Nat) : Bytes := s.flw.keys.bytes 0 (32 * j) 32
/-- Write bucket j. -/
def State.setBucket (s : State) (j : Nat) (bs : Bytes) : State :=
  { s with flw := { s.flw with keys := s.flw.keys.setBytes 0 (32 * j) bs } }

/-! Fields of Table FLW-2. -/
def State.fState (s : State) (f : Nat) : Nat := s.fctx f 0x20 1 % 8
def State.fPrio (s : State) (f : Nat) : Nat := s.fctx f 0x21 1 % 8
def State.fDomain (s : State) (f : Nat) : Nat := s.fctx f 0x22 1 % 16
def State.fMember (s : State) (f : Nat) : Bool := bitOf (s.fctx f 0x22 1) 4
def State.fRequired (s : State) (f : Nat) : Bool := bitOf (s.fctx f 0x22 1) 5
def State.fLong (s : State) (f : Nat) : Bool := bitOf (s.fctx f 0x23 1) 0
def State.fMarked (s : State) (f : Nat) : Bool := bitOf (s.fctx f 0x23 1) 1
def State.fPrime (s : State) (f : Nat) : Bool := bitOf (s.fctx f 0x23 1) 2
def State.fGroup (s : State) (f : Nat) : Nat := s.fctx f 0x24 2 % 1024
def State.fEntryPc (s : State) (f : Nat) : Nat := s.fctx f 0x26 2
def State.fBudget (s : State) (f : Nat) : Nat := if s.fctx f 0x28 2 = 0 then 4096 else s.fctx f 0x28 2
def State.fLane (s : State) (f : Nat) : Nat := s.fctx f 0x2A 1 % 16
def State.fLaneEn (s : State) (f : Nat) : Bool := bitOf (s.fctx f 0x2A 1) 7
def State.fFaultLimit (s : State) (f : Nat) : Nat := s.fctx f 0x2B 1
def State.fLayout (s : State) (f : Nat) : Nat := s.fctx f 0x2C 2
def State.fHalfLife (s : State) (f : Nat) : Nat := s.fctx f 0x2E 1
def State.fExpPeriod (s : State) (f : Nat) : Nat := s.fctx f 0x30 4
def State.fLastArr (s : State) (f : Nat) : Nat := ofDev64 (s.fctx f 0x48 8)
def State.fSeq (s : State) (f : Nat) : Nat := s.fctx f 0x50 2
def State.fLearn (s : State) (f : Nat) : Nat := s.fctx f 0x52 2
def State.fFaultRun (s : State) (f : Nat) : Nat := s.fctx f 0x54 1
def State.fLq (s : State) (f : Nat) : Nat := s.fctx f 0x58 4

/-- ENTRY of a context's KEY (Table FLW-1). -/
def State.fEntry (s : State) (f : Nat) : Nat := beNat (s.fbytes f 0x1E 2)

/-- The context is in use: its KEY's ENTRY is VALID (Table FLW-1). -/
def State.fUsed (s : State) (f : Nat) : Bool := bitOf (s.fEntry f) 15

/-- Contexts in use, rising. -/
def State.flowsUsed (s : State) : List Nat :=
  ((s.flw.ctx.map (fun x => x.1 / 512)).eraseReps).filter (fun f => s.fUsed f)

/-- Count counter c of flow f, which wraps at 2^32 (R133). -/
def State.fCount (s : State) (f c : Nat) : State := s.setFctx f (0xE0 + 4 * c) 4 (s.fctx f (0xE0 + 4 * c) 4 + 1)

/-- TYPE and INDEX of the flow's key. -/
def State.fSrc (s : State) (f : Nat) : Nat × Nat := (s.fctx f 0 1, s.fctx f 1 1)

/-- FORMAT of the flow's key. -/
def State.fFormat (s : State) (f : Nat) : Nat := s.fctx f 2 1

/-- Every enabled link with a KEY_INDEX is shed (14_armature_links.md R305, R311). -/
def State.keyShed (s : State) (key : Nat) : Bool :=
  let ls := (List.range 8).filter (fun k => s.ARM_LCFG_ENABLE k == 1 && s.ARM_LCFG_KEY_INDEX k == key)
  ls != [] && ls.all (fun k => (s.arm.links.at {} k).shed)

/-- The interface is shed or its line dead (R125 code 5). -/
def State.srcDown (s : State) (typ idx : Nat) : Bool :=
  match typ with
  | 0 => s.bankHeld (idx / 12) || (s.port idx).line == .dead || (s.port idx).line == .held
  | 1 => (s.np idx).shed
  | _ => s.keyShed idx

/-- The same for a flow. -/
def State.fDown (s : State) (f : Nat) : Bool := s.srcDown (s.fSrc f).1 (s.fSrc f).2

/-- Enter a state with a cause of Table FLW-3. -/
def State.fEnter (s : State) (f st cause : Nat) : State :=
  let old := s.fctx f 0x20 1
  (s.setFctx f 0x20 1 (old / 8 * 8 + st)).setFctx f 0x55 1 cause

/-! Trailers of internal frames (01_architecture.md R17, 05_sentences_checks.md R117; log entry 135). -/

/-- The trailer the device makes, and expects, for a frame of flow f with sequence number seq. -/
def State.trailer (s : State) (f seq : Nat) (bs : Bytes) : Nat := foldCrc s.ownId f seq bs
/-- A record leaves with its trailer. -/
def State.sealRec (s : State) (r : Rec) : Rec := { r with crc := s.trailer r.flow r.seq r.data }
/-- The trailer of a record passes. -/
def State.goodRec (s : State) (r : Rec) : Bool := r.crc == s.trailer r.flow r.seq r.data
/-- A classified sentence leaves for the dispatcher with its trailer. -/
def State.sealEntry (s : State) (x : QEntry) : QEntry := { x with crc := s.trailer x.flow x.seq x.sent.data }
/-- The trailer of a dispatcher entry passes; a timer run is no frame. -/
def State.goodEntry (s : State) (x : QEntry) : Bool := x.timer.isSome || x.crc == s.trailer x.flow x.seq x.sent.data

/-- Enter SILENT from LEARNING or ACTIVE (R125, R126). -/
def State.fSilence (s : State) (f cause : Nat) : State :=
  if s.fState f = 1 ∨ s.fState f = 2 then ((s.fEnter f 3 cause).fCount f 14).flwFlag 3 else s

/-- Enter QUARANTINED (R125 code 8). -/
def State.fQuarantine (s : State) (f : Nat) : State :=
  if s.fState f = 4 then s else (s.fEnter f 4 8).flwFlag 4

/-- Flows of a source go SILENT at once (R86, Table MOD-5). -/
def State.silenceSource (s : State) (typ idx : Nat) : State :=
  s.forEach (s.flowsUsed.filter (fun f => s.fSrc f == (typ, idx))) fun s f => s.fSilence f 5

/-- Clear a flow's histogram; with no sample LQ_NS is unbounded (R127, R323, 09_alignment.md R192). -/
def State.clearHist (s : State) (f : Nat) : State :=
  ((s.setFbytes f 0x60 (List.replicate 128 0)).setFctx f 0x52 2 0).setFctx f 0x58 4 0xFFFFFFFF

/-- What a time step does to a flow (R64 step 5, R127). -/
def State.stepFlow (s : State) (f : Nat) : State :=
  let s1 := s.clearHist f
  if s.fState f = 4 ∨ (s.fState f = 3 ∧ s.fDown f) then s1
  else
    let s2 := s1.fEnter f 1 7
    { s2 with flw := { s2.flw with silBase := s2.flw.silBase.put none f (some s2.now) } }

/-- Every flow at a time step. -/
def State.stepFlows (s : State) : State := s.forEach s.flowsUsed fun s f => s.stepFlow f

/-- Index of a source in FLW_KEYPROF (Table FLW-5). -/
def profIndex (typ idx : Nat) : Nat :=
  match typ with
  | 0 => idx
  | 1 => 96 + idx
  | _ => 100 + idx

/-- The key profile mask of a sentence (R120). -/
def State.maskOf (s : State) (x : Sentence) : Nat :=
  let i := profIndex x.typ x.idx
  match x.fmt with
  | 0 => s.FLW_KEYPROF_ASCII i
  | 1 => s.FLW_KEYPROF_C37 i
  | 2 => 0
  | 3 => s.FLW_KEYPROF_IEC450 i
  | _ => s.FLW_KEYPROF_ARM i

/-- The 30-byte key of a sentence under a mask (R119, Table FLW-1). -/
def keyOf (x : Sentence) (m : Nat) : Bytes :=
  let vlan := match x.vlan with
    | some v => 0x8000 + v % 4096
    | none => 0
  let pnum := if x.fmt = 3 then x.nTag.getD 0 else if x.fmt = 1 ∧ x.typ = 1 then x.udp else 0
  let addr := match bitOf m 5, x.sTag with
    | true, some t => padTo 16 t
    | _, _ => padTo 16 x.addr
  let pick := fun (i n v : Nat) => if bitOf m i then beBytes n v else List.replicate n 0
  [BitVec.ofNat 8 x.typ, BitVec.ofNat 8 x.idx, BitVec.ofNat 8 x.fmt, BitVec.ofNat 8 m] ++
    pick 0 2 vlan ++ pick 1 2 pnum ++ pick 2 2 x.ident ++ pick 3 4 x.formatter ++
    (if bitOf m 4 then addr else List.replicate 16 0)

/-- The two buckets of a key (R121). -/
def hashes (key : Bytes) : Nat × Nat :=
  let c := checkOf 3 key
  let h0 := c % 2 ^ 14
  let h1 := c / 2 ^ 14 % 2 ^ 14
  (h0, if h1 = h0 then h0 ^^^ 0x2000 else h1)

/-- ENTRY of a bucket. -/
def State.bucketEntry (s : State) (j : Nat) : Nat := beNat ((s.bucket j).drop 30)

/-- The bucket is VALID and readable (R121, Table PRT-5 store 2). -/
def State.bucketValid (s : State) (j : Nat) : Bool :=
  bitOf (s.bucketEntry j) 15 && !(List.range 4).any (fun i => s.isBad 2 (4 * j + i))

/-- The flow of a key: H0 first (R121). -/
def State.findKey (s : State) (key : Bytes) : Option Nat :=
  let (h0, h1) := hashes key
  if s.bucketValid h0 && (s.bucket h0).take 30 == key then some (s.bucketEntry h0 % 8192)
  else if s.bucketValid h1 && (s.bucket h1).take 30 == key then some (s.bucketEntry h1 % 8192)
  else none

/-- A free bucket of a key: H0, else H1. -/
def State.freeBucket (s : State) (key : Bytes) : Option Nat :=
  let (h0, h1) := hashes key
  if !bitOf (s.bucketEntry h0) 15 then some h0
  else if !bitOf (s.bucketEntry h1) 15 then some h1
  else none

/-- Write the key and ENTRY of flow f into its context and a bucket. -/
def State.placeKey (s : State) (f j : Nat) (key : Bytes) (learned : Bool) : State :=
  let bs := key ++ beBytes 2 (0x8000 + b1 learned * 0x4000 + f)
  (s.setFbytes f 0 bs).setBucket j bs

/-- Auto-learn (R123): the lowest free context of the pool, built from the template. -/
def State.autoLearn (s : State) (key : Bytes) : Option (Nat × State) :=
  let first := s.FLW_AUTOPOOL_FIRST
  let last := s.FLW_AUTOPOOL_LAST
  match (List.range (last + 1 - first)).find? (fun i => !s.fUsed (first + i)), s.freeBucket key with
  | some i, some j =>
    let f := first + i
    let tpl := s.fbytes s.FLW_AUTOCFG_TEMPLATE 0x21 31
    let s1 := ((s.setFbytes f 0 (List.replicate 512 0)).setFbytes f 0x21 tpl).placeKey f j key true
    let s2 := (s1.fEnter f 0 1).setFctx f 0x58 4 0xFFFFFFFF
    some (f, (s2.count (R_FLW_GCNT 1)).flwFlag 1)
  | _, _ => none

/-- A sentence is classified to its flow: SEQ, LAST_ARR, SENTENCES and the state (R124, R125). -/
def State.enterFlow (s : State) (f : Nat) (x : Sentence) : State :=
  let s1 := ((s.setFctx f 0x50 2 (s.fSeq f + 1)).setFctx f 0x48 8 (dev64 x.stamp)).fCount f 0
  let s2 := { s1 with flw := { s1.flw with silBase := s1.flw.silBase.put none f none } }
  if s2.fState f = 0 then s2.fEnter f 1 2
  else if s2.fState f = 3 ∧ s2.fDown f = false then s2.fEnter f (if s2.fLearn f = 256 then 2 else 1) 6
  else s2

/-- Contexts in state st (FLW_STATECNT). -/
def State.stateCount (s : State) (st : Nat) : Nat := (s.flowsUsed.filter (fun f => s.fState f == st)).length

/-- The scanner's visit of every context (SILENCE_SCAN, R126, R127). -/
def execSilenceScan (s : State) : Res := .next <|
  if !s.live then s
  else
    s.forEach s.flowsUsed fun s f =>
      let base := (s.flw.silBase.at none f).getD (s.fLastArr f)
      if s.fExpPeriod f ≠ 0 ∧ base + 3000 * s.fExpPeriod f ≤ s.now then s.fSilence f 4 else s

/-- A whole microsecond of device time has come at or after STUCK_TIME from the break's sample 0, or from the return of the bank (R86,
R92). The stamp stays as it was taken when device time steps (DESIGN CHOICE, log entry 136). -/
def State.stuck (s : State) (n : Nat) : Bool :=
  match (s.port n).stuckFrom with
  | some x => decide (x + 1000000 * s.SER_PCTL_STUCK_TIME n ≤ s.now / 1000 * 1000)
  | none => false

/-- RXD still low STUCK_TIME after the break's start, or after a bank's return (LINE_DEAD, R86, R92). -/
def execLineDead (n : Fin 96) (s : State) : Res := .next <|
  if s.rxOn n && ((s.port n).line == .brk || (s.port n).line == .held) && s.stuck n then
    ((s.setPort n { s.port n with line := .dead, stuckFrom := none }).serFlag n 5).silenceSource 0 n
  else s

/-- A bank's rail leaves its window for 10 µs (VIO_FAULT, R93). -/
def execVioFault (b : Fin 8) (s : State) : Res := .next <|
  if s.hasBank b && s.bankUsed b && s.glb.mode != .reset then
    let s1 := ((s.setBank b { s.bank b with vioOk := false, fault := true }).bankFlag b 0).abandonAll
      ((bankPorts b).filter (fun n => s.portEnabled n))
    (s1.bankHold b).forEach (bankPorts b) fun s n => s.silenceSource 0 n
  else s.setBank b { s.bank b with vioOk := false }

/-- A bank's rail has been inside its window for 10 ms (VIO_RESTORED, R93). -/
def execVioRestored (b : Fin 8) (s : State) : Res := .next <|
  let s1 := s.setBank b { s.bank b with vioOk := true, fault := false }
  if (s.bank b).fault then
    let s2 := s1.bankFlag b 1
    if (s.bank b).shed then s2 else s2.bankReturn b
  else s1

end Sys2Proof.Machine
end

