-- ==== Sys2Proof/Machine/Chisel.lean ====
section
/-! DEFINITION. The Chisel engines' machine model (07_chisel_machine.md): threads, the issue of an instruction, thread
faults and aborts, the queues of the dispatcher, and the address spaces. -/

namespace Sys2Proof.Machine

/-- Change the engines' record. -/
def State.modChs (s : State) (f : Chs → Chs) : State := { s with chs := f s.chs }
/-- Number of a thread. -/
def thrIdx (h : Thr) : Nat := 4 * h.e.val + h.t.val
/-- Thread k = 4e + t. -/
def State.thread (s : State) (k : Nat) : Thread := s.chs.threads.at {} k
/-- Write thread k. -/
def State.setThread (s : State) (k : Nat) (t : Thread) : State := s.modChs fun c => { c with threads := c.threads.put {} k t }
/-- Priority queue p. -/
def State.queue (s : State) (p : Nat) : List QEntry := s.chs.queues.at [] p
/-- Write priority queue p. -/
def State.setQueue (s : State) (p : Nat) (q : List QEntry) : State := s.modChs fun c => { c with queues := c.queues.put [] p q }

/-- Place an entry in a queue in order of stamp, behind equal stamps (R139). -/
def placeEntry (x : QEntry) : List QEntry → List QEntry
  | [] => [x]
  | y :: r => if x.stamp < y.stamp then x :: y :: r else y :: placeEntry x r

/-- Runs held by a thread: in progress and ahead. -/
def Thread.held (t : Thread) : List Run :=
  (match t.run with | some r => [r] | none => []) ++ (match t.ahead with | some r => [r] | none => [])

/-- Every dequeued entry. -/
def State.heldRuns (s : State) : List Run := s.chs.threads.flatMap (fun x => x.2.held)

/-- Flow f has a run in progress or an entry ahead (R139). -/
def State.flowRuns (s : State) (f : Nat) : Bool := s.heldRuns.any (fun r => r.entry.flow == f)

/-- Flow f has a run in progress, an entry ahead, or an entry in a queue: no further entry of it may be dispatched (R15, R139). -/
def State.flowBusy (s : State) (f : Nat) : Bool := s.flowRuns f || s.chs.queues.any (fun x => x.2.any (fun y => y.flow == f))

/-- An entry enters the queue of its priority, in order of stamp (R139). -/
def State.place (s : State) (x : QEntry) : State := s.setQueue x.prio (placeEntry x (s.queue x.prio))

/-- An entry waits outside the queues (R139). -/
def State.holdBack (s : State) (x : QEntry) : State := s.modChs fun c => { c with blocked := c.blocked ++ [x] }

/-- Entries of flow f in the queues that are stamped later than `stamp`, with their queue. -/
def State.laterQueued (s : State) (f stamp : Nat) : List (Nat × QEntry) :=
  s.chs.queues.flatMap fun x => (x.2.filter fun y => y.flow == f && decide (stamp < y.stamp)).map fun y => (x.1, y)

/-- An entry reaches the dispatcher. It enters its queue, or waits outside while its flow has a run or an entry before it; of the entries of
one flow the one stamped first stands in the queue (R15, R139). -/
def State.enqueue (s : State) (x : QEntry) : State :=
  if !s.flowBusy x.flow then s.place x
  else if s.flowRuns x.flow then s.holdBack x
  else
    match s.laterQueued x.flow x.stamp with
    | [] => s.holdBack x
    | (p, y) :: _ => ((s.setQueue p ((s.queue p).erase y)).holdBack y).place x

/-- The oldest waiting entry of a flow that is free again enters its queue (R15, R139). -/
def State.unblock (s : State) (f : Nat) : State :=
  if s.flowBusy f then s
  else
    match s.chs.blocked.filter (fun y => y.flow == f) with
    | [] => s
    | y0 :: r =>
      let y := r.foldl (fun a b => if b.stamp < a.stamp then b else a) y0
      let s1 := s.modChs fun c => { c with blocked := c.blocked.erase y }
      s1.place { y with prio := s.fPrio f }

/-- Copy of flow f's context made at dispatch (R149). -/
def State.ctxCopy (s : State) (f : Nat) : SMap (BitVec 8) :=
  (s.flw.ctx.filter (fun x => x.1 / 512 == f)).map (fun x => (x.1 % 512, x.2))

/-- BUDGET of a run; 0 selects 4,096 (R155). -/
def Run.budget (r : Run) : Nat := if r.ctx.le 0 0x28 2 = 0 then 4096 else r.ctx.le 0 0x28 2

/-- The run of a thread that waits for nothing (Table CHS-1). -/
def Thread.readyAt (t : Thread) (ns : Nat) : Option Run :=
  match t.run with
  | some r => if r.started && r.ending.isNone && t.waitUntil.isNone && decide (t.waitTick ≤ ns) then some r else none
  | none => none

/-- Sum of a list. -/
def sumList (l : List Nat) : Nat := l.foldl (· + ·) 0

/-- Bytes of a thread's emits that the egress store holds: the last one not, while it waits for room. -/
def Thread.emitBytes (t : Thread) : Nat :=
  match t.run with
  | some r => sumList ((if t.waitRoom then r.emits.dropLast else r.emits).map (·.bytes.length))
  | none => 0

/-- Bytes of a job in the egress store. -/
def PortJob.bytes (j : PortJob) : Nat :=
  match j.job with
  | .data b => b.length
  | .raw b => b.length
  | .serial _ b => b.length
  | .entry _ _ _ _ _ b => 32 + b.length
  | _ => j.len

/-- Bytes held in the egress store: emits of runs, jobs with their build buffers, staged sentences, host-queue entries (01_architecture.md Table
ARC-11, 08_chisel_instructions.md R181; DESIGN CHOICE, log entry 144). -/
def State.egrUsed (s : State) : Nat :=
  sumList (s.chs.threads.map (·.2.emitBytes)) +
    sumList (s.egr.ports.map (fun x => sumList ((x.2.jobs ++ x.2.granted.toList).map (·.bytes)))) +
    sumList (s.egr.stages.map (fun x => sumList (x.2.fifo.map (·.length)) + sumList (x.2.slots.map (·.2.length)) +
      (match x.2.cur with | some (b, m) => b.length - m | none => 0))) +
    sumList (s.egr.hqs.map (fun x => sumList (x.2.entries.map (fun e => 32 + e.data.length))))

/-- Room for n more bytes in the 2 MiB of the egress store. -/
def State.egrRoom (s : State) (n : Nat) : Bool := decide (s.egrUsed + n ≤ 2 ^ 21)

/-- The copy of thread k's last emit still waits for room in the egress store (R181). -/
def State.noRoom (s : State) (k : Nat) : Bool :=
  let t := s.thread k
  t.waitRoom && !s.egrRoom (match t.run with | some r => (r.emits.getLast?.map (·.bytes.length)).getD 0 | none => 0)

/-- The run of thread k, when the thread is READY (Table CHS-1). -/
def State.ready (s : State) (k : Nat) : Option Run := if s.noRoom k then none else (s.thread k).readyAt (s.tickAt 0)

/-- Thread k waits for no READY thread it has yielded to (08_chisel_instructions.md R183). -/
def State.yieldOver (s : State) (k : Nat) : Bool := s.chs.yields.all fun p => p.1 != k || (s.ready p.2).isNone

/-- Thread k is sure to be able to issue: it is READY, has not yielded, and does not wait for a late result (R137, R138; whether a thread
whose last instruction has a late result still waits for it depends on times that the model leaves out, log entry 138). -/
def State.surely (s : State) (k : Nat) : Bool := (s.ready k).isSome && s.yieldOver k && !s.chs.slow.contains k

/-- Round robin: no thread that is sure to be able to issue stands between the thread of the engine that issued last and thread k (R137). -/
def State.turn (s : State) (k : Nat) : Bool :=
  let l := s.chs.last.at 3 (k / 4)
  let n := (k % 4 + 3 - l) % 4
  (List.range n).all fun i => !s.surely (k / 4 * 4 + (l + 1 + i) % 4)

/-- The run of thread k, when its next instruction can issue (R137, R138). -/
def State.issuing (s : State) (k : Nat) : Option Run := if s.yieldOver k && s.turn k then s.ready k else none

/-- The word at the PC of thread k. -/
def State.fetched (s : State) (k : Nat) : Nat := (s.chs.prog.at 0 (s.thread k).pc).toNat

/-- Thread k has issued the word at its PC: it is the last of its engine, and no thread waits for it any more. -/
def State.issued (s : State) (k : Nat) : State :=
  let late := lateResult (s.fetched k)
  s.modChs fun c => { c with
    yields := c.yields.filter (fun p => p.2 != k)
    last := c.last.put 3 (k / 4) (k % 4)
    slow := c.slow.filter (fun x => x != k) ++ (if late then [k] else []) }

/-- Threads whose WAITT has reached its time wait no longer, whatever device time does afterwards (08_chisel_instructions.md R183). -/
def State.wakeThreads (s : State) : State :=
  let ended := fun (t : Thread) => match t.waitUntil with | some x => decide (x ≤ s.now) | none => false
  s.forEach ((s.chs.threads.filter (fun x => ended x.2)).map (·.1)) fun s k => s.setThread k { s.thread k with waitUntil := none }

/-- Sentence buffer cells of a sentence of so many bytes (05_sentences_checks.md R109). -/
def cellsOf (len : Nat) : Nat := (len + 255) / 256

/-- Cells by which a run has grown its sentence (R148). -/
def Run.grown (r : Run) : Nat := cellsOf r.sent.length - cellsOf r.entry.sent.data.length

/-- The thread leaves its run: its ahead entry is next (R141), else it is idle, or off where its engine is out of service
(Tables CHS-1, CHS-11). `kept` cells of its reserve have gone on with the sentence (R148). -/
def State.freeThread (s : State) (k : Nat) (kept : Nat := 0) : State :=
  let t := s.thread k
  (s.modChs fun c => { c with
      yields := c.yields.filter (fun p => p.1 != k && p.2 != k), slow := c.slow.filter (fun x => x != k) }).setThread k
    { t with run := t.ahead, ahead := none, waitUntil := none, waitTick := 0, waitRoom := false, reserve := t.reserve - kept,
             rest := if t.rest = .off then .off else .idle }

/-- An entry returns to the head of its priority queue (R142, R162). -/
def State.requeue (s : State) (x : QEntry) : State := s.setQueue x.prio (x :: s.queue x.prio)

/-- The entries ahead, and those dispatched and not yet started, that are selected by thread and run return to their
queues, the oldest foremost, and count AHEAD_RETURN (R141, R142). -/
def State.returnAhead (s : State) (p : Nat → Run → Bool) : State :=
  let sel := fun (k : Nat) (r : Run) => p k r && !r.started
  let back := s.chs.threads.flatMap fun (k, t) => (t.held.filter (sel k)).map (·.entry)
  let s1 := s.forEach (s.chs.threads.map (·.1)) fun s k =>
    let t := s.thread k
    let keep := t.held.filter (fun r => !sel k r)
    s.setThread k { t with
      run := keep.head?, ahead := (keep.drop 1).head?, rest := if keep = [] ∧ t.run ≠ none ∧ t.rest ≠ .off then .idle else t.rest }
  let s2 := (back.foldl (fun l x => placeEntry x l) []).reverse.foldl State.requeue s1
  s2.countN (R_CHS_GCNT 2) back.length

/-- Flow f went into QUARANTINED through its own run: an entry of it ahead cannot start (R142). -/
def State.returnQuarantined (s : State) (f : Nat) : State :=
  if s.fState f = 4 then s.returnAhead fun _ r => r.entry.flow == f else s

/-- FAULT_RUN counts one; at FAULT_LIMIT, unless that is 0, the flow is quarantined (R125 code 8). -/
def State.faultRun (s : State) (f : Nat) : State :=
  let n := s.fFaultRun f
  let s1 := s.setFctx f 0x54 1 (if n = 255 then Config.faultRunOver.toNat else n + 1)
  if s.fFaultLimit f ≠ 0 ∧ s.fFaultLimit f ≤ n + 1 then s1.fQuarantine f else s1

/-- A run ends without write-back: emits and sentence are discarded, flow counter c counts, FAULT_RUN counts, and the flow
is free again (Table CHS-9, R15). -/
def State.endWithout (s : State) (k : Nat) (r : Run) (c : Nat) : State :=
  ((((s.fCount r.entry.flow c).faultRun r.entry.flow).freeThread k).returnQuarantined r.entry.flow).unblock r.entry.flow

/-- A thread fault (R158, Table CHS-10). -/
def State.threadFault (s : State) (k : Nat) (r : Run) (code word addr imm : Nat) : State :=
  let w0 := code % 32 + k / 4 * 256 + k % 4 * 8192 + b1 r.entry.timer.isSome * 32768 + r.entry.flow % 8192 * 65536
  let s1 := s.setReg R_CHS_LFAULT0 (BitVec.ofNat 32 w0)
  let s2 := s1.setReg R_CHS_LFAULT1 (BitVec.ofNat 32 ((s.thread k).pc % 65536 + imm % 4096 * 65536))
  let s3 := (s2.setReg R_CHS_LFAULT2 (BitVec.ofNat 32 word)).setReg R_CHS_LFAULT3 (BitVec.ofNat 32 addr)
  ((s3.chsFlag 0).count (R_CHS_FCNT code)).endWithout k r 5

/-- A run is aborted by its budget or by the run limit (R155). -/
def State.abortRun (s : State) (k : Nat) (r : Run) (runtime : Bool) : State :=
  let s1 := if runtime then (s.chsFlag 2).count (R_CHS_GCNT 6) else (s.chsFlag 1).count (R_CHS_GCNT 5)
  s1.endWithout k r 6

/-- What an issued instruction does. -/
inductive Eff where
  /-- goes on at PC + 1 -/
  | next (s : State) (t : Thread)
  /-- goes on at another index -/
  | jump (t : Thread) (pc : Nat)
  /-- raises a thread fault: code of Table CHS-10, faulting address, IMM12 -/
  | fault (s : State) (code addr imm : Nat)
  /-- ends the run -/
  | stop (t : Thread) (e : Ending)

/-- The instruction index behind p (R144). -/
def nextPc (p : Nat) : Nat := (p + 1) % 65536

/-- Carry out an effect. -/
def State.settle (s : State) (k word : Nat) (r : Run) (e : Eff) : State :=
  match e with
  | .next s' t => s'.setThread k { t with pc := nextPc (s.thread k).pc }
  | .jump t pc => s.setThread k { t with pc := pc }
  | .fault s' code addr imm => s'.threadFault k r code word addr imm
  | .stop t e => s.setThread k { t with run := t.run.map fun x => { x with ending := some e } }

/-- Thread h issues the instruction at its PC, which is `word` with operands that are legal or not (R153, R155, R167): the budget first,
then the code range, then decoding, then the effect `f`. A thread that cannot issue does nothing, and neither does an instruction that is
not the one at PC (log entries 2 and 56). -/
def State.issue (s : State) (h : Thr) (word : Nat) (legal : Bool) (f : State → Thread → Run → Eff) : State :=
  let k := thrIdx h
  match s.issuing k with
  | none => s
  | some r =>
    if r.budget < r.issued + 1 then s.abortRun k r false
    else if s.CHS_PCODE_CODE_END ≤ (s.thread k).pc then s.threadFault k r 2 (s.fetched k) 0 0
    else
      let r1 := { r with issued := r.issued + 1 }
      let s1 := ((s.issued k).count (R_CHS_GCNT 7)).setThread k { s.thread k with run := some r1, waitRoom := false }
      if s.fetched k = word then
        if legal then s1.settle k word r1 (f s1 (s1.thread k) r1) else s1.threadFault k r1 1 word 0 0
      else if assigned (s.fetched k) then s
      else s1.threadFault k r1 1 (s.fetched k) 0 0

/-- An instruction whose only effect is on its thread. -/
def State.issueT (s : State) (h : Thr) (word : Nat) (legal : Bool) (f : Thread → Thread) : State :=
  s.issue h word legal fun s t _ => .next s (f t)

/-! Address spaces (R147 to R150, 08_chisel_instructions.md R172). -/

/-- The lowest fault of an access of n bytes at address a: space 0 sentence, 1 context, 2 local (Table CHS-5). -/
def accessFault (r : Run) (space : Nat) (a : Int) (n : Nat) (store : Bool) : Option Nat :=
  match space with
  | 0 => if a < 0 ∨ (if store then (r.sent.length : Int) else 4096) < a + n then some 3 else none
  | 1 =>
    if a < 0 ∨ 512 < a + n ∨ (store ∧ a < 0x140) then some 4
    else if a % (n : Int) ≠ 0 then some 6 else none
  | _ => if a < 0 ∨ 65536 < a + n then some 5 else if a % (n : Int) ≠ 0 then some 6 else none

/-- Words of the engine's local space that an access touches and that hold an uncorrectable error (18_protection_integrity.md
R376, store 4). -/
def State.localBad (s : State) (e a n : Nat) : List Nat :=
  ((List.range (n / 8 + 2)).map (fun i => 65536 * e / 8 + a / 8 + i)).filter
    (fun w => decide (8 * w < 65536 * e + a + n) && s.isBad 4 w)

/-- A use of such words: they read zero with good check bits, and the run ends as a FAULT instruction with IMM12 0xECC
(Table PRT-5 store 4). -/
def State.localRepair (s : State) (ws : List Nat) : State :=
  s.forEach ws fun s w =>
    let s1 := (s.eccUncorrectable 4 w).clearBad 4 w
    s1.modChs fun c => { c with loc := c.loc.setBytes 0 (8 * w) (List.replicate 8 0) }

/-- Bytes of a space. -/
def State.spaceBytes (s : State) (e : Nat) (r : Run) (space a n : Nat) : Bytes :=
  match space with
  | 0 => padTo n ((r.sent.drop a).take n)
  | 1 => r.ctx.bytes 0 a n
  | _ => s.chs.loc.bytes 0 (65536 * e + a) n

/-- Overwrite bytes of a list from position a. -/
def splice (l : Bytes) (a : Nat) (bs : Bytes) : Bytes := l.take a ++ bs ++ l.drop (a + bs.length)

/-- Change the thread's run. -/
def Thread.modRun (t : Thread) (f : Run → Run) : Thread := { t with run := t.run.map f }

/-- Store bytes into a space. -/
def State.spaceStore (s : State) (e : Nat) (t : Thread) (space a : Nat) (bs : Bytes) : State × Thread :=
  match space with
  | 0 => (s, t.modRun fun r => { r with sent := splice r.sent a bs })
  | 1 => (s, t.modRun fun r => { r with ctx := r.ctx.setBytes 0 a bs })
  | _ => (s.modChs fun c => { c with loc := c.loc.setBytes 0 (65536 * e + a) bs }, t)

/-- The exact address G[RA] + OFS (R172). -/
def addrOf14 (t : Thread) (x : OpsCE) : Int := (t.gr x.ra.toNat : Int) + sxt 14 x.ofs.toNat

/-- A load of n bytes: `k` takes them. -/
def State.loading (s : State) (h : Thr) (r : Run) (space : Nat) (a : Int) (n : Nat) (k : Bytes → Eff) : Eff :=
  match accessFault r space a n false with
  | some c => .fault s c (wrapI 32 a) 0
  | none =>
    let bad := if space = 2 then s.localBad h.e.val a.toNat n else []
    if bad ≠ [] then .fault (s.localRepair bad) 12 a.toNat 0xECC
    else k (s.spaceBytes h.e.val r space a.toNat n)

/-- A store of bytes. -/
def State.storing (s : State) (h : Thr) (t : Thread) (r : Run) (space : Nat) (a : Int) (bs : Bytes) : Eff :=
  match accessFault r space a bs.length true with
  | some c => .fault s c (wrapI 32 a) 0
  | none =>
    let bad := if space = 2 then s.localBad h.e.val a.toNat bs.length else []
    if bad ≠ [] then .fault (s.localRepair bad) 12 a.toNat 0xECC
    else
      let p := s.spaceStore h.e.val t space a.toNat bs
      .next p.1 p.2

end Sys2Proof.Machine
end

