-- ==== Sys2Proof/Machine/Float.lean ====
section
/-! DEFINITION. Binary32 arithmetic (08_chisel_instructions.md R171, IEEE 754): exact values as integers and ratios,
rounded once to nearest, ties to even, subnormals kept. -/

namespace Sys2Proof.Machine

/-- Sign bit. -/
def fNeg (a : Nat) : Bool := bitOf a 31
/-- Exponent field. -/
def fExp (a : Nat) : Nat := bits a 23 8
/-- Fraction field. -/
def fFrac (a : Nat) : Nat := bits a 0 23
def fIsNan (a : Nat) : Bool := fExp a == 255 && fFrac a != 0
def fIsInf (a : Nat) : Bool := fExp a == 255 && fFrac a == 0
def fIsZero (a : Nat) : Bool := a % 2 ^ 31 == 0
/-- Signalling NaN. -/
def fIsSnan (a : Nat) : Bool := fIsNan a && !bitOf a 22

/-- Finite value times 2^149, signed. -/
def fInt (a : Nat) : Int :=
  let m : Nat := if fExp a = 0 then fFrac a else (2 ^ 23 + fFrac a) * 2 ^ (fExp a - 1)
  if fNeg a then -(m : Int) else m

/-- The quiet NaN. -/
def fQnan : Nat := 0x7FC00000
/-- An infinity. -/
def fInf (neg : Bool) : Nat := b1 neg * 2 ^ 31 + 0x7F800000

/-- n / d rounded to nearest, ties to even. -/
def divRne (n d : Nat) : Nat :=
  let q := n / d
  let r := n % d
  if 2 * r < d then q else if d < 2 * r then q + 1 else q + q % 2

/-- Binary32 of magnitude n / d, d > 0, rounded to nearest, ties to even (R171). -/
def fRound (neg : Bool) (n d : Nat) : Nat :=
  let sign := b1 neg * 2 ^ 31
  if n = 0 then sign
  else
    -- 2^e ≤ n/d < 2^(e+1), with e = l or l − 1
    let l : Int := (Nat.log2 n : Int) - Nat.log2 d
    let big := if l ≥ 0 then decide (d * 2 ^ l.toNat ≤ n) else decide (d ≤ n * 2 ^ (-l).toNat)
    let e := if big then l else l - 1
    let q := max (e - 23) (-149)
    let m := if q ≥ 0 then divRne n (d * 2 ^ q.toNat) else divRne (n * 2 ^ (-q).toNat) d
    let v := (q + 149).toNat * 2 ^ 23 + m
    if 0x7F800000 ≤ v then fInf neg else sign + v

/-- Binary32 of an integer times 2^-k; an exact zero takes the sign given. -/
def fOfInt (i : Int) (k : Nat) (zeroNeg : Bool) : Nat :=
  if i = 0 then b1 zeroNeg * 2 ^ 31 else fRound (decide (i < 0)) i.natAbs (2 ^ k)

/-- The first operand that is a NaN, made quiet (R171). -/
def fPropagate : List Nat → Option Nat
  | [] => none
  | a :: r => if fIsNan a then some (a ||| 0x400000) else fPropagate r

/-- a + b (R171). -/
def fAdd (a b : Nat) : Nat :=
  match fPropagate [a, b] with
  | some n => n
  | none =>
    if fIsInf a then (if fIsInf b && fNeg a != fNeg b then fQnan else a)
    else if fIsInf b then b
    else fOfInt (fInt a + fInt b) 149 (fNeg a && fNeg b)

/-- Invert bit 31. -/
def fNegate (a : Nat) : Nat := (a ^^^ 0x80000000) % 2 ^ 32

/-- a − b; a NaN operand propagates as it stands. -/
def fSub (a b : Nat) : Nat := if fIsNan b then fAdd a b else fAdd a (fNegate b)

/-- a × b. -/
def fMul (a b : Nat) : Nat :=
  match fPropagate [a, b] with
  | some n => n
  | none =>
    let neg := fNeg a != fNeg b
    if fIsInf a || fIsInf b then (if fIsZero a || fIsZero b then fQnan else fInf neg)
    else if fIsZero a || fIsZero b then b1 neg * 2 ^ 31
    else fOfInt (fInt a * fInt b) 298 neg

/-- c + a × b, rounded once; operands in the order a, b, c (R171). -/
def fMac (a b c : Nat) : Nat :=
  match fPropagate [a, b, c] with
  | some n => n
  | none =>
    let neg := fNeg a != fNeg b
    if fIsInf a || fIsInf b then
      if fIsZero a || fIsZero b then fQnan
      else if fIsInf c && fNeg c != neg then fQnan
      else fInf neg
    else if fIsInf c then c
    else fOfInt (fInt a * fInt b + fInt c * 2 ^ 149) 298 (neg && fNeg c)

/-- Order key of a number that is not a NaN: infinities lie beyond every finite value. -/
def fKey (a : Nat) : Int := if fNeg a then -((a % 2 ^ 31 : Nat) : Int) else (a % 2 ^ 31 : Nat)

/-- a and b are equal, a is less, greater, or they are unordered (Table CHX-3). -/
def fCompare (a b : Nat) : Bool × Bool × Bool × Bool :=
  if fIsNan a || fIsNan b then (false, false, false, true)
  else (decide (fKey a = fKey b), decide (fKey a < fKey b), decide (fKey b < fKey a), false)

/-- minNum and maxNum (R171): a number is taken before a quiet NaN; `pick` decides between zeros of unlike sign. -/
def fMinMax (max : Bool) (pick : Bool) (a b : Nat) : Nat :=
  if fIsSnan a || fIsSnan b || (fIsNan a && fIsNan b) then (fPropagate [a, b]).getD fQnan
  else if fIsNan a then b
  else if fIsNan b then a
  else if fIsZero a && fIsZero b && a != b then (if pick then a else b)
  else if decide (fKey a < fKey b) == max then b else a

/-- Binary32 to a signed integer, to nearest, ties to even, saturating; a NaN gives 0x8000_0000 (R171). -/
def fToInt (a : Nat) : Nat :=
  if fIsNan a then 0x80000000
  else if fIsInf a then (if fNeg a then 0x80000000 else 0x7FFFFFFF)
  else
    let m := divRne (fInt a).natAbs (2 ^ 149)
    if fNeg a then (if 0x80000000 ≤ m then 0x80000000 else (2 ^ 32 - m) % 2 ^ 32)
    else if 0x7FFFFFFF < m then 0x7FFFFFFF else m

end Sys2Proof.Machine
end

