-- ==== Sys2Proof/Machine/Real.lean ====
section
/-! DEFINITION. Results that the spec gives to 2 ulp: square root, logarithm, arccosine, the conversions of phasors and of angles
(10_rate_conversion.md R215, 11_analysis_triggers.md R231, R232, R237, R239). Each is computed in fixed point to far more than binary32
holds; the result is the nearest binary32, or a free one within 2 ulp of the computed value (DESIGN CHOICE, log entry 34). -/

namespace Sys2Proof.Machine

/-- The binary32 with order key k; a zero takes the sign given. -/
def fOfKey (neg : Bool) (k : Int) : Nat := if k = 0 then b1 neg * 2 ^ 31 else if k < 0 then 2 ^ 31 + k.natAbs else k.natAbs

/-- A binary32 within 2 ulp of the value of magnitude n / d: `steps` steps from the nearest one where that lies within 2 ulp, else the nearest
one. -/
def fNear (steps : Int) (neg : Bool) (n d : Nat) : Nat :=
  let r := fRound neg n d
  let v := fOfKey neg (fKey r + steps)
  let ulp := 2 ^ (max (fExp r) 1 - 1)
  let y : Int := if neg then -(n : Int) else n
  if fExp r != 255 && fExp v != 255 && decide ((fInt v * d - y * 2 ^ 149).natAbs ≤ 2 * ulp * d) then v else r

/-- The free steps of function fn at its operands. -/
def fSteps (fn a b : Nat) : Int := Config.ulps fn (BitVec.ofNat 32 a) (BitVec.ofNat 32 b)

/-! Fixed point, in units of 2^-400. -/

/-- One. -/
def fxOne : Nat := 2 ^ 400

/-- Floor of the square root, bit by bit. -/
def isqrtFrom : Nat → Nat → Nat → Nat
  | 0, r, _ => r
  | b + 1, r, n => if (r + 2 ^ b) * (r + 2 ^ b) ≤ n then isqrtFrom b (r + 2 ^ b) n else isqrtFrom b r n

/-- z/k − z·w/(k + 2) + z·w²/(k + 4) − …, n terms: arctangent for w = z², inverse hyperbolic tangent for w = −z². -/
def oddSeries : Nat → Int → Int → Nat → Int
  | 0, _, _, _ => 0
  | n + 1, z, w, k => z / k - oddSeries n (z * w / fxOne) w (k + 2)

/-- Arctangent of z, 0 ≤ z ≤ 1, by two halvings of the angle and the series. -/
def fxAtan (z : Nat) : Int :=
  let half := fun (z : Nat) => z * fxOne / (fxOne + isqrtFrom 402 0 (fxOne * fxOne + z * z))
  let h := half (half z)
  4 * oddSeries 90 h ((h * h / fxOne : Nat) : Int) 1

/-- π. -/
def fxPi : Int := 4 * fxAtan fxOne

/-- Angle of the vector (x, y) in (−π, π]; 0 for the zero vector. -/
def fxAtan2 (y x : Int) : Int :=
  let ay := y.natAbs
  let ax := x.natAbs
  let a := if ay = 0 ∧ ax = 0 then 0 else if ay ≤ ax then fxAtan (ay * fxOne / ax) else fxPi / 2 - fxAtan (ax * fxOne / ay)
  let b := if x < 0 then fxPi - a else a
  if y < 0 then -b else b

/-- Natural logarithm of a number m in (1/2, 2). -/
def fxLnNear (m : Int) : Int :=
  let z := (m - fxOne) * fxOne / (m + fxOne)
  2 * oddSeries 130 z (-(z * z / fxOne)) 1

/-- Natural logarithm of n / d, both positive. -/
def fxLn (n d : Nat) : Int :=
  let e : Int := (Nat.log2 n : Int) - Nat.log2 d
  let m := if 0 ≤ e then n * fxOne / (d * 2 ^ e.toNat) else n * 2 ^ (-e).toNat * fxOne / d
  2 * e * oddSeries 130 (fxOne / 3 : Nat) (-(((fxOne / 3) * (fxOne / 3) / fxOne : Nat) : Int)) 1 + fxLnNear m

/-- t − t·w/(k(k + 1)) + …, n terms: cosine from t = 1, k = 1, sine from t = x, k = 2, with w = x². -/
def trigSeries : Nat → Int → Int → Nat → Int
  | 0, _, _, _ => 0
  | n + 1, t, w, k => t - trigSeries n (t * w / fxOne / (k * (k + 1))) w (k + 2)

/-- Cosine, or sine, of an angle of i / d. -/
def fxTrig (sine : Bool) (i : Int) (d : Nat) : Int :=
  let x := i * fxOne / d
  let r := x - (x + fxPi) / (2 * fxPi) * (2 * fxPi)
  if sine then trigSeries 64 r (r * r / fxOne) 2 else trigSeries 64 fxOne (r * r / fxOne) 1

/-! The functions. Operands that are NaN propagate and the rest follows IEEE 754 (08_chisel_instructions.md R171). -/

/-- A fixed-point value of 2^-q units as binary32 under the free steps. -/
def fxNear (steps : Int) (v : Int) (q : Nat) : Nat := fNear steps (decide (v < 0)) v.natAbs (2 ^ q)

/-- √a (R237, R239). -/
def fSqrt (a : Nat) : Nat :=
  match fPropagate [a] with
  | some n => n
  | none =>
    if fIsZero a then a else if fNeg a then fQnan else if fIsInf a then a
    else fxNear (fSteps 0 a 0) (isqrtFrom 265 0 ((fInt a).toNat * 2 ^ 251)) 200

/-- ln a (R239). -/
def fLn (a : Nat) : Nat :=
  match fPropagate [a] with
  | some n => n
  | none =>
    if fIsZero a then fInf true else if fNeg a then fQnan else if fIsInf a then a
    else fxNear (fSteps 1 a 0) (fxLn (fInt a).toNat (2 ^ 149)) 400

/-- arccos a (R239). -/
def fAcos (a : Nat) : Nat :=
  match fPropagate [a] with
  | some n => n
  | none =>
    let x := fInt a
    if fIsInf a ∨ 2 ^ 149 < x.natAbs then fQnan
    else fxNear (fSteps 2 a 0) (fxAtan2 (isqrtFrom 350 0 ((2 ^ 298 - x.natAbs * x.natAbs) * 2 ^ 400)) (x * 2 ^ 200)) 400

/-- √(x² + y²): magnitude of a rectangular phasor (Table ANA-1, R215). -/
def fHypot (fn x y : Nat) : Nat :=
  match fPropagate [x, y] with
  | some n => n
  | none =>
    if fIsInf x || fIsInf y then fInf false
    else
      let n := (fInt x).natAbs * (fInt x).natAbs + (fInt y).natAbs * (fInt y).natAbs
      fxNear (fSteps fn x y) (isqrtFrom 480 0 (n * 2 ^ 400)) 349

/-- atan2(y, x), in (−π, π] (R215, R232). -/
def fAtan2 (fn y x : Nat) : Nat :=
  match fPropagate [y, x] with
  | some n => n
  | none =>
    let far := fIsInf x || fIsInf y
    let unit := fun (a : Nat) => if far then (if fIsInf a then (if fNeg a then (-1 : Int) else 1) else 0) else fInt a
    fxNear (fSteps fn y x) (fxAtan2 (unit y) (unit x)) 400

/-- Degrees of an angle in radians (R232). -/
def fDegrees (a : Nat) : Nat :=
  match fPropagate [a] with
  | some n => n
  | none => if fIsInf a then a else fNear (fSteps 5 a 0) (fNeg a) ((fInt a).natAbs * 180 * fxOne) (2 ^ 149 * fxPi.toNat)

/-- Real part m·cos a, or imaginary part m·sin a, of a polar phasor (R215). -/
def fPolar (sine : Bool) (m a : Nat) : Nat :=
  match fPropagate [m, a] with
  | some n => n
  | none =>
    if fIsInf a then fQnan
    else
      let c := fxTrig sine (fInt a) (2 ^ 149)
      if fIsInf m then (if c = 0 then fQnan else fInf (fNeg m != decide (c < 0)))
      else fxNear (fSteps (if sine then 8 else 7) m a) (fInt m * c) 549

end Sys2Proof.Machine
end

