-- ==== Sys2Proof/Machine/Align.lean ====
section
/-! DEFINITION. Alignment domains, grids, the slot store, the quantile tracker, the release rule and what a release
delivers (09_alignment.md). What the store hands on goes to its outbox, which the step that filled it delivers. -/

namespace Sys2Proof.Machine

/-! Grids (R184, R185). -/

/-- Sets per second of a RATE code (Table ALN-1). -/
def gridRate (code : Nat) : Nat :=
  match code with
  | 0 => 10
  | 1 => 25
  | 2 => 30
  | 3 => 50
  | 4 => 60
  | 5 => 100
  | 6 => 120
  | 7 => 200
  | 8 => 240
  | c => Config.reservedRate c

/-- Grid point i of rate r, counted from the TAI epoch, in ns (R184). -/
def gridPt (r i : Nat) : Nat := i / r * nsPerSec + (2 * (i % r * nsPerSec) + r) / (2 * r)

/-- The last grid point at or before t. -/
def gridFloor (r t : Nat) : Nat :=
  let i := t / nsPerSec * r + t % nsPerSec * r / nsPerSec
  if gridPt r (i + 1) ≤ t then i + 1 else i

/-- The first grid point at or after t. -/
def gridCeil (r t : Nat) : Nat := if gridPt r (gridFloor r t) = t then gridFloor r t else gridFloor r t + 1

/-- The grid point nearest t; a tie goes to the earlier one. -/
def gridNear (r t : Nat) : Nat :=
  let i := gridFloor r t
  if gridPt r (i + 1) - t < t - gridPt r i then i + 1 else i

/-- The grid point within ±1,000 ns of a measurement time (R185). -/
def onGrid (r m : Nat) : Option Nat :=
  let i := gridNear r m
  if ((gridPt r i : Int) - (m : Int)).natAbs ≤ 1000 then some i else none

/-! Domains. -/

def State.modAln (s : State) (f : Aln → Aln) : State := { s with aln := f s.aln }
def State.dom (s : State) (d : Nat) : Dom := s.aln.doms.at {} d
def State.setDom (s : State) (d : Nat) (x : Dom) : State := s.modAln fun a => { a with doms := a.doms.put {} d x }
def State.hand (s : State) (h : Handed) : State := s.modAln fun a => { a with outbox := a.outbox ++ [h] }

/-- Rate of domain d's grid. -/
def State.rateOf (s : State) (d : Nat) : Nat := gridRate (s.ALN_DCFG_RATE d)
/-- W_max in ns. -/
def State.wMax (s : State) (d : Nat) : Nat := s.ALN_DWMAX_W_MAX_MS d * 1000000
/-- W_min in ns. -/
def State.wMin (s : State) (d : Nat) : Nat := s.ALN_DWMIN_W_MIN_US d * 1000
/-- M in ns. -/
def State.margin (s : State) (d : Nat) : Nat := s.ALN_DMARGIN_M_US d * 1000
/-- H_late in ns. -/
def State.hLate (s : State) (d : Nat) : Nat := s.ALN_DWMAX_H_LATE_MS d * 1000000
/-- All domains. -/
def domList : List Nat := List.range 16
/-- Count counter c of Table ALN-10 for domain d. -/
def State.dCount (s : State) (d c : Nat) : State := s.count (R_ALN_DCNT d c)

/-- Members of a domain, in order of flow number (R130, R197). -/
def State.members (s : State) (d : Nat) : List Nat := s.flowsUsed.filter (fun f => s.fMember f && s.fDomain f == d)

/-- The flow's interface is shed (R202, Table ALN-6). -/
def State.ifShed (s : State) (f : Nat) : Bool :=
  match (s.fSrc f).1 with
  | 0 => (s.bank ((s.fSrc f).2 / 12)).shed
  | 1 => (s.np (s.fSrc f).2).shed
  | _ => s.keyShed (s.fSrc f).2

/-- Excluded by a shed level: a flow of FL8 to FL15 from SHED1, P3 to P7 at SHED4 (R202). -/
def State.shedOut (s : State) (f : Nat) : Bool :=
  (decide (1 ≤ s.glb.shed) && s.fLaneEn f && decide (8 ≤ s.fLane f)) || (decide (s.glb.shed = 4) && decide (3 ≤ s.fPrio f))

/-- The release rule waits for the flow (R193). -/
def State.isWaited (s : State) (f : Nat) : Bool :=
  s.fRequired f && (s.fState f == 1 || s.fState f == 2) && !s.shedOut f

/-- Flows of domain d that are waited for. -/
def State.waitedOf (s : State) (d : Nat) : List Nat := (s.members d).filter s.isWaited

/-! FORMAT 4 records (R208, 14_armature_links.md Tables ARM-1 and R299). -/

/-- The record is a child domain's completion marker. -/
def Rec.isMarker (r : Rec) : Bool := (r.data.headD 0).toNat % 8 == 1
/-- The cell was resent at takeover. -/
def Rec.isResend (r : Rec) : Bool := bitOf ((r.data.drop 1).headD 0).toNat 4
/-- A marker reports its set PARTIAL. -/
def Rec.partialChild (r : Rec) : Bool := bitOf (beNat ((r.data.drop 26).take 2)) 0

/-- Record entries of a class 0 payload behind SET_TIME: flow and all bytes of each. -/
def fragEntries : Nat → Bytes → List (Nat × Bytes)
  | 0, _ => []
  | n + 1, bs =>
    if bs.length < 8 then []
    else
      let len := beNat ((bs.drop 2).take 2)
      let ofs := beNat ((bs.drop 4).take 2)
      let take := 8 + min (len - ofs) (bs.length - 8)
      (beNat (bs.take 2) % 8192, bs.take take) :: fragEntries n (bs.drop take)

/-- Entries of a fragment record. -/
def Rec.entries (r : Rec) : List (Nat × Bytes) := fragEntries r.data.length (r.data.drop 24)

/-- Flow f is present in a set: for FORMAT 4 by its marker only (R208). -/
def State.isPresent (s : State) (p : PSet) (f : Nat) : Bool :=
  p.recs.any (fun r => r.flow == f && (s.fFormat f != 4 || r.isMarker))

/-- Waited flows missing from a set. -/
def State.missingOf (s : State) (d : Nat) (p : PSet) : List Nat := (s.waitedOf d).filter (fun f => !s.isPresent p f)

/-! Slots (R186 to R188). -/

/-- Slots of a record of n bytes (R186). -/
def slotsFor (n : Nat) : Nat := if n ≤ 96 then 1 else 1 + (n - 96 + 119) / 120

/-- On-chip slots of a pending set. -/
def PSet.slotList (p : PSet) : List Nat := p.slots ++ p.recs.flatMap (·.slots)
/-- Slots a domain's late ring holds: its maps, and eight entries to a slot (R187). -/
def Dom.lateList (x : Dom) : List Nat := x.late.flatMap (·.slots) ++ x.ring
/-- Slots of a stream (R212). -/
def Stream.slotList (x : Stream) : List Nat := x.slot ++ x.hist.flatMap (·.slots)
/-- Stream slots held by lane l. -/
def State.laneSlots (s : State) (l : Nat) : List Nat := (s.rcl.lanes.at {} l).streams.flatMap (fun x => x.2.slotList)

/-- Every numbered slot in use. -/
def State.usedSlots (s : State) : List Nat :=
  s.aln.doms.flatMap (fun x => x.2.pend.flatMap (·.slotList) ++ x.2.lateList) ++
    s.rcl.lanes.flatMap (fun x => x.2.streams.flatMap (fun y => y.2.slotList))

/-- ALN_FREE (R187, R188). -/
def State.freeSlots (s : State) : Nat := 131072 - s.usedSlots.length

/-- Deep-store slots in use. -/
def State.usedDeep (s : State) : List Nat := s.aln.doms.flatMap (fun x => x.2.pend.flatMap (fun p => p.recs.flatMap (·.deep)))

/-- ALN_DSLOTS: slots held by the domain and by the streams of its lanes (R212, Table ALN-8). -/
def State.domSlots (s : State) (d : Nat) : Nat :=
  let x := s.dom d
  (x.pend.flatMap (·.slotList)).length + x.lateList.length +
    (((List.range 16).filter (fun l => s.RCV_LCFG_DOMAIN l == d)).flatMap s.laneSlots).length

/-- The n lowest numbers not in a list. -/
def freeNumbers (used : List Nat) : Nat → Nat → Nat → List Nat
  | 0, _, _ => []
  | _, _, 0 => []
  | fuel + 1, i, n + 1 =>
    if used.contains i then freeNumbers used fuel (i + 1) (n + 1) else i :: freeNumbers used fuel (i + 1) n

/-- The n lowest free numbers. -/
def pickFree (used : List Nat) (n : Nat) : List Nat := freeNumbers used (used.length + n + 1) 0 n

/-- Slots newly written hold good check bits. -/
def State.cleanSlots (s : State) (l : List Nat) : State :=
  { s with eccBad := s.eccBad.filter (fun x => !(x.1 == 0 && l.contains (x.2 / 16))) }

/-- DDR word at which deep-store slot n starts. -/
def State.deepWord (s : State) (n : Nat) : Nat := s.ALN_DEEPBASE_BASE_MIB * 131072 + 16 * n

/-- Deep-store slots newly written hold good check bits. -/
def State.cleanDeep (s : State) (l : List Nat) : State :=
  if l = [] then s
  else { s with eccBad := s.eccBad.filter (fun x => !(x.1 == 12 && l.any (fun n => s.deepWord n ≤ x.2 && x.2 < s.deepWord n + 16))) }

/-- No spill can take place: ALN_DEEPSTAT.SPILL_OFF (R188, Table ALN-9). -/
def State.spillOff (s : State) : Bool :=
  s.ALN_DEEPSIZE_SIZE_MIB == 0 || decide (3 ≤ s.glb.shed) || !s.hasDdr || !s.live

/-- Slots the deep store has. -/
def State.deepSize (s : State) : Nat := s.ALN_DEEPSIZE_SIZE_MIB * 8192

/-- SRAM bank b holds an occupied slot (01_architecture.md Table ARC-9). -/
def State.sramUsed (s : State) (b : Nat) : Bool := s.usedSlots.any (fun n => Config.slotBank n == b)

/-- A gated bank that takes a slot wakes (Table ARC-9). -/
def State.ungate (s : State) : State :=
  if s.aln.gated = [] then s else s.modAln fun a => { a with gated := a.gated.filter (fun b => !s.sramUsed b) }

/-- The late ring of domain d takes and frees slots for its entries (R187). -/
def State.fitRing (s : State) (d : Nat) : State :=
  let x := s.dom d
  let n := (x.late.length + 7) / 8
  if x.ring.length < n then
    let ns := pickFree s.usedSlots (n - x.ring.length)
    (s.cleanSlots ns).setDom d { x with ring := x.ring ++ ns }
  else if n < x.ring.length then s.setDom d { x with ring := x.ring.drop (x.ring.length - n) }
  else s

/-- FREE has changed: FREEMIN, and the start and stop of spill (R188). -/
def State.noteFree (s : State) : State :=
  let s := s.ungate
  let free := s.freeSlots
  let s1 := if free < s.ALN_FREEMIN_FREEMIN then s.setReg R_ALN_FREEMIN (BitVec.ofNat 32 free) else s
  if s1.spillOff then s1.modAln fun a => { a with spilling := false }
  else if !s1.aln.spilling && decide (free < s1.ALN_SPILLCFG_SPILL_LWM) then
    (s1.modAln fun a => { a with spilling := true }).alnFlag 2
  else if s1.aln.spilling && decide (s1.ALN_SPILLCFG_SPILL_LWM + 1024 < free) then
    s1.modAln fun a => { a with spilling := false }
  else s1

/-! The latency histogram and the quantile tracker (R132, R192). -/

/-- E_j rounded to the nearest ns: 16 µs × 2^(j/2) (R132, R192). -/
def edge (j : Nat) : Nat :=
  let n := 16000 * 16000 * 2 ^ j
  let r := isqrtFrom 40 0 n
  if r * r + r < n then r + 1 else r

/-- Bin of a latency in ns. -/
def binOf (lat : Int) : Nat :=
  if lat < 0 then 0
  else ((List.range 31).filter (fun k => decide (16000 * 16000 * 2 ^ (k + 1) ≤ lat.toNat * lat.toNat))).length

/-- Bin k of flow f. -/
def State.bin (s : State) (f k : Nat) : Nat := s.fctx f (0x60 + 4 * k) 4

/-- L_q from the bins (R192). -/
def lqFrom (tailw : Nat) : Nat → Nat → List Nat → Nat
  | _, _, [] => 0xFFFFFFFF
  | k, above, b :: r => if tailw < above + b then (if k = 31 then 0xFFFFFFFF else edge (k + 1)) else lqFrom tailw (k - 1) (above + b) r

/-- L_q of flow f under the tail fraction of its domain (R192). -/
def State.quantile (s : State) (f : Nat) : Nat :=
  let bins := (List.range 32).map (s.bin f)
  let total := bins.foldl (· + ·) 0
  if total = 0 then 0xFFFFFFFF else lqFrom (total * s.ALN_DTAIL_TAIL (s.fDomain f) / 2 ^ 24) 31 0 bins.reverse

/-- One latency sample: every bin ages, the sample's bin grows, L_q follows (R132, R192). -/
def State.addSample (s : State) (f : Nat) (lat : Int) : State :=
  let hl := s.fHalfLife f
  let s1 := s.forEach (List.range 32) fun s k =>
    s.setFctx f (0x60 + 4 * k) 4 (s.bin f k - s.bin f k / 2 ^ hl + (if k = binOf lat then 2 ^ (31 - hl) else 0))
  s1.setFctx f 0x58 4 (s1.quantile f)

/-- The sample of an accepted record, when its STEP_COUNT is the present one (R65, R191). -/
def State.sampleOf (s : State) (r : Rec) : State :=
  if r.step = s.tim.step ∧ (s.fFormat r.flow ≠ 4 ∨ r.isMarker) then s.addSample r.flow ((r.stamp : Int) - r.mt) else s

/-! Release (R193 to R199). -/

/-- A word of an on-chip slot holds an uncorrectable error (18_protection_integrity.md store 0: 16 words to a slot). -/
def State.slotBad (s : State) (l : List Nat) : Bool :=
  l.any (fun n => (List.range 16).any (fun i => s.isBad 0 (16 * n + i)))

/-- A word of a deep-store slot holds an uncorrectable error (store 12, DDR). -/
def State.deepBad (s : State) (l : List Nat) : Bool :=
  l.any (fun n => (List.range 16).any (fun i => s.isBad 12 (s.deepWord n + i)))

/-- The record cannot be read (R203). -/
def State.recLost (s : State) (r : Rec) : Bool := r.lost || s.slotBad r.slots || s.deepBad r.deep

/-- The member entry of flow f in a set of domain d (R198, Table ALN-6). -/
def State.memberOf (s : State) (p : PSet) (f : Nat) (mapBad : Bool) : Member :=
  let rs := p.recs.filter (fun r => r.flow == f)
  let pres := s.isPresent p f
  let req := s.fRequired f
  let wtd := s.isWaited f
  let dead := rs.any s.recLost
  { flow := f
    present := pres
    required := req
    waited := wtd
    whyNot := if req && !wtd && (s.shedOut f || (s.fState f == 3 && s.ifShed f)) then 1 else 0
    incomplete := s.fFormat f == 4 && !pres && rs != []
    childPartial := s.fFormat f == 4 && rs.any (fun r => r.isMarker && r.partialChild)
    lost := dead || (mapBad && rs.all s.recLost)
    stepOld := rs.any (fun r => r.step != s.tim.step)
    recs := rs.map (fun r => if s.recLost r then { r with data := [], lost := true } else r) }

/-- Insert a flow number in a rising list that lacks it. -/
def insertFlow (f : Nat) : List Nat → List Nat
  | [] => [f]
  | g :: r => if f < g then f :: g :: r else if f = g then g :: r else g :: insertFlow f r

/-- Flows with an entry in a set: the members, and flows that hold a record though they left the domain (R197, R206). -/
def State.entryFlows (s : State) (d : Nat) (p : PSet) : List Nat :=
  p.recs.foldl (fun fs r => insertFlow r.flow fs) (s.members d)

/-- The released set made of pending set p (R197). -/
def State.relSet (s : State) (d : Nat) (p : PSet) (cause : Nat) : RelSet :=
  let mapBad := s.slotBad p.slots
  let fs := s.entryFlows d p
  let ms := fs.map (fun f => s.memberOf p f mapBad)
  let wtd := (ms.filter (·.waited)).length
  let miss := (ms.filter (fun m => m.waited && !m.present)).length
  { dom := d, t := p.t, rel := s.now, cause := cause
    partialSet := decide (0 < miss)
    empty := p.recs == []
    spilled := p.spilled || p.recs.any (fun r => r.deep != [])
    lost := ms.any (·.lost)
    stepMix := ms.any (·.stepOld)
    quality := s.tim.quality, waited := wtd, missing := miss, members := ms, step := s.tim.step
    prev := (s.dom d).lastSet, number := (s.dom d).released }

/-- The member entry in the form of Table ALN-6 (R198). -/
def Member.entry (m : Member) : Nat :=
  m.flow % 8192 + b1 m.present * 2 ^ 13 + b1 m.required * 2 ^ 14 + b1 m.waited * 2 ^ 15 + m.whyNot % 4 * 2 ^ 16 +
    b1 (m.recs.any (·.settle)) * 2 ^ 18 + b1 (m.recs.any (·.resampled)) * 2 ^ 19 + b1 (m.recs.any (·.noisy)) * 2 ^ 20 +
    b1 m.incomplete * 2 ^ 21 + b1 m.childPartial * 2 ^ 22 + b1 m.lost * 2 ^ 23 + b1 m.stepOld * 2 ^ 24

/-- FLAGS of the released-set header (Table ALN-5). -/
def RelSet.flags (x : RelSet) : Nat :=
  b1 x.partialSet + 2 * b1 x.empty + 4 * b1 x.spilled + 8 * b1 x.lost + 16 * b1 x.stepMix

/-- Members with a record. -/
def RelSet.presentCount (x : RelSet) : Nat := (x.members.filter (·.present)).length

/-- The 32-byte released-set header (R197, Table ALN-5). -/
def RelSet.header (x : RelSet) : Bytes :=
  leBytes 8 (dev64 x.t) ++ leBytes 8 (dev64 x.rel) ++ leBytes 1 x.dom ++ leBytes 1 x.cause ++ leBytes 2 x.flags ++
    leBytes 1 x.quality ++ [0] ++ leBytes 2 x.members.length ++ leBytes 2 x.waited ++ leBytes 2 x.missing ++
    leBytes 2 x.presentCount ++ leBytes 2 (x.members.filter (fun m => m.present && !m.waited)).length

/-- Hand on a released set: counters, flags, MISSING of the flows, the late ring, the completion marker, and the cursor
(R195 to R199, R207). A set that was forced out before it had a descriptor and a map leaves no late-ring entry (DESIGN CHOICE, log entry
140). -/
def State.handSet (s : State) (x : RelSet) (slots : List Nat) : State :=
  let d := x.dom
  let s1 := ((s.dCount d 0).dCount d (x.cause + 1)).when x.partialSet fun s => (s.dCount d 9).alnFlag 0
  let s2 := s1.when x.empty fun s => s.dCount d 10
  let s3 := s2.forEach ((x.members.filter (fun m => m.required && !m.present)).map (·.flow)) fun s f => s.fCount f 15
  let s4 := s3.forEach ((x.members.filter (·.lost)).map (·.flow)) fun s _ => (s.dCount d 19).alnFlag 4
  let dm := s4.dom d
  let ring := if s4.hLate d = 0 ∨ slots = [] then dm.late
    else dm.late ++ [⟨x.t, x.rel, x.quality, (x.members.filter (·.present)).map (·.flow), slots.drop 1⟩]
  let s5 := s4.setDom d { dm with
    pend := dm.pend.filter (fun p => p.t != x.t), late := ring, lastCause := x.cause, lastPartial := x.partialSet,
    lastDelay := min 0xFFFFFFFF ((x.rel - x.t) / 1000), waited := x.waited,
    lastSet := some x.t, released := dm.released + 1,
    cursor := max dm.cursor (gridPt (s4.rateOf d) (gridFloor (s4.rateOf d) x.t + 1)) }
  let s6 := (s5.fitRing d).hand (.set x)
  (if s6.ALN_DCFG_STREAM_UP d = 1 ∧ s6.outOn then s6.hand (.marker x) else s6).noteFree

/-- Release pending set p of domain d. -/
def State.releaseSet (s : State) (d : Nat) (p : PSet) (cause : Nat) : State := s.handSet (s.relSet d p cause) p.slots

/-- Descriptor and presence-map slots of a new set of domain d (R187). -/
def State.setSlots (s : State) (d : Nat) : Nat := 1 + ((s.members d).length + 1023) / 1024

/-- Insert a set in set-time order. -/
def insertSet (p : PSet) : List PSet → List PSet
  | [] => [p]
  | q :: r => if p.t < q.t then p :: q :: r else q :: insertSet p r

/-- The pending set at t. -/
def Dom.setAt (x : Dom) (t : Nat) : Option PSet := x.pend.find? (fun p => p.t == t)
/-- Replace a pending set. -/
def State.putSet (s : State) (d : Nat) (p : PSet) : State :=
  s.setDom d { s.dom d with pend := (s.dom d).pend.map (fun q => if q.t = p.t then p else q) }

/-- The n slots are free on chip (and `deep` in the deep store). -/
def State.roomFor (s : State) (n deep : Nat) : Bool :=
  decide (n ≤ s.freeSlots) && (deep == 0 || decide (deep + s.usedDeep.length ≤ s.deepSize))

/-- Open the set at t with the slots of its descriptor and map where they are free, else with none (R187). -/
def State.openBare (s : State) (d t : Nat) : State :=
  let ns := if s.roomFor (s.setSlots d) 0 then pickFree s.usedSlots (s.setSlots d) else []
  ((s.cleanSlots ns).setDom d { s.dom d with pend := insertSet { t := t, slots := ns } (s.dom d).pend }).noteFree

/-- Release the set at t with a cause, opening it first where it is not open: EMPTY then (R190, R204). -/
def State.releaseAt (s : State) (d t cause : Nat) : State :=
  let s1 := if ((s.dom d).setAt t).isNone then s.openBare d t else s
  match (s1.dom d).setAt t with
  | some p => s1.releaseSet d p cause
  | none => s1

/-- FORCED release of the set at t, behind every grid point from the domain's cursor up to it (R190). -/
def State.forceSet (s : State) (d t : Nat) : State :=
  let r := s.rateOf d
  let lo := gridCeil r (s.dom d).cursor
  let hi := gridFloor r t
  s.forEach ((List.range (hi + 1 - lo)).map (fun i => gridPt r (lo + i))) fun s t => (s.releaseAt d t 4).alnFlag 1

/-- The pending set with the earliest t + W_max(d), the lower-numbered domain on a tie (R190). -/
def State.forceVictim (s : State) : Option (Nat × PSet) :=
  (domList.filterMap (fun d => ((s.dom d).pend.head?).map (fun p => (d, p)))).foldl
    (fun (a : Option (Nat × PSet)) (x : Nat × PSet) =>
      match a with
      | none => some x
      | some y => if x.2.t + s.wMax x.1 < y.2.t + s.wMax y.1 then some x else some y) none

/-- The domain whose late ring holds the oldest REL_TIME. -/
def State.oldestLate (s : State) : Option (Nat × Nat) :=
  (domList.filterMap (fun d => ((s.dom d).late.head?).map (fun e => (d, e.rel)))).foldl
    (fun (a : Option (Nat × Nat)) (x : Nat × Nat) =>
      match a with
      | none => some x
      | some y => if x.2 < y.2 then some x else some y) none

/-- Make room until n on-chip slots (and `deep` deep-store slots) are free (R190): forced releases, then freed late-ring
entries. `own` is a set that shall be filled or opened: a release that would take it with it does not happen here; the answer is then the
set time of that release. -/
def State.makeRoom : Nat → State → Nat → Nat → Option (Nat × Nat) → State × Option Nat
  | 0, s, _, _, _ => (s, none)
  | fuel + 1, s, n, deep, own =>
    if s.roomFor n deep then (s, none)
    else
      let s0 := if deep ≠ 0 ∧ s.deepSize < deep + s.usedDeep.length then s.alnFlag 3 else s
      match s0.forceVictim with
      | some (d, p) =>
        if own.any (fun o => o.1 == d && decide (o.2 ≤ p.t)) then (s0, some p.t) else State.makeRoom fuel (s0.forceSet d p.t) n deep own
      | none =>
        match s0.oldestLate with
        | some (d, _) =>
          State.makeRoom fuel (((s0.setDom d { s0.dom d with late := (s0.dom d).late.drop 1 }).fitRing d).noteFree) n deep own
        | none => (s0, none)

/-- Enough rounds for `makeRoom`. -/
def State.roomFuel (s : State) : Nat :=
  (s.aln.doms.map (fun x => x.2.pend.length + x.2.late.length)).foldl (· + ·) 2 +
    (domList.map (fun d => match (s.dom d).pend.getLast? with
      | some p => gridFloor (s.rateOf d) p.t - gridFloor (s.rateOf d) (s.dom d).cursor + 1
      | none => 0)).foldl (· + ·) 0

/-- What became of an attempt to place something in a set. -/
inductive Fit where
  /-- it is in its place -/
  | placed
  /-- its own set was forced out, with it -/
  | forced
  /-- there is no room at all -/
  | full
  deriving DecidableEq, Repr

/-- What a record that joins a set under row 5 of Table ALN-2 does: RECORDS, its latency sample, its fragment (R191, R207). -/
def State.joined (s : State) (d t : Nat) (r : Rec) : State :=
  let s1 := (s.dCount d 12).sampleOf r
  if s1.ALN_DCFG_STREAM_UP d = 1 ∧ s1.outOn then s1.hand (.fragment d t false false r) else s1

/-- The set at t is forced out by the release of the set at `upto`; a record that wants to join it is placed first and is part of it
(R190). -/
def State.forceOwn (s : State) (d t upto : Nat) (r? : Option Rec) : State :=
  match r? with
  | none => s.forceSet d upto
  | some r =>
    let s1 := if ((s.dom d).setAt t).isNone then s.openBare d t else s
    match (s1.dom d).setAt t with
    | some p => ((s1.putSet d { p with recs := p.recs ++ [r] }).joined d t r).forceSet d upto
    | none => s1

/-- Open the pending set at t, which is not open, for a record or for the cursor (R187, R190, R196): a 1,025th set first releases the
oldest as FORCED. -/
def State.openSet (s : State) (d t : Nat) (r? : Option Rec) : State × Fit :=
  let late := ((s.dom d).pend.head?.map (·.t)).filter (fun _ => decide (1024 ≤ (s.dom d).pend.length))
  match late.filter (fun u => decide (t ≤ u)) with
  | some u => (s.forceOwn d t u r?, .forced)
  | none =>
    let s1 := match late with
      | some u => s.forceSet d u
      | none => s
    let n := s1.setSlots d
    let (s2, own) := s1.makeRoom s1.roomFuel n 0 (some (d, t))
    match own with
    | some u => (s2.forceOwn d t u r?, .forced)
    | none => if s2.roomFor n 0 then (s2.openBare d t, .placed) else (s2, .full)

/-- Deadline of a waited flow (R193). -/
def State.deadline (s : State) (d t f : Nat) : Nat :=
  if s.fState f = 1 ∨ s.fLq f = 0xFFFFFFFF then t + s.wMax d else min (t + s.fLq f + s.margin d) (t + s.wMax d)

/-- The cause with which the set can be released now (R193, Table ALN-4). -/
def State.releaseCause (s : State) (d : Nat) (p : PSet) : Option Nat :=
  let miss := s.missingOf d p
  if s.slotBad p.slots then some 4
  else if miss = [] ∧ p.t + s.wMin d ≤ s.now then some 0
  else if miss ≠ [] ∧ miss.all (fun f => decide (s.deadline d p.t f ≤ s.now)) then
    some (if s.now < p.t + s.wMax d then 1 else 2)
  else if p.t + s.wMax d ≤ s.now then some 2
  else none

/-- Evaluate domain d (R193, R194): the set at the cursor opens when device time reaches it; sets are released in order. A
set with spilled records waits for its read-back (R189). A standby releases only by mirror (R204). -/
def State.evaluate : Nat → State → Nat → State
  | 0, s, _ => s
  | fuel + 1, s, d =>
    if !(s.dom d).started then s
    else
      let c := (s.dom d).cursor
      let (s1, fit) := if ((s.dom d).setAt c).isNone && decide (c ≤ s.now) then s.openSet d c none else (s, .placed)
      let s2 := s1.setDom d { s1.dom d with waited := (s1.waitedOf d).length }
      if fit = .forced then State.evaluate fuel s2 d
      else
        match (s2.dom d).setAt (s2.dom d).cursor with
        | none => s2
        | some p =>
          if s2.glb.mode = .standby ∨ p.recs.any (fun r => r.deep != []) then s2
          else
            match s2.releaseCause d p with
            | none => s2
            | some cause => State.evaluate fuel ((s2.releaseSet d p cause).when (cause == 4) fun s => s.alnFlag 1) d

/-- Enough rounds for an evaluation. -/
def State.evalFuel (s : State) (d : Nat) : Nat :=
  (s.now - (s.dom d).cursor) * (s.rateOf d) / nsPerSec + (s.dom d).pend.length + 3

def State.evalDomain (s : State) (d : Nat) : State := s.evaluate (s.evalFuel d) d

/-- A domain starts: its cursor is the first grid point at or after device time − W_max (R196). -/
def State.startDomain (s : State) (d : Nat) : State :=
  if s.ALN_DCFG_ENABLE d = 1 then
    s.setDom d { s.dom d with started := true, cursor := gridPt (s.rateOf d) (gridCeil (s.rateOf d) (s.now - s.wMax d)) }
  else s

/-- Release every pending set of a domain in order with a cause, and clear its late ring (R201, R206). -/
def State.flushDomain (s : State) (d cause : Nat) : State :=
  let s1 := s.forEach ((s.dom d).pend.map (·.t)) fun s t =>
    match (s.dom d).setAt t with
    | some p => s.releaseSet d p cause
    | none => s
  (s1.setDom d { s1.dom d with late := [], ring := [] }).noteFree

/-- A time step at one domain (R201). -/
def State.stepDomain (s : State) (d : Nat) : State :=
  if !(s.dom d).started then s
  else
    let r := s.rateOf d
    let was := gridFloor r (s.dom d).cursor
    let n := (s.dom d).pend.length
    let s1 := (s.flushDomain d 3).alnFlag 7
    let nxt := max (gridFloor r (s1.dom d).cursor) (gridCeil r (s1.now - s1.wMax d))
    let skipped := nxt - was - n
    let s2 := s1.setDom d { s1.dom d with cursor := gridPt r nxt }
    if skipped = 0 then s2 else (s2.countN (R_ALN_DCNT d 11) skipped).alnFlag 8

/-- Record i of the set at t comes back on chip, once there is room for it (R189, R190); when the release that makes room is that of
the set itself, the set goes with the record still in the deep store (DESIGN CHOICE, log entry 140). -/
def State.recBack (s : State) (d t i : Nat) : State :=
  match ((s.dom d).setAt t).bind (fun p => p.recs[i]?) with
  | none => s
  | some r =>
    if r.deep = [] then s
    else
      let n := r.deep.length
      let (s1, own) := s.makeRoom s.roomFuel n 0 (some (d, t))
      match own with
      | some u => s1.forceSet d u
      | none =>
        if !s1.roomFor n 0 then s1
        else
          let ns := pickFree s1.usedSlots n
          let back : Rec := { r with slots := ns, deep := [], lost := r.lost || s1.deepBad r.deep }
          match (s1.dom d).setAt t with
          | some p => ((s1.cleanSlots ns).putSet d { p with spilled := true, recs := p.recs.set i back }).noteFree
          | none => s1

/-- The spilled records of the set at t come back on chip (R189, R202). -/
def State.bringBack (s : State) (d t : Nat) : State :=
  match (s.dom d).setAt t with
  | some p => s.forEach (List.range p.recs.length) fun s i => s.recBack d t i
  | none => s

/-- Entry to SHED3: sets with spilled records are read back; one that is then incomplete is released with every older set
of its domain (R202). -/
def State.shed3Domain (s : State) (d : Nat) : State :=
  let spilt := ((s.dom d).pend.filter (fun p => p.recs.any (fun r => r.deep != []))).map (·.t)
  let s1 := s.forEach spilt fun s t => s.bringBack d t
  let hit := spilt.filter (fun t => ((s1.dom d).setAt t).any (fun p => s1.missingOf d p != []))
  let last := hit.foldl max 0
  let go := if hit = [] then [] else ((s1.dom d).pend.map (·.t)).filter (fun t => decide (t ≤ last))
  (s1.forEach go fun s t => s.releaseAt d t 5).noteFree

/-- The mirror releases the set at t, opened first where need be (R204); a set that the forced releases of its opening took is released
already. -/
def State.mirrorSet (s : State) (d t : Nat) : State :=
  let s1 := if ((s.dom d).setAt t).isNone && decide ((s.dom d).cursor ≤ t) then (s.makeRoom s.roomFuel (s.setSlots d) 0 (some (d, t))).1 else s
  if t < (s1.dom d).cursor then s1 else s1.releaseAt d t 7

/-- The mirrored release cursor of the active side reaches c (R204): every set before it is released, opened first where
need be. -/
def State.mirrorTo (s : State) (d c : Nat) : State :=
  let r := s.rateOf d
  if !(s.dom d).started ∨ s.glb.mode ≠ .standby ∨ c ≤ (s.dom d).cursor then s
  else
    let lo := gridCeil r (s.dom d).cursor
    let hi := gridCeil r c
    let s1 := s.forEach ((List.range (hi - lo)).map (fun i => gridPt r (lo + i))) fun s t => s.mirrorSet d t
    s1.setDom d { s1.dom d with cursor := max (s1.dom d).cursor c }

/-! Store input (R191). -/

/-- Place a record in the pending set at t of domain d (R186, R188, R190). -/
def State.joinSet (s : State) (d t : Nat) (r : Rec) : State × Fit :=
  let n := slotsFor r.data.length
  let deepWanted := !s.spillOff && ((s.aln.spilling && decide (3 ≤ s.fPrio r.flow)) || decide (s.freeSlots < s.ALN_RESERVE_RESERVE))
  let need := if deepWanted then (0, n) else (n, 0)
  let (s1, own) := s.makeRoom s.roomFuel need.1 need.2 (some (d, t))
  match own, (s1.dom d).setAt t with
  | some u, _ => (s1.forceOwn d t u (some r), .forced)
  | none, none => (s1, .full)
  | none, some p =>
    if s1.roomFor need.1 need.2 then
      let r' := if deepWanted then { r with deep := pickFree s1.usedDeep n } else { r with slots := pickFree s1.usedSlots n }
      let s2 := ((s1.cleanSlots r'.slots).cleanDeep r'.deep).putSet d { p with recs := p.recs ++ [r'], spilled := p.spilled || deepWanted }
      (((s2.when deepWanted fun s => s.dCount d 18).noteFree).joined d t r, .placed)
    else (s1, .full)

/-- Drop the RESEND entries whose child flows are held in the set already (14_armature_links.md R300); none left: no record. -/
def dropResent (p : Option PSet) (r : Rec) : Option Rec × Nat :=
  if r.isMarker ∨ !r.isResend then (some r, 0)
  else
    let held := match p with
      | some p => (p.recs.filter (fun (q : Rec) => q.flow == r.flow && !q.isMarker)).flatMap (fun (q : Rec) => (Rec.entries q).map (fun (e : Nat × Bytes) => e.1))
      | none => []
    let keep := r.entries.filter (fun e => !held.contains e.1)
    let gone := r.entries.length - keep.length
    if gone = 0 then (some r, 0)
    else if keep = [] then (none, gone)
    else
      let body := (r.data.drop 16).take 8 ++ keep.flatMap (·.2)
      (some { r with data := splice2 r.data 12 (beBytes 2 body.length) ++ body }, gone)
where
  /-- the 16-byte cell header with LEN rewritten -/
  splice2 (l : Bytes) (a : Nat) (bs : Bytes) : Bytes := (l.take a ++ bs ++ l.drop (a + bs.length)).take 16

/-- A late supplement (R199). -/
def State.supplement (s : State) (d : Nat) (e : LateEnt) (r : Rec) : State :=
  let s1 := (s.fCount r.flow 12).dCount d 13
  let mark := s.fFormat r.flow ≠ 4 ∨ r.isMarker
  let s2 := if mark then
      s1.setDom d { s1.dom d with late := (s1.dom d).late.map (fun x => if x.t = e.t then { x with present := x.present ++ [r.flow] } else x) }
    else s1
  let s3 := (s2.hand (.late d e.t e.quality r)).sampleOf r
  if s3.ALN_DCFG_STREAM_UP d = 1 ∧ s3.outOn then s3.hand (.fragment d e.t true false r) else s3

/-- One record at the store input, judged by Table ALN-2 (R191). False: the store holds its input. -/
def State.takeRecord (s : State) (r : Rec) : State × Bool :=
  let f := r.flow
  let d := s.fDomain f
  let fmt4 := s.fFormat f = 4
  if !s.fMember f || s.ALN_DCFG_ENABLE d != 1 || !(s.dom d).started then (s.fCount f 4, true)
  else
    match onGrid (s.rateOf d) r.mt with
    | none => ((s.dCount d 17).alnFlag 9, true)
    | some i =>
      let t := gridPt (s.rateOf d) i
      let p := (s.dom d).setAt t
      if s.now + nsPerSec < r.mt then (((s.fCount f 11).dCount d 15).alnFlag 6, true)
      else
        let dupTest := !decide fmt4 || r.isMarker
        if dupTest && (match p with | some p => s.isPresent p f | none => false) then ((s.dCount d 16).alnFlag 10, true)
        else if p.isSome || decide ((s.dom d).cursor ≤ t) then
          let (r1, gone) := if fmt4 then dropResent p r else (some r, 0)
          let dups := fun (s : State) => s.forEach (List.range gone) fun s _ => (s.dCount d 16).alnFlag 10
          match r1 with
          | none => (dups s, true)
          | some r1 =>
            let (s1, fit1) := if p.isSome then (s, .placed) else s.openSet d t (some r1)
            let (s2, fit2) := if fit1 = .placed then s1.joinSet d t r1 else (s1, fit1)
            if fit2 = .full then (s2, false) else ((dups s2).evalDomain d, true)
        else
          match (s.dom d).late.find? (fun e => e.t == t) with
          | some e =>
            if dupTest && e.present.contains f then ((s.dCount d 16).alnFlag 10, true) else (s.supplement d e r, true)
          | none => (((s.fCount f 10).dCount d 14).alnFlag 5, true)

/-- The store takes the record at the head of its input (STORE_INPUT, R191), whose trailer it verifies first (01_architecture.md R17); a
record that finds no room stays there (R190). -/
def State.storeInput (s : State) : State :=
  match s.live, s.aln.inQ with
  | true, r :: rest =>
    let s1 := s.modAln fun a => { a with inQ := rest }
    if !s.goodRec r then s1.fCount r.flow 7
    else
      match s1.takeRecord r with
      | (s2, true) => s2
      | (s2, false) => s2.modAln fun a => { a with inQ := r :: a.inQ }
  | _, _ => s

/-- The read-back of the oldest pending set of domain d is complete (READ_BACK_DONE, R189, R203). -/
def State.readBack (s : State) (d : Nat) : State :=
  match (s.dom d).pend.head? with
  | some p => if s.live then s.bringBack d p.t else s
  | none => s

/-- Device time reaches REL_TIME + H_late of late-ring entries of domain d (LATE_RING_EXPIRY, R199). -/
def State.lateExpiry (s : State) (d : Nat) : State :=
  (s.setDom d { s.dom d with late := (s.dom d).late.filter (fun e => decide (s.now < e.rel + s.hLate d)) }).fitRing d |>.noteFree

/-- The store is emptied without release: HALT and reset (R205). -/
def State.clearStore (s : State) : State :=
  (s.modAln fun a => { a with inQ := [], spilling := false }).forEach domList fun s d =>
    s.setDom d { s.dom d with started := false, pend := [], late := [], ring := [], lastSet := none }

end Sys2Proof.Machine
end

