-- ==== Sys2Proof/Machine/Time.lean ====
section
/-! DEFINITION. The time base (03_time_base.md): the counter, UTC and leap seconds, the discipline sources and the
servo, slews and the time base's own part of a step, time quality, PPS_OUT. -/

namespace Sys2Proof.Machine

/-- The time base's own record, changed. -/
def State.modTim (s : State) (f : Tim → Tim) : State := { s with tim := f s.tim }

/-- The unit of the accumulator: 1 ns is 2^40·10^4 units (R50). -/
def accUnit : Nat := 2 ^ 40 * 10 ^ 4

/-- ±500 ppm in units of 2^-40 (R50). -/
def clampFreq (f : Int) : Int := max (-549755813) (min 549755813 f)

/-- The slew of one TCLK cycle: 100 ppm of 4 ns toward the correction, and no more than remains; none in HALT (R50, R51, R63). -/
def slewPart (t : Tim) (halted : Bool) : Int :=
  if halted then 0
  else if t.slew > 0 then min t.slew (4 * 2 ^ 40)
  else max t.slew (-(4 * 2 ^ 40))

/-- One TCLK cycle: 4 ns times (1 + F + S) (R50). The time base stands still in RESET (R51, the prose behind it). -/
def State.tick (s : State) : State :=
  if s.glb.mode = .reset then s
  else
    let p := slewPart s.tim (decide (s.glb.mode = .halt))
    let adv : Int := 4 * ((accUnit : Int) + s.tim.freq * 10 ^ 4) + p
    let total := ((s.tim.acc : Int) + adv).toNat
    s.modTim fun t =>
      { t with dt := (t.dt + total / accUnit) % (2 ^ 32 * nsPerSec), acc := total % accUnit, ticks := t.ticks + 1,
               slew := t.slew - p }

/-- LEAP_AT in ns. -/
def State.leapAtNs (s : State) : Nat := (s.reg R_TIM_LEAPAT).toNat * nsPerSec

/-- TAI − UTC in seconds in force at a device time (R52, R53). -/
def State.utcOffset (s : State) (ns : Nat) : Int :=
  let o := sxt 16 s.TIM_UTC_OFS
  if s.TIM_UTC_PENDING = 1 ∧ s.leapAtNs ≤ ns then (if s.TIM_UTC_DIR = 0 then o + 1 else o - 1) else o

/-- The offset that converts a device time to UTC: OFS as it stands while VALID is 0 (R52, 08_chisel_instructions.md R178). -/
def State.offsetAt (s : State) (ns : Nat) : Int := if s.TIM_UTC_VALID = 0 then sxt 16 s.TIM_UTC_OFS else s.utcOffset ns

/-- n / d rounded, an exact half upward. -/
def roundUp (n d : Nat) : Nat := if d = 0 then 0 else (2 * n + d) / (2 * d)

/-- SOC and fraction count of a device time for a TIME_BASE (08_chisel_instructions.md R178, 13_egress.md R277). -/
def State.socOf (s : State) (ns tb : Nat) : Nat × Nat :=
  let c := roundUp (ns % nsPerSec * tb) nsPerSec
  let carry := if tb ≠ 0 ∧ c = tb then 1 else 0
  (wrapI 32 ((ns / nsPerSec : Nat) - s.offsetAt ns + carry), if carry = 1 then 0 else c)

/-- TIM_UTC.OCCURRED: device time lies between LEAP_AT and retirement (Table TIM-6). -/
def State.leapOccurred (s : State) : Bool :=
  s.TIM_UTC_PENDING == 1 && decide (s.leapAtNs ≤ s.now) && decide (s.now < s.leapAtNs + 86400 * nsPerSec)

/-- The leap bits and quality of a FRACSEC byte (Table TIM-1), at set time `t` with the given quality. -/
def State.timeQualityByte (s : State) (t quality : Nat) : Nat :=
  let pend := s.TIM_UTC_PENDING == 1
  let occ := pend && decide (s.leapAtNs ≤ t) && decide (t < s.leapAtNs + 86400 * nsPerSec)
  let near := pend && decide (s.leapAtNs ≤ t + 60 * nsPerSec) && decide (t < s.leapAtNs)
  b1 ((occ || near) && s.TIM_UTC_DIR == 1) * 64 + b1 occ * 32 + b1 near * 16 + quality % 16

/-- Device time moved from `old`: it reached or crossed LEAP_AT forward (LEAP_APPLIED) or went back across it (R53, R65). -/
def State.leapCrossed (s : State) : State :=
  if s.TIM_UTC_PENDING = 1 ∧ s.leapAtNs ≤ s.now then
    if s.tim.leapDone then s else (s.modTim fun t => { t with leapDone := true }).timFlag 8
  else s.modTim fun t => { t with leapDone := false }

/-- Error bound E in ns, none while unknown (R67). -/
def State.errBound (s : State) : Option Nat :=
  match s.tim.eBase with
  | none => none
  | some e => some (if s.tim.eGrow then e + s.TIM_HOLDCFG_RATE_NS * (4 * (s.tim.ticks - s.tim.eTick)) / nsPerSec else e)

/-- The smallest code of Table TIM-3 whose limit is at least `e` ns; 15 above 10 s. -/
def qualityCode (e : Nat) : Nat :=
  match (List.range 11).find? (fun k => decide (e ≤ 10 ^ k)) with
  | some k => k + 1
  | none => 15

/-- Time quality by R67. -/
def State.qualityNow (s : State) : Nat :=
  if s.glb.mode = .plinth then 15
  else if !s.tim.everLocked && !s.tim.everSet then 15
  else
    match s.errBound with
    | none => 15
    | some e => if s.tim.locked && decide (e ≤ 1000) then 0 else qualityCode e

/-- PPS_OUT may be driven (R69). -/
def State.ppsAllowed (s : State) : Bool :=
  s.TIM_PPSOUT_ENABLE == 1 && (s.outOn || (s.quiet && s.TIM_PPSOUT_STANDBY_EN == 1)) &&
    decide (s.tim.quality ≤ s.TIM_PPSOUT_GATE_QUALITY)

/-- PPS_OUT is held low where R69 does not let it be driven. -/
def State.quietPps (s : State) : State :=
  if s.tim.ppsOut && !s.ppsAllowed then (s.modTim fun t => { t with ppsOut := false }).emit (.ppsPin false) else s

/-- Bring TIM_STATUS.QUALITY up to date; a change sets QUALITY_CHANGE (R67), and PPS_OUT follows its gate (R69). -/
def State.updateQuality (s : State) : State :=
  if s.qualityNow = s.tim.quality then s
  else ((s.modTim fun t => { t with quality := s.qualityNow }).timFlag 4).quietPps

/-- Set E to a value from now, growing or not (R67). -/
def State.setBound (s : State) (e : Nat) (grow : Bool) : State :=
  s.modTim fun t => { t with eBase := some e, eTick := t.ticks, eGrow := grow }

/-- Source k = 0 PTP, 1 PPS, 2 IRIG, 3 ARM (Table TIM-8). -/
def State.src (s : State) (k : Nat) : Source :=
  match k with
  | 0 => s.tim.ptp
  | 1 => s.tim.pps
  | 2 => s.tim.irig
  | _ => s.tim.arm

/-- Write source k. -/
def State.setSrc (s : State) (k : Nat) (v : Source) : State :=
  s.modTim fun t =>
    match k with
    | 0 => { t with ptp := v }
    | 1 => { t with pps := v }
    | 2 => { t with irig := v }
    | _ => { t with arm := v }

/-- The priority list TIM_SRCPRI, source codes 1 to 4 (R54, Table TIM-7). -/
def State.priorities (s : State) : List Nat :=
  [s.TIM_SRCPRI_PRI0, s.TIM_SRCPRI_PRI1, s.TIM_SRCPRI_PRI2, s.TIM_SRCPRI_PRI3].filter (fun c => decide (1 ≤ c ∧ c ≤ 4))

/-- The first qualified source of the list, as a code, 0 for none (R55). -/
def State.firstQualified (s : State) : Nat :=
  match s.priorities.find? (fun c => (s.src (c - 1)).state == 2) with
  | some c => c
  | none => 0

/-- Sources listed or no longer listed after a commit (R55). -/
def State.listSources (s : State) : State :=
  s.forEach [0, 1, 2, 3] fun s k =>
    if s.priorities.contains (k + 1) then
      if (s.src k).state = 0 then s.setSrc k { s.src k with state := 1 } else s
    else s.setSrc k { s.src k with state := 0, good := 0, qualSince := none }

/-- LOCKED takes a value; a change sets LOCK (R58, Table TIM-9). -/
def State.setLocked (s : State) (b : Bool) : State :=
  if s.tim.locked = b then s
  else (s.modTim fun t => { t with locked := b, everLocked := t.everLocked || b }).timFlag 2

/-- Average of a list of F, rounded to nearest. -/
def avgFreq (l : List Int) (f : Int) : Int :=
  if l = [] then f else (2 * l.foldl (· + ·) 0 + (l.length : Int)) / (2 * (l.length : Int))

/-- No source is selected: the time base is in HOLDOVER, with the frequency correction averaged over the last 64 servo updates, no phase
correction and a growing bound (R57, R67). -/
def State.enterHoldover (s : State) : State :=
  let e := s.errBound
  (s.modTim fun t =>
    { t with holdover := true, freq := avgFreq t.fHist t.freq, slew := 0, slewing := false, eBase := e, eTick := t.ticks,
             eGrow := true }).timFlag 3

/-- Take a source as the selected one, or none (0): SOURCE_CHANGE; none enters HOLDOVER (R55, R57). LOCKED clears also on a switch from a
source that was not lost: the new source has yet to give QUAL_N applied samples (R58; DESIGN CHOICE, log entry 134). -/
def State.selectSource (s : State) (c : Nat) : State :=
  if c = s.tim.source then s
  else
    let s1 := (s.modTim fun t => { t with source := c, lockGood := 0, lockBad := 0 }).timFlag 1
    let s2 := s1.setLocked false
    if c = 0 then s2.enterHoldover
    else s2.modTim fun t => { t with holdover := false }

/-- Source k is lost (Table TIM-2, R56): it is disqualified; if it was selected, the first qualified source is taken at
once, else HOLDOVER (R55, R57). OUTLIERS keeps its count until a sample is applied again. -/
def State.loseSource (s : State) (k : Nat) : State :=
  if (s.src k).state = 0 then s
  else
    let s1 := s.setSrc k { s.src k with state := 3, good := 0, qualSince := none, outThetas := [], first := none }
    if s1.tim.source = k + 1 then ((s1.selectSource s1.firstQualified)).updateQuality else s1

/-- The time base's own part of a step by `delta` ns with the cause of Table PRT-6 (R64 step 1, R65). What a source keeps of its samples
moves with the scale: a run of consistent samples goes on over a step (DESIGN CHOICE, log entry 133), and the mean rate of the qualifying
samples is that of the source, not of the step. -/
def State.stepLocal (s : State) (delta : Int) (cause : Nat) : State :=
  let old := s.now
  let new := (((old : Int) + delta) % (2 ^ 32 * nsPerSec : Nat)).toNat
  let shift := fun (x : Source) =>
    { x with lastStamp := ((x.lastStamp : Int) + delta).toNat, first := x.first.map fun p => (p.1 - delta, ((p.2 : Int) + delta).toNat) }
  let s1 := s.modTim fun t =>
    { t with dt := new, slew := 0, slewing := false, step := t.step + 1, stepTick := t.ticks, stepDelta := delta,
             ptp := shift t.ptp, pps := shift t.pps, irig := shift t.irig, arm := shift t.arm }
  ((s1.timFlag 0).logEvent 3 cause [(dev64 old, 8), (dev64 new, 8)]).leapCrossed

/-- A slew of `theta` ns replaces what remains of one in progress (R63). -/
def State.slewBy (s : State) (theta : Int) : State := 
  s.modTim fun t => { t with slew := theta * accUnit, slewing := theta != 0 }

/-- n / d rounded to the nearest integer, half up. -/
def roundDiv (n d : Int) : Int := (2 * n + d) / (2 * d)

/-- The contribution of source k to E in ns (R62, R67). -/
def State.contribution (s : State) (k : Nat) : Nat :=
  match k with
  | 0 => (s.src 0).bound.getD (10 * s.TIM_SRCACC_PTP)
  | 1 => 10 * s.TIM_SRCACC_PPS
  | 2 => 10 * s.TIM_SRCACC_IRIG
  | _ => (s.src 3).bound.getD 0 + 10 + 10 * s.TIM_SRCACC_ARM

/-- A sample above LOCK_US: the third in a row clears LOCKED (R58). -/
def State.lockMiss (s : State) : State :=
  let s1 := s.modTim fun t => { t with lockGood := 0, lockBad := t.lockBad + 1 }
  if s1.tim.lockBad ≥ 3 then s1.setLocked false else s1

/-- The lock rule on a sample that is not applied: it counts towards the three above LOCK_US, not towards QUAL_N (R58). -/
def State.lockOnOutlier (s : State) (theta : Int) : State :=
  if theta.natAbs ≤ 1000 * s.TIM_QUALCFG_LOCK_US then s.modTim fun t => { t with lockBad := 0 } else s.lockMiss

/-- The lock rule on an applied sample (R58). -/
def State.lockOn (s : State) (theta : Int) : State :=
  if theta.natAbs ≤ 1000 * s.TIM_QUALCFG_LOCK_US then
    let s1 := s.modTim fun t => { t with lockGood := t.lockGood + 1, lockBad := 0 }
    if s1.tim.lockGood ≥ s.TIM_QUALCFG_QUAL_N then s1.setLocked true else s1
  else s.lockMiss

/-- The hardware servo's action on an applied sample within 1 ms: slew and frequency update (R58); `t` is the interval
in ns. -/
def State.servoSlew (s : State) (theta : Int) (t : Nat) : State :=
  let f := clampFreq (s.tim.freq + roundDiv (theta * 2 ^ 40) (8 * (t : Int)))
  (s.slewBy theta).modTim fun m => { m with freq := f, fHist := (f :: m.fHist).take 64 }

/-- E stops growing: a source is selected, and a step leaves E unchanged until the next applied sample (R67). -/
def State.freezeBound (s : State) : State := s.modTim fun t => { t with eBase := s.errBound, eTick := t.ticks, eGrow := false }

/-- E and LOCKED after an applied sample (R58, R67). -/
def State.afterSample (s : State) (k : Nat) (theta : Int) (stepped : Bool) : State :=
  let s1 := if stepped then s.freezeBound else s.setBound (s.contribution k + theta.natAbs) false
  (s1.lockOn theta).updateQuality

/-- The consistency of a sample with the one before (R55): the label one second after for PPS and IRIG, and the
intervals within ±200 ppm. -/
def consistent (k : Nat) (x : Source) (stamp label : Nat) : Bool :=
  (decide (k ≠ 1 ∧ k ≠ 2) || decide (label = x.lastLabel + nsPerSec)) &&
    decide ((((label : Int) - x.lastLabel) - ((stamp : Int) - x.lastStamp)).natAbs * 5000 ≤
      ((label : Int) - x.lastLabel).natAbs)

/-- A sample reaches source k: its record, GOOD and state (R55). -/
def State.recordSample (s : State) (k : Nat) (theta : Int) (stamp label : Nat) : State :=
  let x := s.src k
  let good := if (x.state = 1 ∨ x.state = 2) ∧ x.good > 0 ∧ consistent k x stamp label then min 15 (x.good + 1) else 1
  let st0 := if x.state = 3 then 1 else x.state
  let st1 := if st0 = 1 ∧ good ≥ s.TIM_QUALCFG_QUAL_N then 2 else st0
  s.setSrc k { x with
    state := st1, good := good, lastTick := some s.tim.ticks, theta := theta, lastStamp := stamp, lastLabel := label,
    qualSince := if st1 = 2 then (if st0 = 2 then x.qualSince else some s.tim.ticks) else none,
    first := if good = 1 then some (theta, stamp) else x.first }

/-- F from the mean rate of the qualifying samples (R58). -/
def State.rateFromQualifying (s : State) (k : Nat) : State :=
  let x := s.src k
  match x.first with
  | some (th0, st0) =>
    if x.lastStamp > st0 then
      let f := clampFreq (s.tim.freq + roundDiv ((x.theta - th0) * 2 ^ 40) ((x.lastStamp : Int) - st0))
      s.modTim fun t => { t with freq := f }
    else s
  | none => s

/-- Three offsets agree with one another to within the outlier limit (R56). -/
def agree3 (l : List Int) (lim : Nat) : Bool :=
  match l with
  | a :: b :: c :: _ => decide ((a - b).natAbs ≤ lim) && decide ((b - c).natAbs ≤ lim) && decide ((a - c).natAbs ≤ lim)
  | _ => false

/-- What becomes of a sample of the selected source: applied, an outlier, or a loss (R56). -/
inductive SampleFate where
  | apply
  | outlier
  | lost
  deriving DecidableEq, Repr

/-- Judge a sample of selected, LOCKED source k before it is recorded: the prediction rests on the last offset before it (R56); `force` makes it an
outlier (R59). -/
def State.judgeSample (s : State) (k : Nat) (theta : Int) (force : Bool) : SampleFate :=
  let lim := 1000 * s.TIM_QUALCFG_OUTLIER
  let pred := Config.predictedOffset s.tim.freq s.tim.slew (s.src k).theta
  if s.tim.locked && (force || decide ((theta - pred).natAbs > lim)) then
    if (s.src k).outliers + 1 < 3 then .outlier
    else if agree3 (theta :: (s.src k).outThetas) lim then .apply
    else .lost
  else .apply

/-- Device time reaches LEAP_AT (LEAP_AT_REACHED, R53). -/
def execLeapAtReached (s : State) : Res := .next <| if s.glb.mode = .reset then s else s.leapCrossed

/-- The leap is retired at LEAP_AT + 86,400 s (LEAP_RETIRE, R53). -/
def execLeapRetire (s : State) : Res := .next <|
  if s.TIM_UTC_PENDING = 1 ∧ s.leapAtNs + 86400 * nsPerSec ≤ s.now ∧ s.glb.mode ≠ .reset then
    let o := wrapI 16 (s.utcOffset s.now)
    ((s.setFld R_TIM_UTC 0 16 o).setFld R_TIM_UTC 17 1 0).modTim fun t => { t with leapDone := false }
  else s

/-- A running slew has removed its whole correction (SLEW_END, R63): the TCLK cycles have done so at no more than 100 ppm (R50), and
TIM_STATUS.SLEWING falls. While some of it remains the slew goes on. -/
def execSlewEnd (s : State) : Res := .next <| if s.tim.slew = 0 then s.modTim fun t => { t with slewing := false } else s

/-- TIM_SNAP.SNAP latches device time (TIM_SNAP, R51). -/
def State.snap (s : State) : State :=
  if s.glb.mode = .reset then s
  else
    (s.setReg R_TIM_SNAPSEC (BitVec.ofNat 32 (dev64 s.now / 2 ^ 32))).setReg R_TIM_SNAPFRAC (BitVec.ofNat 32 (dev64 s.now % 2 ^ 32))

/-- A PPS_IN edge (PPS_EDGE, R59): `rising` polarity, `ago` ns before now. -/
def execPpsEdge (rising : Bool) (ago : Nat) (s : State) : Res := .next <|
  let tick := s.tim.ticks - ago / 4
  let early := match s.tim.edge with
    | some e => decide (4 * (tick - e.tick) < 900000000)
    | none => false
  if s.glb.mode == .reset || (s.TIM_PPSCFG_EDGE == 0) != rising || early then s
  else
    let (st, c) := s.stampAt ago
    s.modTim fun t => { t with edge := some ⟨st, c, tick, s.live, false⟩, edgeMissed := false }

/-- No edge within 1.5 s of the previous one (PPS_MISSING, R59). -/
def execPpsMissing (s : State) : Res := .next <|
  match s.tim.edge with
  | some e =>
    if 4 * (s.tim.ticks - e.tick) ≥ 1500000000 ∧ s.tim.edgeMissed = false ∧ s.glb.mode ≠ .reset then
      (s.modTim fun t => { t with edgeMissed := true }).timFlag 10
    else s
  | none => s

/-- A step has come since the last PPS_OUT edge. -/
def State.steppedSincePps (s : State) : Bool := decide (s.tim.ppsTick ≤ s.tim.stepTick) && s.tim.stepTick != 0

/-- A whole TSEC (PPS_OUT_EDGE, R69): at most one edge for each second, and after a step none before a full second has passed since the
last edge; a second that a backward step brings again has its edge like any other. -/
def execPpsOutEdge (s : State) : Res := .next <|
  let recent := if s.steppedSincePps then s.tim.ppsSec ≠ none ∧ 4 * (s.tim.ticks - s.tim.ppsTick) < nsPerSec
    else s.tim.ppsSec = some s.tsec
  if s.ppsAllowed ∧ ¬ recent then
    (s.modTim fun t => { t with ppsOut := true, ppsSec := some s.tsec, ppsTick := t.ticks }).emit (.ppsPin true)
  else s

/-- WIDTH_US after the edge (PPS_OUT_WIDTH_END, R69). -/
def execPpsOutWidthEnd (s : State) : Res := .next <|
  if s.tim.ppsOut then (s.modTim fun t => { t with ppsOut := false }).emit (.ppsPin false) else s

/-- The error bound has grown past a code limit (HOLDOVER_QUALITY_CHANGE, R67). -/
def execHoldoverQualityChange (s : State) : Res := .next <| if s.glb.mode = .reset then s else s.updateQuality.quietPps

/-- A source is lost by its timeout (SOURCE_LOSS_TIMEOUT, Table TIM-2). -/
def execSourceLossTimeout (k : Fin 4) (s : State) : Res := .next <| if s.live then (s.loseSource k).quietPps else s

/-- A source listed before the selected one has been qualified for SWITCH_HOLD (SOURCE_SWITCH_HOLD, R55). -/
def execSourceSwitchHold (k : Fin 4) (s : State) : Res := .next <|
  let rank := fun (c : Nat) => s.priorities.findIdx (· == c)
  if s.live ∧ s.tim.source ≠ 0 ∧ (s.src k).state = 2 ∧ rank (k.val + 1) < rank s.tim.source then
    (s.selectSource (k.val + 1)).updateQuality.quietPps
  else s

/-- TCLK's reference changes and F takes the last measured REF10/REF25 ratio, in units of 2^-40 (R61). -/
def State.switchRef (s : State) (toRef10 : Bool) (ratio : Int) : State :=
  s.modTim fun t => { t with ref10 := toRef10, freq := clampFreq (t.freq + ratio) }

/-- REF10 in range for 1 s (REF10_QUALIFIED, R61). -/
def execRef10Qualified (ratio : BitVec 32) (s : State) : Res := .next <|
  if s.TIM_SRCPRI_REF10_EN = 1 ∧ s.tim.ref10 = false ∧ s.glb.mode ≠ .reset then s.switchRef true ratio.toInt else s

/-- REF10 lost (REF10_LOSS, R61). -/
def execRef10Loss (ratio : BitVec 32) (s : State) : Res := .next <|
  if s.tim.ref10 ∧ s.glb.mode ≠ .reset then (s.switchRef false ratio.toInt).timFlag 5 else s

/-- REF10 back in range for 10 s (REF10_RESTORED, R61). -/
def execRef10Restored (ratio : BitVec 32) (s : State) : Res := .next <|
  if s.TIM_SRCPRI_REF10_EN = 1 ∧ s.tim.ref10 = false ∧ s.glb.mode ≠ .reset then
    (s.switchRef true ratio.toInt).timFlag 6
  else s

/-- Queue an egress event stamp of network port k (03_time_base.md, PTP): a full queue of 64 loses it and sets TXSTAMP_OVR. -/
def State.txStamp (s : State) (k stamp : Nat) : State :=
  let q := match k with
    | 0 => s.tim.tx0
    | 1 => s.tim.tx1
    | 2 => s.tim.tx2
    | _ => s.tim.tx3
  if q.length ≥ 64 then s.timFlag 12
  else
    s.modTim fun t =>
      match k with
      | 0 => { t with tx0 := q ++ [stamp] }
      | 1 => { t with tx1 := q ++ [stamp] }
      | 2 => { t with tx2 := q ++ [stamp] }
      | _ => { t with tx3 := q ++ [stamp] }

end Sys2Proof.Machine
end

