-- ==== Sys2Proof/Machine/Lanes.lean ====
section
/-! DEFINITION. Rate conversion lanes (10_rate_conversion.md): streams, continuity, the phase accumulator, the polyphase
arithmetic, synchronising resets and cross-fades between banks. -/

namespace Sys2Proof.Machine

def State.modRcl (s : State) (f : Rcl → Rcl) : State := { s with rcl := f s.rcl }
def State.lane (s : State) (l : Nat) : Lane := s.rcl.lanes.at {} l
def State.setLane (s : State) (l : Nat) (x : Lane) : State := s.modRcl fun r => { r with lanes := r.lanes.put {} l x }
def Lane.stream (x : Lane) (f : Nat) : Stream := x.streams.at {} f
def State.setStream (s : State) (l f : Nat) (x : Stream) : State :=
  s.setLane l { s.lane l with streams := (s.lane l).streams.put {} f x }

/-- Lane counter c of Table RCV-10. -/
def State.lCount (s : State) (l c : Nat) : State := s.count (R_RCV_LCNT l c)
/-- Flows served by lane l (R209). -/
def State.served (s : State) (l : Nat) : List Nat := s.flowsUsed.filter (fun f => s.fLaneEn f && s.fLane f == l)
/-- The lane is enabled, the committed image assigns it a flow, and it is not shed: it runs. A lane without a flow of the committed image is
gated and wakes at a commit only, so a FLOW_SET does not wake it (R227, 01_architecture.md R28, Table ARC-9). -/
def State.laneRuns (s : State) (l : Nat) : Bool :=
  s.RCV_LCFG_ENABLE l == 1 && s.rcl.woken.contains l && !(s.lane l).shed && s.live

/-- The lanes to which the flows of the image just applied are assigned (Table ARC-9). -/
def State.wakeLanes (s : State) : State :=
  s.modRcl fun r => { r with woken := (List.range 16).filter fun l => s.served l != [] }

/-! Banks (R217). -/

/-- Header byte field of bank b. -/
def State.bankHdr (s : State) (b o n : Nat) : Nat := s.rcl.coef.le 0 (0x100000 + 64 * b + o) n
def State.bankP (s : State) (b : Nat) : Nat := s.bankHdr b 5 1
def State.bankT (s : State) (b : Nat) : Nat := s.bankHdr b 6 1
/-- Group delay in units of 2^-16 input periods. -/
def State.bankD (s : State) (b : Nat) : Nat := s.bankHdr b 8 4
/-- Coefficient c[j][t] of bank b, with c[P][u] = c[0][u + 1] and c[0][T] = 0 (R215). -/
def State.coefAt (s : State) (b j t : Nat) : Nat :=
  let at' := fun (j t : Nat) => if s.bankT b ≤ t then 0 else s.rcl.coef.le 0 (0x4000 * b + 256 * j + 4 * t) 4
  if j = s.bankP b then at' 0 (t + 1) else at' j t

/-- A coefficient of bank b cannot be read (18_protection_integrity.md Table PRT-5 store 6). -/
def State.bankBad (s : State) (b : Nat) : Bool :=
  s.eccBad.any (fun x => x.1 == 6 && (x.2 / 2048 == b || x.2 / 8 == 0x4000 + b))

/-- Banks in use by the lane: the current one and a fade target. -/
def Lane.banks (x : Lane) : List Nat := x.bank :: (match x.fade with | some f => [f.target] | none => [])
/-- D_max in units of 2^-16 input periods (R213). -/
def State.dMax (s : State) (l : Nat) : Nat := ((s.lane l).banks.map s.bankD).foldl max 0
/-- T_span (R220). -/
def State.tSpan (s : State) (l : Nat) : Nat := ((s.lane l).banks.map s.bankT).foldl max 0

/-! Layouts (R211, 07_chisel_machine.md Table CHS-6). -/

/-- Word w of layout descriptor n. -/
def State.layoutWord (s : State) (n w : Nat) : Nat :=
  (s.chs.prog.at 0 (s.CHS_PTABLE_TABLE_BASE + s.CHS_LAYOUT_BASE + 32 * (n - 1) + w)).toNat

/-- A resampled item of a record: a binary32 value, or a polar phasor, at a byte offset. -/
inductive Item where
  | value (o : Nat)
  | polar (o : Nat)
  deriving DecidableEq, Repr

/-- Items of PMU block i of descriptor n, in C37.118.2 order (R211). -/
def State.blockItems (s : State) (n i : Nat) : List Item :=
  let w := s.layoutWord n (2 + 2 * i)
  let o := s.layoutWord n (3 + 2 * i) % 65536 + 2
  let fmt := w % 16
  let ph := bits w 4 8
  let an := bits w 12 8
  let phF := bitOf fmt 1
  let frF := bitOf fmt 3
  let o1 := o + ph * (if phF then 8 else 4)
  let o2 := o1 + (if frF then 8 else 4)
  (if phF then
    (List.range ph).flatMap (fun k => if bitOf fmt 0 then [Item.polar (o + 8 * k)] else [.value (o + 8 * k), .value (o + 8 * k + 4)])
   else []) ++
  (if frF then [.value o1, .value (o1 + 4)] else []) ++
  (if bitOf fmt 2 then (List.range an).map (fun k => Item.value (o2 + 4 * k)) else [])

/-- Items of a record laid out by descriptor n. -/
def State.items (s : State) (n : Nat) : List Item :=
  (List.range (s.layoutWord n 0 % 16)).flatMap (s.blockItems n)

/-- Binary32 value of a record at byte o, in register byte order. -/
def Rec.f32 (r : Rec) (o : Nat) : Nat := leNat ((r.data.drop o).take 4)

/-! Arithmetic (R213, R215). -/

/-- n / d for a signed n, to nearest, ties to even. -/
def divRneI (n : Int) (d : Nat) : Int := if n < 0 then -(divRne n.natAbs d : Int) else divRne n.natAbs d

/-- Q exactly from the times, in units of 2^-32 input periods (R213). -/
def qExact (g m r : Nat) : Int := divRneI (((g : Int) - m) * r * 2 ^ 32) nsPerSec

/-- Where a history position lies (R215, R222). -/
inductive Place where
  | held (r : Rec)
  | zero

/-- Position `back` behind the newest record. -/
def Stream.place (x : Stream) (prime : Bool) (back : Nat) : Place :=
  if back < x.hist.length then
    match (x.hist.drop back).head? with
    | some r => .held r
    | none => .zero
  else if x.count ≤ back then
    match prime, x.first with
    | true, some r => .held r
    | _, _ => .zero
  else
    match x.hist.getLast? with
    | some r => .held r
    | none => .zero

/-- The T coefficients and places of an output with bank b (R215 steps 1 to 3). -/
def State.taps (s : State) (b : Nat) (x : Stream) (prime : Bool) : List (Nat × Place) :=
  let mu := x.q + s.bankD b * 2 ^ 16
  let i := mu / 2 ^ 32
  let f := (mu % 2 ^ 32).toNat
  let j := f * s.bankP b / 2 ^ 32
  let w := f * s.bankP b % 2 ^ 32 / 256
  (List.range (s.bankT b)).map fun u =>
    let c0 := s.coefAt b j u
    (fMac (fRound false w (2 ^ 24)) (fSub (s.coefAt b (j + 1) u) c0) c0, x.place prime ((u : Int) - i).toNat)

/-- Σ c_u × s[n + i − u] of one value per place, from +0.0 (R215 step 4). -/
def tapSum (ts : List (Nat × Place)) (v : Rec → Nat) : Nat :=
  ts.foldl (fun acc (p : Nat × Place) => fMac p.1 (match p.2 with | .held r => v r | .zero => 0) acc) 0

/-- Mix of two banks' values with weight a (R224): the difference rounded, then one fused multiply-add. -/
def mixed (a : Option Nat) (old new : Nat) : Nat :=
  match a with
  | none => old
  | some a => fMac a (fSub new old) old

/-- The output values of one item: byte offset and value (R215, R224). -/
def itemOut (ts1 ts2 : List (Nat × Place)) (a : Option Nat) : Item → List (Nat × Nat)
  | .value o => [(o, mixed a (tapSum ts1 (·.f32 o)) (tapSum ts2 (·.f32 o)))]
  | .polar o =>
    let re := fun (r : Rec) => fPolar false (r.f32 o) (r.f32 (o + 4))
    let im := fun (r : Rec) => fPolar true (r.f32 o) (r.f32 (o + 4))
    let x := mixed a (tapSum ts1 re) (tapSum ts2 re)
    let y := mixed a (tapSum ts1 im) (tapSum ts2 im)
    [(o, fHypot 9 x y), (o + 4, fAtan2 10 y x)]

/-- The template: the history record nearest g, the earlier one on a tie (R216). -/
def template (h : List Rec) (g : Nat) : Option Rec :=
  h.reverse.foldl (fun (a : Option Rec) (r : Rec) =>
    match a with
    | none => some r
    | some b => if ((r.mt : Int) - g).natAbs < ((b.mt : Int) - g).natAbs then some r else some b) none

/-- Weight a of a mixed output, or none (R224). -/
def State.fadeWeight (s : State) (l g : Nat) : Option Nat :=
  match (s.lane l).fade with
  | some f =>
    if f.gs ≤ g ∧ g < f.gs + s.RCV_LCFG_FADE_N l then some (fRound false (g - f.gs + 1) (s.RCV_LCFG_FADE_N l)) else none
  | none => none

/-- The bank of an output that is not mixed, or the old bank of a mixed one (R224). -/
def State.bankFor (s : State) (l g : Nat) : Nat :=
  match (s.lane l).fade with
  | some f => if f.gs + s.RCV_LCFG_FADE_N l ≤ g then f.target else (s.lane l).bank
  | none => (s.lane l).bank

/-- Compute the output of flow f's stream for its NEXT_G and send it to the store (R215, R216, R222, R224). An uncorrectable
coefficient produces none and counts ECC_DROP (Table PRT-5 store 6). -/
def State.laneOutput (s : State) (l f : Nat) (inp : Rec) : State :=
  let x := (s.lane l).stream f
  let r := s.rateOf (s.RCV_LCFG_DOMAIN l)
  let g := x.nextG
  let a := s.fadeWeight l g
  let b1' := s.bankFor l g
  let b2 := match (s.lane l).fade with
    | some fd => fd.target
    | none => b1'
  if s.bankBad b1' || (a.isSome && s.bankBad b2) then s.count (R_PRT_ECCDROP 6)
  else
    let prime := s.fPrime f
    let ts1 := s.taps b1' x prime
    let ts2 := if a.isSome then s.taps b2 x prime else ts1
    match template x.hist (gridPt r g) with
    | none => s
    | some tpl =>
      let vals := (s.items x.layout).flatMap (itemOut ts1 ts2 a)
      let settle := decide (x.inputs ≤ s.bankT (s.lane l).bank)
      let used := (ts1 ++ ts2).any (fun p => match p.2 with | .held r => r.noisy | .zero => false)
      let out : Rec :=
        { flow := f, mt := gridPt r g, stamp := inp.stamp, step := inp.step, seq := inp.seq, resampled := true, settle := settle,
          noisy := used
          data := vals.foldl (fun d (p : Nat × Nat) => d.take p.1 ++ leBytes 4 p.2 ++ d.drop (p.1 + 4)) tpl.data }
      let nans := (vals.filter (fun p => fIsNan p.2)).length
      let s1 := (s.modAln fun al => { al with inQ := al.inQ ++ [s.sealRec out] }).lCount l 2
      let s2 := s1.when settle fun s => s.lCount l 3
      let s3 := s2.when a.isSome fun s => s.lCount l 4
      let s4 := s3.when (decide (nans ≠ 0)) fun s => (s.countN (R_RCV_LCNT l 15) nans).rcvFlag 6
      s4.setLane l { s4.lane l with latest := some (max ((s4.lane l).latest.getD 0) g) }

/-- The loop of R213: outputs that are due, up to the grid point that needs a newer input. -/
def State.laneLoop : Nat → State → Nat → Nat → Rec → State
  | 0, s, _, _, _ => s
  | fuel + 1, s, l, f, inp =>
    let x0 := (s.lane l).stream f
    let r := s.rateOf (s.RCV_LCFG_DOMAIN l)
    let g := gridPt r x0.nextG
    let x := if x0.nextG % r = 0 then { x0 with q := qExact g inp.mt x0.rate } else x0
    let s1 := s.setStream l f x
    if (2 ^ 32 : Int) ≤ x.q + s.dMax l * 2 ^ 16 ∨ inp.mt + 1000 < g then s1
    else
      let s2 := if x.hits.contains x.nextG then s1 else s1.laneOutput l f inp
      let y := (s2.lane l).stream f
      let step : Nat := (2 * x.rate * 2 ^ 32 + r) / (2 * r)
      State.laneLoop fuel (s2.setStream l f { y with
        nextG := y.nextG + 1, q := y.q + (step : Int), hits := y.hits.filter (fun h => decide (y.nextG < h)) }) l f inp

/-! Synchronising resets (R221). -/

/-- Clear flow f's stream. -/
def State.clearStream (s : State) (l f : Nat) : State := (s.setStream l f {}).noteFree

/-- One stream is reset, counted under c. -/
def State.resetStream (s : State) (l f c : Nat) : State := ((s.clearStream l f).lCount l c).rcvFlag 3

/-- Start a fade to bank b no earlier than `start` ns (R224). -/
def State.startFade (s : State) (l b start : Nat) : State :=
  let r := s.rateOf (s.RCV_LCFG_DOMAIN l)
  let lo := match (s.lane l).latest with
    | some g => g + 1
    | none => gridCeil r s.now
  s.setLane l { s.lane l with fade := some ⟨b, max lo (gridCeil r start)⟩ }

def State.swapDone (s : State) (l : Nat) : State := (s.lCount l 16).rcvFlag 0
def State.swapRefused (s : State) (l : Nat) : State := (s.lCount l 18).rcvFlag 2

/-- A pending request after a fade's end: it starts its fade, or is done if it names the current bank (R225). -/
def State.nextSwap (s : State) (l : Nat) : State :=
  match (s.lane l).pending with
  | some (b, start) =>
    let s1 := s.setLane l { s.lane l with pending := none }
    if b = (s1.lane l).bank then s1.swapDone l else s1.startFade l b start
  | none => s

/-- The fade in progress ends with its target current. -/
def State.endFade (s : State) (l : Nat) : State :=
  match (s.lane l).fade with
  | some f => (s.setLane l { s.lane l with bank := f.target, fade := none }).swapDone l
  | none => s

/-- Streams of lane l: one for each flow it serves while it runs, whether or not an input has come (R209, R222); a lane that is shed, gated or
not enabled has none (R227). -/
def State.laneStreams (s : State) (l : Nat) : List Nat := if s.laneRuns l then s.served l else []

/-- A lane-wide reset counted under c, once for each stream it clears (R221); a fade ends and a pending request starts. -/
def State.resetLane (s : State) (l c : Nat) : State :=
  let n := (s.laneStreams l).length
  let s1 := (s.setLane l { s.lane l with streams := [], latest := none }).noteFree
  let s2 := if n = 0 then s1 else (s1.countN (R_RCV_LCNT l c) n).rcvFlag 3
  if (s2.lane l).fade.isSome then (s2.endFade l).nextSwap l else s2

/-- Every lane at a time step (R64 step 3). -/
def State.stepLanes (s : State) : State := s.forEach (List.range 16) fun s l => s.resetLane l 9

/-! Inputs (R210, R211, R220). -/

/-- Push a record into the history, taking its slots (R212). -/
def State.pushHist (s : State) (l f : Nat) (r : Rec) : State :=
  let x := (s.lane l).stream f
  let s1 := s.setStream l f { x with hist := x.hist.take (s.RCV_LCFG_DEPTH l - 1) }
  let ns := pickFree s1.usedSlots (slotsFor r.data.length + (if x.slot = [] then 1 else 0))
  let r' := { r with slots := if x.slot = [] then ns.drop 1 else ns, deep := [] }
  ((s1.cleanSlots ns).setStream l f { (s1.lane l).stream f with
    hist := r' :: x.hist.take (s.RCV_LCFG_DEPTH l - 1), count := x.count + 1, slot := if x.slot = [] then ns.take 1 else x.slot
    first := if x.count = 0 then some { r' with slots := [] } else x.first }).noteFree

/-- Push a record several times. -/
def State.pushMany : Nat → State → Nat → Nat → Rec → State
  | 0, s, _, _, _ => s
  | n + 1, s, l, f, r => State.pushMany n (s.pushHist l f r) l f r

/-- Slots that n further records of the size of r take in flow f's stream, whose history holds DEPTH of them (R212). -/
def State.histNeed (s : State) (l f n : Nat) (r : Rec) : Nat :=
  let x := (s.lane l).stream f
  (min (s.RCV_LCFG_DEPTH l) (x.hist.length + n) - x.hist.length) * slotsFor r.data.length + (if x.slot = [] then 1 else 0)

/-- What continuity makes of an input (Table RCV-3): a reset counted under c, or k periods since the last input. -/
def State.continuity (s : State) (l : Nat) (x : Stream) (r : Rec) (layout rate : Nat) : Nat ⊕ Nat :=
  let last := (x.hist.headD r).mt
  let dlt := (r.mt : Int) - last
  let k := roundDiv (dlt * rate) nsPerSec
  let eps := dlt - roundDiv (k * nsPerSec) rate
  if k ≤ 0 ∨ 1000 < eps.natAbs then .inl 7
  else if layout ≠ x.layout ∨ rate ≠ x.rate then .inl 8
  else if s.tSpan l < k then .inl 6
  else .inr k.toNat

/-- The lane takes an input, once there is room for it (R190, R213). False: no slot is free, and the lane holds its input. -/
def State.laneTake (s : State) (l : Nat) (r : Rec) (direct : Bool) (layout rate : Nat) : State × Bool :=
  let f := r.flow
  let x := (s.lane l).stream f
  let j : Nat ⊕ Nat := if x.started then s.continuity l x r layout rate else .inr 0
  let s1 := match j with
    | .inl c => s.resetStream l f c
    | .inr _ => s
  let fill := match j with
    | .inr k => if x.started then k - 1 else 0
    | .inl _ => 0
  let n := s1.histNeed l f (fill + 1) r
  let s2 := (s1.makeRoom s1.roomFuel n 0 none).1
  if !s2.roomFor n 0 then (s2, false)
  else
    let s3 := (s2.pushMany fill l f (x.hist.headD r)).pushHist l f r
    let s4 := if fill = 0 then s3 else (s3.countN (R_RCV_LCNT l 5) fill).rcvFlag 4
    let y := (s4.lane l).stream f
    let rt := s4.rateOf (s4.RCV_LCFG_DOMAIN l)
    let y1 := if y.started then
        { y with inputs := y.inputs + 1, q := y.q - (fill + 1 : Nat) * 2 ^ 32 }
      else
        let g := gridCeil rt (r.mt - s4.dMax l * nsPerSec / (rate * 2 ^ 16))
        { y with started := true, inputs := 1, layout := layout, rate := rate, nextG := g, q := qExact (gridPt rt g) r.mt rate }
    let y2 := match onGrid rt r.mt with
      | some i => { y1 with hits := y1.hits ++ [i] }
      | none => y1
    let s5 := ((s4.setStream l f y2).lCount l 0).when direct fun s => s.lCount l 1
    (State.laneLoop 20000 s5 l f r, true)

/-- Lane l takes the record at the head of its queue (LANE_INPUT): its trailer (01_architecture.md R17), FUTURE, layout and rate first
(R210, R211). A record that finds no room stays at the head. -/
def State.laneInput (s : State) (l : Nat) : State :=
  match s.laneRuns l, (s.lane l).inQ with
  | true, (r, copy) :: rest =>
    let s1 := s.setLane l { s.lane l with inQ := rest }
    let f := r.flow
    let n := s.fLayout f
    let rate := sxt 16 (bits (s.layoutWord n 0) 16 16)
    if !s.goodRec r then s1.fCount f 7
    else if s.now + nsPerSec < r.mt then
      if copy then s1 else ((s1.fCount f 11).dCount (s.fDomain f) 15).alnFlag 6
    else if n = 0 ∨ s.CHS_LAYOUT_COUNT < n ∨ s.layoutWord n 1 % 65536 ≠ r.data.length then (s1.lCount l 13).rcvFlag 5
    else if rate < 1 ∨ 240 < rate then (s1.lCount l 14).rcvFlag 5
    else
      match s1.laneTake l r copy n rate.toNat with
      | (s2, true) => s2
      | (s2, false) => s2.setLane l { s2.lane l with inQ := (r, copy) :: (s2.lane l).inQ }
  | _, _ => s

/-! Swaps (R223 to R225). -/

/-- ceil of a difference of group delays, in input periods, not below 0. -/
def ceilDelay (a b : Nat) : Nat := (a - b + 65535) / 65536

/-- The depth rule of R223 from bank a to bank b. -/
def State.depthOk (s : State) (l a b : Nat) : Bool :=
  decide (s.bankT b + ceilDelay (s.bankD a) (s.bankD b) ≤ s.RCV_LCFG_DEPTH l) &&
    decide (s.bankT a + ceilDelay (s.bankD b) (s.bankD a) ≤ s.RCV_LCFG_DEPTH l)

/-- A swap request: GO written with bank b (R223, R225). -/
def State.swapRequest (s : State) (l b : Nat) : State :=
  let start := (s.reg (R_RCV_LSWAPSEC l)).toNat * nsPerSec + s.RCV_LSWAPNS_NS l
  let from' := match (s.lane l).fade with
    | some f => f.target
    | none => (s.lane l).bank
  if !s.laneRuns l || s.bankHdr b 0 4 == 0 || !s.depthOk l from' b then s.swapRefused l
  else
    match (s.lane l).fade with
    | none => if b = (s.lane l).bank then s.swapDone l else s.startFade l b start
    | some _ =>
      let s1 := if (s.lane l).pending.isSome then (s.lCount l 17).rcvFlag 1 else s
      s1.setLane l { s1.lane l with pending := some (b, start) }

/-- Device time reaches the end of the lane's fade (FADE_END, R224). -/
def State.fadeEnd (s : State) (l : Nat) : State :=
  match (s.lane l).fade with
  | some f =>
    let d := s.RCV_LCFG_DOMAIN l
    if gridPt (s.rateOf d) (f.gs + s.RCV_LCFG_FADE_N l) + s.wMax d ≤ s.now then (s.endFade l).nextSwap l else s
  | none => s

/-- A lane is shed at SHED1 (R227): streams discarded, a fade ends with its target current, a pending request is refused. Records that wait at its
input stay there until its return (02_modes.md R45 is silent on them: DESIGN CHOICE, log entry 128). -/
def State.shedLane (s : State) (l : Nat) : State :=
  let s1 := s.endFade l
  let s2 := if (s1.lane l).pending.isSome then s1.swapRefused l else s1
  (s2.setLane l { s2.lane l with streams := [], latest := none, pending := none, shed := true }).noteFree

/-- The lane returns from SHED1 (R221, R227). -/
def State.returnLane (s : State) (l : Nat) : State := (s.setLane l { s.lane l with shed := false }).resetLane l 12

/-- A commit resets the lane: the image's BANK becomes current and a pending request is refused; RST_COMMIT counts the streams there were
before it that the lane still serves (R221, R222). -/
def State.commitLane (s old : State) (l : Nat) : State :=
  let n := ((old.laneStreams l).filter (fun f => (s.served l).contains f)).length
  let s1 := if (s.lane l).pending.isSome then s.swapRefused l else s
  let s2 := (s1.setLane l { s1.lane l with
    bank := s1.RCV_LCFG_BANK l, fade := none, pending := none, streams := [], latest := none }).noteFree
  if n = 0 then s2 else (s2.countN (R_RCV_LCNT l 11) n).rcvFlag 3

/-- Lanes off with everything discarded: HALT and reset (R227). -/
def State.clearLanes (s : State) : State := s.modRcl fun r => { r with lanes := [] }

end Sys2Proof.Machine
end

