-- ==== Sys2Proof/Machine/Links.lean ====
section
/-! DEFINITION. Cells and links of the Armature (14_armature_links.md): the form of a cell, the queue and scheduler of a
link, the active uplink, and what the device sends of its own: fragments, markers, raw frames, alarms, status and time. -/

namespace Sys2Proof.Machine

def State.modArm (s : State) (f : Arm → Arm) : State := { s with arm := f s.arm }
def State.link (s : State) (k : Nat) : Link := s.arm.links.at {} k
def State.setLink (s : State) (k : Nat) (x : Link) : State := s.modArm fun a => { a with links := a.links.put {} k x }
def State.modLink (s : State) (k : Nat) (f : Link → Link) : State := s.setLink k (f (s.link k))
/-- Counter c of link k (Table ARM-5). -/
def State.kCount (s : State) (k c : Nat) : State := s.count (R_ARM_LCNT k c)
/-- The link takes part (R291). -/
def State.linkOn (s : State) (k : Nat) : Bool := s.hasLink k && s.ARM_LCFG_ENABLE k == 1
/-- The link is UP. -/
def State.linkUp (s : State) (k : Nat) : Bool := (s.link k).state == 3
/-- Links of a role: 0 uplink, 1 downlink, 2 ring-east, 3 ring-west. -/
def State.linksOf (s : State) (role : Nat) : List Nat := (List.range 8).filter (fun k => s.linkOn k && s.ARM_LCFG_ROLE k == role)
/-- A ring link. -/
def State.isRing (s : State) (k : Nat) : Bool := decide (2 ≤ s.ARM_LCFG_ROLE k)
/-- The device is a twin's active side, or no twin (Table ARM-1 ACTIVE). -/
def State.activeBit (s : State) : Bool := s.PBR_CFG_TWIN == 0 || s.glb.active
/-- A cell that the device originates. -/
def State.newCell (s : State) (cls dest : Nat) (payload : Bytes) : TxCell :=
  { cls := cls, active := s.activeBit, side := s.glb.side, dest := dest, source := s.ARM_ID_DEVICE_ID, payload := payload }

/-- Header bytes of a cell with a SEQ (Table ARM-1). -/
def TxCell.header (c : TxCell) (seq : Nat) : Bytes :=
  beBytes 1 (16 + c.cls % 8) ++ beBytes 1 (b1 c.active * 128 + b1 c.side * 64 + b1 c.late * 32 + b1 c.resend * 16) ++
    beBytes 2 (c.dest % 16384) ++ beBytes 2 (c.source % 16384) ++ beBytes 1 c.hop ++ beBytes 1 (c.dom % 16) ++ beBytes 2 seq ++
    beBytes 2 (c.flow % 8192) ++ beBytes 2 c.payload.length ++ beBytes 1 (c.prio % 8) ++ [0]

/-- All bytes of a cell, with its trailer (R296, R297). -/
def TxCell.bytes (c : TxCell) (seq : Nat) : Bytes :=
  let b := c.header seq ++ c.payload
  b ++ beBytes 4 (foldCrc c.source c.flow seq b)

/-- Order of a class on the link (Table ARM-2). -/
def classOrder (cls : Nat) : Nat :=
  match cls with
  | 5 => 1
  | 4 => 2
  | 0 => 3
  | 1 => 3
  | 3 => 4
  | 6 => 5
  | _ => 6

/-- Queue a cell for link k; a link that is not UP drops it. -/
def State.queueCell (s : State) (k : Nat) (c : TxCell) : State :=
  if s.linkUp k then s.modLink k fun l => { l with txq := l.txq ++ [c] } else (s.kCount k 5).armFlag 8

/-- A cell leaves at once without SEQ: HELLO and HELLO_ACK (R297). On an UP link it is a block at the transmit point (05_sentences_checks.md
R112, R113), its fold prefix formed with the SEQ of 0 that its header holds. -/
def State.sendPlain (s : State) (k : Nat) (c : TxCell) : State :=
  let bs := c.bytes 0
  ((s.kCount k 1).when (s.linkUp k) fun s => s.snoop 5 k bs none (foldPrefix c.source c.flow 0)).emit (.cell k bs)

/-- The HELLO payload: KIND, device ID, side, ACTIVE, role, link number, VERSION, in the order of R292. -/
def State.helloPayload (s : State) (k : Nat) : Bytes :=
  [2] ++ beBytes 2 s.ARM_ID_DEVICE_ID ++ beBytes 1 (b1 s.glb.side) ++ beBytes 1 (b1 s.activeBit) ++ beBytes 1 (s.ARM_LCFG_ROLE k) ++
    beBytes 1 k ++ [1]

/-- Send a HELLO on link k. -/
def State.sendHello (s : State) (k : Nat) : State := s.sendPlain k (s.newCell 3 16383 (s.helloPayload k))

/-! The active uplink (R303). -/

/-- Uplinks that data cells of the device go on (R303). -/
def State.dataUplinks (s : State) : List Nat :=
  if s.ARM_CFG_UP_MODE = 1 then (s.linksOf 0).filter s.linkUp else s.arm.active.toList

/-- The preferred uplink: PREF = 1, or the only one. -/
def State.prefUplink (s : State) : Option Nat :=
  match (s.linksOf 0).find? (fun k => s.ARM_LCFG_PREF k == 1) with
  | some k => some k
  | none => (s.linksOf 0).head?

/-- A data class cell. -/
def TxCell.isData (c : TxCell) : Bool := c.cls == 0 || c.cls == 1 || c.cls == 2 || c.cls == 5

/-- The cells queued for an uplink that is no longer the active one are discarded and count UPLINK_DROP (R286): the data classes, which alone
go by the active uplink. With UP_MODE = 1 an old uplink that is still UP goes on carrying them (R303). -/
def State.dropQueued (s : State) (k : Nat) : State :=
  let gone := ((s.link k).txq.filter TxCell.isData).length
  if gone = 0 ∨ (s.ARM_CFG_UP_MODE = 1 ∧ s.linkUp k) then s
  else ((s.modLink k fun l => { l with txq := l.txq.filter (fun c => !c.isData) }).countN (R_EGR_GCNT 2) gone).egrFlag 6

/-- The active uplink becomes another (R62, R286, R303). The ARM source counts its samples anew and keeps its state: a qualified source stays
qualified unless its samples stop for 10 ms (R62; that only GOOD restarts is a DESIGN CHOICE, log entry 132). -/
def State.setUplink (s : State) (a : Option Nat) : State :=
  if a = s.arm.active then s
  else
    let s1 := match s.arm.active with
      | some k => s.dropQueued k
      | none => s
    let s2 := (s1.modArm fun x => { x with active := a }).armFlag 3
    s2.setSrc 3 { s2.src 3 with good := 0, first := none }

/-- The active uplink after a link came up or went down (R303). -/
def State.chooseUplink (s : State) : State :=
  let up := (s.linksOf 0).filter s.linkUp
  let best := match s.prefUplink with
    | some p => if up.contains p then some p else up.head?
    | none => none
  match s.arm.active with
  | some a => if up.contains a then s else s.setUplink best
  | none => s.setUplink best

/-- The preferred uplink has been UP for 10 s (UPLINK_REVERT). -/
def State.revertUplink (s : State) : State :=
  match s.prefUplink with
  | some p => if s.ARM_CFG_REVERT = 1 ∧ s.linkUp p ∧ s.arm.active.isSome then s.setUplink (some p) else s
  | none => s

/-- The other ring link. -/
def State.otherRing (s : State) (k : Nat) : Option Nat :=
  if s.ARM_LCFG_ROLE k = 2 then (s.linksOf 3).head? else if s.ARM_LCFG_ROLE k = 3 then (s.linksOf 2).head? else none

/-- The link a route code names (R302). -/
def State.codeLink (s : State) (dest : Nat) : Option Nat :=
  let c := bits (s.reg (R_ARM_ROUTE (dest / 8))).toNat (4 * (dest % 8)) 4
  if c < 8 then some c else if c = 8 then s.arm.active else none

/-- Steering: a ring link that is not UP gives way to the other one (R304). The answer's flag says that it did. -/
def State.steer (s : State) (k : Nat) : Option (Nat × Bool) :=
  if s.linkUp k then some (k, false)
  else if s.isRing k then
    match s.otherRing k with
    | some o => if s.linkUp o then some (o, true) else none
    | none => none
  else none

/-- Queue a cell for link k or, where it is a ring link that is down, for the other (R304). One that finds neither is dropped and counts RX_DROP
on the link it was received on (R302), one that the device originates on link k (log entry 145). -/
def State.sendSteered (s : State) (k : Nat) (c : TxCell) : State :=
  match s.steer k with
  | some (o, true) => (s.kCount k 13).queueCell o c
  | some (o, false) => s.queueCell o c
  | none => (s.kCount (c.via.getD k) 5).armFlag 8

/-! What the device originates (R299, R309). -/

/-- A cell that a standby keeps from uplinks counts SUPPRESSED on each of them, and once in EGR_GCNT (Table EGR-4, Table ARM-4). -/
def State.suppressUp (s : State) (ks : List Nat) : State :=
  (s.forEach ks fun s k => s.kCount k 14).when (ks != []) fun s => s.count (R_EGR_GCNT 3)

/-- Nothing of data classes leaves a standby or a device outside RUN and SHED (Table ARM-4). -/
def State.sendUp (s : State) (f : Nat → TxCell) : State :=
  if s.quiet then s.suppressUp s.dataUplinks
  else if !s.outOn then s
  else s.forEach s.dataUplinks fun s k => s.queueCell k (f k)

/-- Pieces of at most n bytes, with their offsets. -/
def piecesOf (n : Nat) : Nat → Nat → Bytes → List (Nat × Bytes)
  | 0, _, _ => []
  | fuel + 1, o, bs => if bs.length ≤ n then [(o, bs)] else (o, bs.take n) :: piecesOf n fuel (o + n) (bs.drop n)

/-- MARKS of a record entry (R299). -/
def fragMarks (s : State) (r : Rec) : Nat :=
  b1 r.settle * 16 + b1 r.resampled * 8 + b1 r.noisy * 4 + b1 r.lost * 2 + b1 (r.step != s.tim.step)

/-- Record entries of one record: at most 224 bytes of it each (R299). -/
def recEntries (s : State) (r : Rec) : List Bytes :=
  (piecesOf 224 (r.data.length + 1) 0 r.data).map fun p =>
    beBytes 2 (r.flow % 8192) ++ beBytes 2 r.data.length ++ beBytes 2 p.1 ++ beBytes 2 (fragMarks s r) ++ p.2

/-- Pack entries into payloads behind SET_TIME (R299). -/
def packEntries (t : Nat) : List Bytes → Option Bytes → List Bytes
  | [], none => []
  | [], some cur => [cur]
  | e :: r, none => packEntries t r (some (beBytes 8 (dev64 t) ++ e))
  | e :: r, some cur => if cur.length + e.length ≤ 240 then packEntries t r (some (cur ++ e)) else cur :: packEntries t r (some (beBytes 8 (dev64 t) ++ e))

/-- Class 0 cells sent so far for a set. -/
def State.fragsSent (s : State) (d t : Nat) : Nat :=
  match s.arm.sent.find? (fun x => x.1 == d && x.2.1 == t) with
  | some x => x.2.2
  | none => 0

/-- Queue one class 0 cell and, where an uplink takes it, count it for its set. -/
def State.sendFragment (s : State) (d t : Nat) (late resend : Bool) (payload : Bytes) : State :=
  let s1 := s.sendUp fun k => { s.newCell 0 (s.link k).neighId payload with dom := d, late := late, resend := resend }
  let n := s.fragsSent d t + 1
  if late || s.quiet || !s.outOn || s.dataUplinks == [] then s1
  else s1.modArm fun a => { a with sent := (d, t, n) :: a.sent.filter (fun x => !(x.1 == d && x.2.1 == t)) }

/-- Send the records waiting for domain d, packed by set (FRAGMENT_SEND, R207, R299). -/
def State.sendFragments (s : State) (d : Nat) : State :=
  let mine := s.arm.frags.filter (fun f => f.dom == d)
  let s1 := s.modArm fun a => { a with frags := a.frags.filter (fun f => f.dom != d) }
  let keys := (mine.map (fun f => (f.t, f.late, f.resend))).eraseDups
  keys.foldl (fun s key =>
    let es := (mine.filter (fun f => f.t == key.1 && f.late == key.2.1 && f.resend == key.2.2)).flatMap (fun f => recEntries s f.body)
    (packEntries key.1 es none).foldl (fun s p => s.sendFragment d key.1 key.2.1 key.2.2 p) s) s1

/-- The completion marker of a released set, behind its fragments (R207, R299). -/
def State.sendMarker (s : State) (x : RelSet) : State :=
  let s1 := s.sendFragments x.dom
  let payload := beBytes 8 (dev64 x.t) ++ beBytes 1 x.cause ++ [0] ++ beBytes 2 x.flags ++ beBytes 2 x.waited ++ beBytes 2 x.missing ++
    beBytes 2 x.presentCount ++ beBytes 2 (s1.fragsSent x.dom x.t)
  (s1.sendUp fun k => { s1.newCell 1 (s1.link k).neighId payload with dom := x.dom }).modArm fun a =>
    { a with sent := a.sent.filter (fun y => !(y.1 == x.dom && y.2.1 == x.t)) }

/-- A record joins the present window of its domain. -/
def State.addFragment (s : State) (d t : Nat) (late resend : Bool) (r : Rec) : State :=
  s.modArm fun a => { a with frags := a.frags ++ [⟨d, t, late, resend, r⟩] }

/-- A raw frame goes upward as class 2 cells (R286, R299). -/
def State.sendRaw (s : State) (flow prio : Nat) (x : Sentence) (data : Bytes) (offGrid : Bool) : State :=
  let marks := b1 x.noisy * 4 + b1 x.noCs * 2 + b1 x.checkFailed + b1 offGrid * 8
  if s.quiet then s.sendUp fun k => s.newCell 2 (s.link k).neighId []
  else
    (piecesOf 224 (data.length + 1) 0 data).foldl (fun s p =>
      s.sendUp fun k =>
        { s.newCell 2 (s.link k).neighId (beBytes 8 (dev64 x.stamp) ++ beBytes 1 x.step.toNat ++ beBytes 1 marks ++ beBytes 2 data.length ++
            beBytes 2 p.1 ++ [0, 0] ++ p.2) with flow := flow, prio := prio }) s

/-- One class 5 alarm cell for a condition that fired (R248, R309). -/
def State.sendAlarm (s : State) (t fired tcState : Nat) : State :=
  s.sendUp fun k => s.newCell 5 (s.link k).neighId (beBytes 8 (dev64 t) ++ beBytes 4 fired ++ beBytes 4 tcState)

/-- E in ns for a cell, all ones while unknown. -/
def State.boundWord (s : State) : Nat := match s.errBound with
  | some e => min 0xFFFFFFFF e
  | none => 0xFFFFFFFF

/-- The status payload (R309). -/
def State.statusPayload (s : State) : Bytes :=
  beBytes 1 s.glb.mode.code ++ beBytes 1 s.glb.shed ++ beBytes 1 s.tim.quality ++ beBytes 1 (b1 s.activeBit) ++ beBytes 4 s.boundWord ++
    (List.range 16).flatMap (fun d => beBytes 8 (if s.ALN_DCFG_STREAM_UP d = 1 then dev64 (s.dom d).cursor else 0))

/-- A status cell on every UP link (STATUS_CELL_SEND, R309). -/
def State.sendStatus (s : State) : State :=
  s.forEach ((List.range 8).filter s.linkUp) fun s k => s.queueCell k (s.newCell 6 (s.link k).neighId s.statusPayload)

/-- A class 4 payload (R306). -/
def timePayload (kind exch stamp e quality step : Nat) : Bytes :=
  beBytes 1 kind ++ beBytes 2 exch ++ beBytes 8 (dev64 stamp) ++ beBytes 4 e ++ beBytes 1 quality ++ beBytes 1 step

/-- Class 4 may be sent on link k (Table ARM-4). -/
def State.timeOk (s : State) (k : Nat) : Bool :=
  s.linkUp k && (s.outOn || (s.quiet && s.ARM_LCFG_ROLE k == 1))

/-- The parent starts an exchange on link k (TIME_EXCHANGE_START, R306). -/
def State.startExchange (s : State) (k : Nat) : State :=
  if s.ARM_LCFG_ROLE k = 1 ∧ s.timeOk k then
    let n := ((s.link k).exchNo + 1) % 65536
    (s.modLink k fun l => { l with exchNo := n }).queueCell k
      (s.newCell 4 (s.link k).neighId (timePayload 0 n 0 s.boundWord s.tim.quality s.tim.step.toNat))
  else s

/-! The link scheduler (R272, R298). -/

/-- The raw frame of a class 2 cell. -/
def TxCell.frame (c : TxCell) : FrameKey := ⟨c.via, c.source, c.flow, c.payload.take 12⟩

/-- A class 2 cell carries the last bytes of its frame: OFFSET and its bytes reach LEN (R299). -/
def TxCell.endsFrame (c : TxCell) : Bool :=
  decide (beNat ((c.payload.drop 10).take 2) ≤ beNat ((c.payload.drop 12).take 2) + (c.payload.length - 16))

/-- Round robin among the flows that wait with class 2 cells: the one served longest ago, the earlier queued one on a tie. -/
def nextFlow (served : List (Nat × Nat)) (flows : List (Nat × Nat)) : Option (Nat × Nat) :=
  flows.foldl (fun a f =>
    match a with
    | none => some f
    | some b => if served.idxOf b < served.idxOf f then some f else some b) none

/-- A further piece of a frame may still come to this device. -/
def State.moreComes (s : State) (f : FrameKey) : Bool :=
  match f.via with
  | some v => (s.link v).arriving == some f
  | none => false

/-- The cell of link k that leaves next: the first class of Table ARM-2 that waits; within class 2 the frame that is being sent, for whose next
piece a relay waits while it may still come, then priority and round robin among the flows (R272, R298). -/
def State.nextCell (s : State) (k : Nat) : Option TxCell :=
  let l := s.link k
  let best := (l.txq.map (fun c => classOrder c.cls)).foldl min 7
  if best < 6 then l.txq.find? (fun c => classOrder c.cls == best)
  else
    let raw := l.txq.filter (fun c => classOrder c.cls == 6)
    let choose :=
      let p := (raw.map (·.prio)).foldl min 7
      let cand := raw.filter (fun c => c.prio == p)
      (nextFlow l.served (cand.map (fun c => (c.source, c.flow)))).bind fun f => cand.find? (fun c => (c.source, c.flow) == f)
    match l.rawOpen with
    | none => choose
    | some n =>
      match raw.find? (fun c => c.frame == n) with
      | some c => some c
      | none => if s.moreComes n then none else choose

/-- A class 4 cell takes its stamp as it leaves (R306). -/
def stampCell (c : TxCell) (now : Nat) : TxCell :=
  if c.cls = 4 ∧ (c.payload.headD 2).toNat < 2 then
    { c with payload := c.payload.take 3 ++ beBytes 8 (dev64 now) ++ c.payload.drop 11 }
  else c

/-- Link k sends its next cell (SCHEDULER_GRANT). -/
def State.grantLink (s : State) (k : Nat) : State :=
  if !s.linkUp k then s
  else
    match s.nextCell k with
    | none => s
    | some c =>
      let (s, lost) := s.useEntry 11 (s.now * 8 + k)
      if lost then (s.modLink k fun l => { l with txq := l.txq.erase c }).kCount k 2 |>.armFlag 6
      else
      let c' := stampCell c s.now
      let seq := (s.link k).txSeq
      let bs := c'.bytes seq
      let s1 := s.modLink k fun l =>
        { l with
          txq := l.txq.erase c, txSeq := (seq + 1) % 65536
          rawOpen := if c.cls = 2 then (if c.endsFrame then none else some c.frame) else l.rawOpen
          served := if c.cls = 2 then (c.source, c.flow) :: l.served.filter (· != (c.source, c.flow)) else l.served
          exch := if c.cls = 4 ∧ (c.payload.headD 0).toNat = 1 then l.exch.map (fun e => { e with t3 := some (s.now, s.tim.step) }) else l.exch }
      ((s1.kCount k 1).snoop 5 k bs none (foldPrefix c'.source c'.flow seq)).emit (.cell k bs)

/-! States of a link (R292 to R295). -/

/-- Cells that wait for a link that goes down: steered, or dropped (R294, R302, R304). -/
def State.rerouteQueue (s : State) (k : Nat) : State :=
  let q := (s.link k).txq
  let s1 := s.modLink k fun l => { l with txq := [], rawOpen := none, served := [] }
  q.foldl (fun s c => if c.cls = 4 ∨ c.cls = 6 then s else s.sendSteered k c) s1

/-- A ring link changed between UP and down (R304). -/
def State.steerFlag (s : State) (k : Nat) : State := if s.isRing k then s.armFlag 4 else s

/-- A link leaves HELLO or UP for another state. What it has received stays valid, the pieces of a frame that is not yet whole among it (R294).
An exchange that is open lacks a cell (R307). Where it was the active uplink the choice of another comes first, since the data cells queued for
it are discarded (R286); the rest of its queue is steered or dropped (R302, R304). -/
def State.leaveUp (s : State) (k st : Nat) : State :=
  let was := s.linkUp k
  let open' := (s.link k).exch.isSome
  let s1 := s.modLink k fun l =>
    { l with state := st, blockLock := false, hellos := 0, acked := false, exch := none, lastSync := none, window := [], arriving := none }
  let s2 := s1.when open' fun s => s.kCount k 11
  if was then ((s2.when (s.arm.active == some k) State.chooseUplink).rerouteQueue k).steerFlag k else s2

/-- Block lock is gained (LINK_BLOCK_LOCK, R292). -/
def State.gainLock (s : State) (k : Nat) : State :=
  if (s.link k).state = 1 then s.modLink k fun l => { l with state := 2, blockLock := true, hellos := 0, acked := false } else s

/-- A link is lost (LINK_DOWN, R294). -/
def State.loseLink (s : State) (k : Nat) : State :=
  if (s.link k).state = 2 ∨ (s.link k).state = 3 then ((s.leaveUp k 1).kCount k 9).armFlag 1 else s

/-- Bring-up has not ended in 100 ms (LINK_BRINGUP_TIMEOUT, R292). -/
def State.bringupTimeout (s : State) (k : Nat) : State :=
  if (s.link k).state = 1 ∨ (s.link k).state = 2 then (s.leaveUp k 1).kCount k 9 else s

/-- A link in FAULT tries again (LINK_FAULT_RETRY, R292). -/
def State.retryLink (s : State) (k : Nat) : State :=
  if (s.link k).state = 4 then s.modLink k fun l => { l with state := 1, cause := 0 } else s

/-- A link enters FAULT with a cause (R293, R295). -/
def State.faultLink (s : State) (k cause : Nat) : State :=
  ((s.leaveUp k 4).modLink k fun l => { l with cause := cause }).armFlag 2

/-- An elastic buffer overruns or underruns (ELASTIC_BUFFER_ERROR, R295). -/
def State.ebError (s : State) (k : Nat) : State :=
  if (s.link k).state = 2 ∨ (s.link k).state = 3 then ((s.faultLink k 4).kCount k 8).armFlag 5 else s

/-- Three HELLOs accepted each way: the link is UP (R292). -/
def State.linkIsUp (s : State) (k : Nat) : State :=
  if (s.link k).state = 2 ∧ 3 ≤ (s.link k).hellos ∧ (s.link k).acked then
    (((s.modLink k fun l => { l with state := 3, txSeq := 0, rxSeq := 0, txq := [] }).armFlag 0).chooseUplink).steerFlag k
  else s

/-- Power down a link: OFF. Its buffers are lost with it, and each frame of which it held pieces counts FRAGMENT (R299). -/
def State.linkOff (s : State) (k : Nat) : State :=
  let s1 := s.leaveUp k 0
  (s1.countN (R_ARM_LCNT k 12) (s.link k).rejoin.length).modLink k fun l =>
    { l with txq := [], rxBuf := [], rejoin := [], cause := 0, delay := none, theta := 0 }

/-- Power the enabled links that are OFF and not shed: entry to RUN or STANDBY, or a commit (R292, R311). -/
def State.startLinks (s : State) : State :=
  s.forEach ((List.range 8).filter s.linkOn) fun s k =>
    if (s.link k).state = 0 ∧ (s.link k).shed = false then s.modLink k fun l => { l with state := 1 } else s

/-- Entry to STANDBY: the uplinks keep only what a standby may send on them, classes 3 and 6; each data cell that waited is SUPPRESSED (Table
ARM-4, Table EGR-4). -/
def State.linksStandby (s : State) : State :=
  s.forEach ((s.linksOf 0).filter s.linkUp) fun s k =>
    let gone := ((s.link k).txq.filter TxCell.isData).length
    ((s.modLink k fun l => { l with txq := l.txq.filter (fun c => c.cls == 3 || c.cls == 6), rawOpen := none }).countN (R_ARM_LCNT k 14) gone).countN
      (R_EGR_GCNT 3) gone

/-- Every link OFF (RESET, PLINTH, HALT). -/
def State.linksOff (s : State) : State :=
  (s.forEach (List.range 8) fun s k => s.modLink k fun l => { l with txq := [] }).forEach (List.range 8) fun s k =>
    if (s.link k).state = 0 then s else s.linkOff k

/-- SHED2: links marked sheddable go OFF and their flows go SILENT (R311, 02_modes.md Table MOD-5). -/
def State.shedLinks (s : State) : State :=
  s.forEach ((List.range 8).filter (fun k => s.linkOn k && s.ARM_LCFG_SHEDDABLE k == 1)) fun s k =>
    let s1 := (s.linkOff k).modLink k fun l => { l with shed := true }
    if s1.keyShed (s1.ARM_LCFG_KEY_INDEX k) then s1.silenceSource 2 (s1.ARM_LCFG_KEY_INDEX k) else s1

/-- The links return from SHED2. -/
def State.unshedLinks (s : State) : State :=
  (s.forEach (List.range 8) fun s k => s.modLink k fun l => { l with shed := false }).startLinks

/-- What a commit does to the links; `old` holds the registers before it (R311, R312). -/
def State.commitLinks (s old : State) : State :=
  let s1 := s.forEach (List.range 8) fun s k =>
    if !s.linkOn k then (if (s.link k).state = 0 then s else s.linkOff k)
    else if old.ARM_LCFG_ROLE k ≠ s.ARM_LCFG_ROLE k ∨ old.ARM_LCFG_KEY_INDEX k ≠ s.ARM_LCFG_KEY_INDEX k then
      (if (s.link k).state = 0 then s else s.leaveUp k 1)
    else s
  if s1.live then s1.startLinks.chooseUplink else s1

/-- An image is refused for its links (R302, R312). -/
def State.armRefuses (s : State) : Bool :=
  let up := s.linksOf 0
  let codes := s.regs.any (fun x => decide (0xBC000 ≤ x.1 ∧ x.1 < 0xBE000) &&
    (List.range 8).any (fun i => decide (9 ≤ bits x.2.toNat (4 * i) 4 ∧ bits x.2.toNat (4 * i) 4 ≤ 14)))
  up.any (fun k => s.ARM_LCFG_SHEDDABLE k == 1) || decide (2 < up.length) || decide (7 < (s.linksOf 1).length) ||
    ((s.linksOf 2 == []) != (s.linksOf 3 == [])) ||
    (up.length == 2 && (up.filter (fun k => s.ARM_LCFG_PREF k == 1)).length != 1) ||
    ((List.range 8).any (fun k => s.ARM_LCFG_ENABLE k == 1) && (s.ARM_ID_DEVICE_ID == 0 || s.ARM_ID_DEVICE_ID == 16383)) || codes

end Sys2Proof.Machine
end

