-- ==== Sys2Proof/Machine/Egress.lean ====
section
/-! DEFINITION. Egress and listeners (13_egress.md): the C37.118.2 frames of released sets and late supplements, datagrams,
the schedulers of the network ports, serial staging, host queues, delivery to listener groups, and the ALARM_OUT pins. -/

namespace Sys2Proof.Machine

def State.modEgr (s : State) (f : Egr → Egr) : State := { s with egr := f s.egr }
/-- Counter c of stream i (Table EGR-5). -/
def State.sCount (s : State) (i c : Nat) : State := s.count (R_EGR_SCNT i c)
def State.outStream (s : State) (i : Nat) : OutStream := s.egr.streams.at {} i
def State.modStream (s : State) (i : Nat) (f : OutStream → OutStream) : State :=
  s.modEgr fun e => { e with streams := e.streams.put {} i (f (s.outStream i)) }
def State.netOut (s : State) (k : Nat) : NetOut := s.egr.ports.at {} k
def State.setNetOut (s : State) (k : Nat) (x : NetOut) : State := s.modEgr fun e => { e with ports := e.ports.put {} k x }
def State.stage (s : State) (n : Nat) : Stage := s.egr.stages.at {} n
def State.setStage (s : State) (n : Nat) (x : Stage) : State := s.modEgr fun e => { e with stages := e.stages.put {} n x }
def State.hq (s : State) (h : Nat) : HostQueue := s.egr.hqs.at {} h
def State.setHq (s : State) (h : Nat) (x : HostQueue) : State := s.modEgr fun e => { e with hqs := e.hqs.put {} h x }
def State.pin (s : State) (p : Nat) : AlarmPin := s.egr.pins.at {} p
def State.setPin (s : State) (p : Nat) (x : AlarmPin) : State := s.modEgr fun e => { e with pins := e.pins.put {} p x }

/-! Blocks (R277 to R279). -/

/-- Entry b of the block table. -/
def State.blkEntry (s : State) (b : Nat) : Nat := s.egr.blocks.le 0 (8 * b) 8
def blkMember (v : Nat) : Nat := bits v 0 13
def blkPmu (v : Nat) : Nat := bits v 13 4
/-- FORMAT, PHNMR, ANNMR and DGNMR of a block. -/
def blkShape (v : Nat) : Nat × Nat × Nat × Nat := (bits v 17 4, bits v 21 8, bits v 29 8, bits v 37 8)

/-- Elements of a block after STAT: true for a binary32, false for a 16-bit word; the digital words are counted apart. -/
def blkValues (v : Nat) : List Bool :=
  let (f, ph, an, _) := blkShape v
  List.replicate (2 * ph) (bitOf f 1) ++ List.replicate 2 (bitOf f 3) ++ List.replicate an (bitOf f 2)

/-- Length of a block in bytes (R277). -/
def blkLen (v : Nat) : Nat := 2 + ((blkValues v).map (fun b => if b then 4 else 2)).foldl (· + ·) 0 + 2 * (blkShape v).2.2.2

/-- Fill of a block (Table EGR-2 row 1). -/
def blkFill (v : Nat) : Bytes :=
  [0x80, 0x00] ++ (blkValues v).flatMap (fun b => if b then [0x7F, 0xC0, 0x00, 0x00] else [0x80, 0x00]) ++
    List.replicate (2 * (blkShape v).2.2.2) 0

/-- Swap elements of a record to big-endian (R278). -/
def swapValues : List Bool → Bytes → Bytes
  | [], _ => []
  | b :: r, bs => (bs.take (if b then 4 else 2)).reverse ++ swapValues r (bs.drop (if b then 4 else 2))

/-- The block table entry that descriptor n gives its PMU block i, for its shape. -/
def State.descShape (s : State) (n i : Nat) : Nat × Nat × Nat × Nat :=
  let w := s.layoutWord n (2 + 2 * i)
  (bits w 0 4, bits w 4 8, bits w 12 8, bits w 20 8)

/-- Flow f has a descriptor: its LAYOUT is 1 to CHS_LAYOUT.COUNT (R279). -/
def State.descOf (s : State) (f : Nat) : Option Nat :=
  if s.fLayout f = 0 ∨ s.CHS_LAYOUT_COUNT < s.fLayout f then none else some (s.fLayout f)

/-- Byte offset in the record of a block whose shape the flow's descriptor confirms (R279). -/
def State.shapeOfs (s : State) (f : Nat) (v : Nat) (data : Bytes) : Option Nat :=
  match s.descOf f with
  | none => none
  | some n =>
    if blkPmu v < s.layoutWord n 0 % 16 ∧ s.descShape n (blkPmu v) = blkShape v ∧ s.layoutWord n 1 % 65536 = data.length then
      some (s.layoutWord n (3 + 2 * blkPmu v) % 65536)
    else none

/-- Content of a member that a block may take: flow, record bytes, SETTLE, RESAMPLED. -/
abbrev BlockSrc := Nat × Bytes × Bool × Bool

/-- STAT of a block from the record's STAT (Table EGR-2 rows 2 to 4). -/
def blkStat (stat : Nat) (settle resampled : Bool) : Nat :=
  let a := stat &&& 0xEFFF
  if settle then a ||| 0xC200 else if resampled then a ||| 0x0200 else a

/-- One block of a frame; the flag says that a present member's shape did not match (R278, R279). -/
def State.block (s : State) (v : Nat) (src : Option BlockSrc) : Bytes × Bool :=
  match src with
  | none => (blkFill v, false)
  | some (f, data, settle, resampled) =>
    match s.shapeOfs f v data with
    | none => (blkFill v, true)
    | some o =>
      let b := data.drop o
      let vals := blkValues v
      (beBytes 2 (blkStat (leNat (b.take 2)) settle resampled) ++
        swapValues (vals ++ List.replicate (blkShape v).2.2.2 false) (b.drop 2), false)

/-- What a member entry gives a block (Table EGR-2 row 1: nothing unless PRESENT, not LOST and not INCOMPLETE). -/
def Member.blockSrc (m : Member) : Option BlockSrc :=
  if m.present && !m.lost && !m.incomplete then
    some (m.flow, m.recs.flatMap (·.data), m.recs.any (·.settle), m.recs.any (·.resampled))
  else none

/-- Block table entries of stream i. -/
def State.streamBlocks (s : State) (i : Nat) : List Nat :=
  (List.range (s.EGR_SCFG2_NBLK i)).map (fun b => s.blkEntry (s.EGR_SBLK_FIRST i + b))

/-- A C37.118.2 data frame (R277): layout, VERSION and TIME_BASE of stream `lay`, IDCODE of stream `i`. -/
def State.c37Frame (s : State) (i lay t quality : Nat) (src : Nat → Option BlockSrc) : Bytes × Nat :=
  let bl := (s.streamBlocks lay).map (fun v => s.block v (src (blkMember v)))
  let body := bl.flatMap (·.1)
  let (soc, frac) := s.socOf t (s.EGR_STB_TIME_BASE lay)
  let b := [0xAA, if s.EGR_SCFG_VERSION lay = 1 then 0x02 else 0x01] ++ beBytes 2 (body.length + 16) ++
    beBytes 2 (s.EGR_SCFG2_IDCODE i) ++ beBytes 4 soc ++ beBytes 1 (s.timeQualityByte t quality) ++ beBytes 3 frac ++ body
  (b ++ beBytes 2 (checkOf 0 b), (bl.filter (·.2)).length)

/-! Datagrams (R276). -/

/-- Overwrite bytes at a place. -/
def patch (l : Bytes) (a : Nat) (bs : Bytes) : Bytes := splice l a bs

/-- 16-bit ones' complement check of bytes. -/
def onesCheck (bs : Bytes) (extra : Nat) : Nat := 0xFFFF - foldSum (inetSum bs + extra)

/-- Start of the IP header: after one 802.1Q tag, if there is one. -/
def ipStart (f : Bytes) : Nat := if beNat ((f.drop 12).take 2) = 0x8100 then 18 else 14

/-- Write the UDP length and checksum of a frame whose UDP header starts at u and whose IP header starts at ip. -/
def udpFinish (f : Bytes) (ip u : Nat) (v6 : Bool) : Bytes :=
  let len := f.length - u
  let a := patch (patch f (u + 4) (beBytes 2 len)) (u + 6) [0, 0]
  let addrs := if v6 then (a.drop (ip + 8)).take 32 else (a.drop (ip + 12)).take 8
  let c := onesCheck (a.drop u) (inetSum addrs + 17 + len)
  patch a (u + 6) (beBytes 2 (if c = 0 then 0xFFFF else c))

/-- A payload behind stream i's copy of its template (R276). -/
def State.datagram (s : State) (i : Nat) (payload : Bytes) : Bytes :=
  let h := s.EGR_SHDR_HDR_LEN i
  let k := s.EGR_SCFG_PORT i
  let mac := beBytes 2 (s.SNT_NPMACH_MAC_HI k) ++ beBytes 4 (s.SNT_NPMACL_MAC_LO k)
  let f := patch (s.egr.tmpl.bytes 0 (128 * i) h ++ payload) 6 mac
  let ip := ipStart f
  let u := h - 8
  if s.EGR_SCFG_IPV6 i = 1 then udpFinish (patch f (ip + 4) (beBytes 2 (f.length - u))) ip u true
  else
    let id := ((Config.ipIdent i).toNat + (s.outStream i).frames) % 65536
    let f1 := patch (patch (patch f (ip + 2) (beBytes 2 (f.length - ip))) (ip + 4) (beBytes 2 id)) (ip + 10) [0, 0]
    let f2 := patch f1 (ip + 10) (beBytes 2 (onesCheck ((f1.drop ip).take (u - ip)) 0))
    udpFinish f2 ip u false

/-- Where the PTP message of a frame stands, with its IP header's place: Ethertype 0x88F7, or UDP port 319 (03_time_base.md,
PTP). -/
def ptpPlace (f : Bytes) : Option (Nat × Option (Nat × Bool)) :=
  let ip := ipStart f
  let et := beNat ((f.drop (ip - 2)).take 2)
  if et = 0x88F7 then some (ip, none)
  else
    match netKind et (f.drop ip) with
    | .udp v6 _ _ dp _ => if dp = 319 then some (ip + (if v6 then 48 else 28), some (ip, v6)) else none
    | _ => none

/-- A frame leaves NPk: event messages of PTP are stamped, and a one-step Sync or Pdelay_Resp has its time inserted
(03_time_base.md, PTP). -/
def State.sendFrame (s : State) (k : Nat) (f : Bytes) : State :=
  match ptpPlace f with
  | none => s.emit (.frame k f)
  | some (o, l3) =>
    let typ := (f.getD o 0).toNat % 16
    let twoStep := bitOf (f.getD (o + 6) 0).toNat 1
    if 3 < typ then s.emit (.frame k f)
    else if (typ = 0 ∨ typ = 3) ∧ twoStep = false then
      let g := patch f (o + 8) (beBytes 8 (beNat ((f.drop (o + 8)).take 8) + (Config.ptpResidence k s.tim.ticks).toNat))
      s.emit (.frame k (match l3 with
        | some (ip, v6) => udpFinish g ip (o - 8) v6
        | none => g))
    else (s.txStamp k s.now).emit (.frame k f)

/-! Schedulers (R271, R272): network ports NP0 to NP3 as 0 to 3, serial transmitters SP0 to SP95 as 12 to 107, the host-queue stager as
108; those of the Armature links, 4 to 11, are in the links. -/

/-- Scheduler of serial transmitter n. -/
def serialSched (n : Nat) : Nat := 12 + n
/-- Scheduler of the host-queue stager. -/
def stagerSched : Nat := 108

/-- Bytes of a frame on the wire: with FCS, at least 64. -/
def wireLen (n : Nat) : Nat := max 64 (n + 4)

/-- Queue a job at scheduler k (R271). -/
def State.portJob (s : State) (k prio src len : Nat) (j : EgrJob) : State :=
  (s.setNetOut k { s.netOut k with jobs := (s.netOut k).jobs ++ [{ prio := prio, src := src, len := len, job := j, id := s.egr.nextJob }] }).modEgr
    fun e => { e with nextJob := e.nextJob + 1 }

/-- Bytes of a SET or LATE frame laid out by stream `lay` behind stream i's template. -/
def State.frameLen (s : State) (i lay : Nat) : Nat :=
  s.EGR_SHDR_HDR_LEN i + 16 + ((s.streamBlocks lay).map blkLen).foldl (· + ·) 0

/-- One turn after another of deficit round robin: the source whose credit covers its next job (R272). -/
def drrNext (quantum : Nat) (len : Nat → Nat) : Nat → List (Nat × Nat × Bool) → Option (Nat × List (Nat × Nat × Bool))
  | 0, _ => none
  | _, [] => none
  | n + 1, (src, cr, had) :: r =>
    let c := if had then cr else cr + quantum
    if len src ≤ c then some (src, (src, c - len src, true) :: r) else drrNext quantum len n (r ++ [(src, c, false)])

/-- QUANTUM of a scheduler: bytes at a network port, one job elsewhere (R272). -/
def State.quantum (s : State) (k : Nat) : Nat := if k < 4 then s.EGR_PORTCFG_QUANTUM k else 1

/-- The job that scheduler k grants next, and the scheduler after it (R272). -/
def State.pickJob (s : State) (k : Nat) : Option (PortJob × NetOut) :=
  let o := s.netOut k
  let p := (o.jobs.map (·.prio)).foldl min 7
  let mine := o.jobs.filter (fun j => j.prio == p)
  let ring0 := o.rings.at [] p
  let ring := ring0 ++ (((mine.map (·.src)).eraseDups.filter (fun a => !ring0.any (fun x => x.1 == a))).map (fun a => (a, 0, false)))
  let len := fun a => match mine.find? (fun j => j.src == a) with
    | some j => j.len
    | none => 0
  let q := s.quantum k
  match drrNext q len ((9216 / max q 1 + 2) * ring.length) ring with
  | none => none
  | some (a, ring') =>
    match mine.find? (fun j => j.src == a) with
    | none => none
    | some j =>
      let jobs := o.jobs.erase j
      let left := ring'.filter (fun x => jobs.any (fun y => y.prio == p && y.src == x.1))
      some (j, { jobs := jobs, rings := o.rings.put [] p left, granted := o.granted })

/-! Frame builders (R274). -/

/-- A builder free for a job: 0 to 3 take only P0. -/
def State.freeBuilder (s : State) (prio : Nat) : Option Nat :=
  (List.range 16).find? (fun b => (decide (prio = 0) || decide (4 ≤ b)) && (s.egr.builders.at none b).isNone)

/-- Free builders take build jobs, oldest first within the highest priority waiting. -/
def State.fillBuilders : Nat → State → State
  | 0, s => s
  | fuel + 1, s =>
    let p := (s.egr.builds.map (·.1)).foldl min 7
    match s.egr.builds.find? (fun x => x.1 == p), s.freeBuilder p with
    | some x, some b =>
      State.fillBuilders fuel (s.modEgr fun e => { e with builds := e.builds.erase x, builders := e.builders.put none b (some x.2) })
    | _, _ => s

/-- Queue a job whose frame a builder makes. -/
def State.frameJob (s : State) (k prio src len : Nat) (j : EgrJob) : State :=
  let n := s.egr.nextJob
  ((s.portJob k prio src (wireLen len) j).modEgr fun e => { e with builds := e.builds ++ [(prio, k, n)] }).fillBuilders 16

/-- The frame of a job, with the number of SHAPE mismatches; the set time; and whether the set was EMPTY. -/
def State.buildFrame (s : State) (j : PortJob) : (Bytes × Nat) × Nat × Bool :=
  match j.job with
  | .set x => (s.c37Frame j.src j.src x.t x.quality (fun m => (x.members[m]?).bind Member.blockSrc), x.t, x.empty)
  | .late d t q rs =>
    let fs := s.members d
    (s.c37Frame j.src (s.EGR_SCFG_PAIR j.src) t q (fun m =>
      match fs[m]? with
      | some f =>
        match rs.find? (fun r => r.flow == f) with
        | some r => if r.lost then none else some (f, r.data, r.settle, r.resampled)
        | none => none
      | none => none), t, false)
  | _ => (([], 0), 0, false)

/-- A frame of stream i has been sent: FRAMES, and the IPv4 identification. -/
def State.frameSent (s : State) (i c : Nat) : State := (s.sCount i c).modStream i fun x => { x with frames := x.frames + 1 }

/-- A frame can go out through NPk: the port is not shed and is locked (R280). -/
def State.portOpen (s : State) (k : Nat) : Bool := !(s.np k).shed && (s.np k).blockLock

/-- A job finds its port down: PORT_DOWN counts for a stream (R280). -/
def State.portDown (s : State) (src : Nat) : State := (s.when (decide (src < 256)) fun s => s.sCount src 6).egrFlag 5

/-- The payload of a granted SET or LATE frame leaves NPk. -/
def State.sendBuilt (s : State) (k : Nat) (j : PortJob) (pl : Bytes) : State :=
  if !s.portOpen k then s.portDown j.src
  else
    let i := j.src
    let (_, t, empty) := s.buildFrame j
    let s3 := ((s.snoop 3 i pl none []).sendFrame k (s.datagram i pl)).frameSent i (if s.EGR_SCFG_KIND i = 1 then 9 else 0)
    let s4 := s3.when empty fun s => s.sCount i 1
    (s4.setReg (R_EGR_SLASTSEC i) (BitVec.ofNat 32 (t / nsPerSec))).setReg (R_EGR_SLASTNS i) (BitVec.ofNat 32 (t % nsPerSec))

/-- Network port k grants its next job (SCHEDULER_GRANT, R272, R280). A job whose frame is not built yet holds the port (Sequence EGR-1). -/
def State.grantPort (s : State) (k : Nat) : State :=
  if !s.hasNp k || !s.outOn || (s.netOut k).granted.isSome then s
  else
    match s.pickJob k with
    | none => s
    | some (j, o) =>
      let s1 := s.setNetOut k o
      if !s.portOpen k then (s1.modEgr fun e => { e with builds := e.builds.filter (fun x => x.2 != (k, j.id)) }).portDown j.src
      else
        match j.job, j.built with
        | .raw f, _ => s1.sendFrame k f
        | .data pl, _ => ((s1.snoop 3 j.src pl none []).sendFrame k (s1.datagram j.src pl)).frameSent j.src 0
        | _, some pl => s1.sendBuilt k j pl
        | _, none => s1.setNetOut k { o with granted := some j }

/-- Builder b completes its frame (FRAME_BUILD_DONE, R274): it leaves if its port has granted it, else it waits for the grant. The builder takes
its next job. -/
def State.builderDone (s : State) (b : Nat) : State :=
  match s.egr.builders.at none b with
  | none => s
  | some (k, n) =>
    let (s0, lost) := s.useEntry 9 b
    let s1 := s0.modEgr fun e => { e with builders := e.builders.put none b none }
    let o := s1.netOut k
    let granted := o.granted.filter (fun j => j.id == n)
    let s2 := match granted, o.jobs.find? (fun j => j.id == n) with
      | none, none => s1
      | some j, _ =>
        let s2 := s1.setNetOut k { o with granted := none }
        if lost then s2.count (R_PRT_ECCDROP 9)
        else
          let ((pl, bad), _, _) := s2.buildFrame j
          (s2.when (decide (0 < bad)) fun s => (s.countN (R_EGR_SCNT j.src 4) bad).egrFlag 4).sendBuilt k j pl
      | none, some j =>
        if lost then (s1.setNetOut k { o with jobs := o.jobs.erase j }).count (R_PRT_ECCDROP 9)
        else
          let ((pl, bad), _, _) := s1.buildFrame j
          (s1.setNetOut k { o with jobs := o.jobs.map (fun (y : PortJob) => if y.id = n then { y with built := some pl } else y) }).when (decide (0 < bad))
            fun s => (s.countN (R_EGR_SCNT j.src 4) bad).egrFlag 4
    s2.fillBuilders 16

/-! Sets and late supplements (R275, R280, R281). -/

/-- Enabled streams of a kind. -/
def State.streamsOf (s : State) (kind : Nat) : List Nat :=
  (List.range 256).filter (fun i => s.EGR_SCFG_ENABLE i == 1 && s.EGR_SCFG_KIND i == kind)

/-- Advance OUT_SEQ of stream i. -/
def State.seqUp (s : State) (i : Nat) : State := s.setReg (R_EGR_SSEQ i) (s.reg (R_EGR_SSEQ i) + 1)

/-- A released set reaches egress: OUT_SEQ of each SET stream of its domain advances; the standby sends nothing (R275). -/
def State.egressSet (s : State) (x : RelSet) : State :=
  let ss := (s.streamsOf 0).filter (fun i => s.EGR_SCFG_DOMAIN i == x.dom)
  let sb := s.quiet
  let s1 := s.forEach ss fun s i =>
    ((s.seqUp i).modStream i fun y => { y with rels := if sb then x.t :: y.rels else [x.t] }).when sb fun s => s.sCount i 5
  if s.outOn && ss != [] then s1.modEgr fun e => { e with setQ := e.setQ ++ [x] } else s1

/-- Build jobs of a released set, one for each of its streams (BUILD_JOB_QUEUE, R280). -/
def State.buildJobs (s : State) (x : RelSet) : State :=
  s.forEach ((s.streamsOf 0).filter (fun i => s.EGR_SCFG_DOMAIN i == x.dom)) fun s i =>
    if s.EGR_SCTL_TXON i = 0 then s.sCount i 3
    else if x.empty ∧ s.EGR_SCFG_EMPTY_SEND i = 0 then s.sCount i 2
    else s.frameJob (s.EGR_SCFG_PORT i) (s.EGR_SCFG_PRIO i) i (s.frameLen i i) (.set x)

/-- A gather ends: its frame is queued (R281). -/
def State.sendGather (s : State) (g : Gather) : State :=
  let i := g.stream
  let s1 := s.modEgr fun e => { e with gathers := e.gathers.erase g }
  if s.quiet then s1.sCount i 5
  else if !s.outOn then s1
  else if s.EGR_SCTL_TXON i = 0 then s1.sCount i 3
  else s1.frameJob (s.EGR_SCFG_PORT i) (s.EGR_SCFG_PRIO i) i (s.frameLen i (s.EGR_SCFG_PAIR i)) (.late g.dom g.t g.quality g.recs)

/-- LATE_GATHER_END: the oldest gather of stream i ends. -/
def State.endGather (s : State) (i : Nat) : State :=
  match s.egr.gathers.find? (fun g => g.stream == i) with
  | some g => s.sendGather g
  | none => s

/-- A late supplement reaches egress (R281). -/
def State.egressLate (s : State) (d t quality : Nat) (r : Rec) : State :=
  let idx := (s.members d).idxOf r.flow
  s.forEach ((s.streamsOf 1).filter (fun i => s.EGR_SCFG_DOMAIN (s.EGR_SCFG_PAIR i) == d)) fun s i =>
    if !(s.streamBlocks (s.EGR_SCFG_PAIR i)).any (fun v => blkMember v == idx) then s.sCount i 7
    else
      match s.egr.gathers.find? (fun g => g.stream == i && g.t == t && g.dom == d) with
      | some g =>
        s.modEgr fun e => { e with gathers := e.gathers.map (fun y => if y = g then { g with recs := g.recs ++ [r] } else y) }
      | none =>
        let g : Gather := ⟨i, d, t, quality, [r]⟩
        let s1 := s.modEgr fun e => { e with gathers := e.gathers ++ [g] }
        if s.EGR_SBLK_LATE_HOLD_US i = 0 then s1.sendGather g else s1

/-! Sentences (R282). -/

/-- Length of the tag block in front of an ASCII sentence. -/
def tagLenOf (bs : Bytes) : Nat :=
  if bs.head? = some 0x5C then 2 + ((bs.drop 1).takeWhile (· != 0x5C)).length else 0

/-- The bytes form an ASCII sentence, by their opener. -/
def isAscii (bs : Bytes) : Bool := isStart ((bs.drop (tagLenOf bs)).headD 0).toNat

/-- Talker identifier and formatter of an ASCII sentence (R97, R107). -/
def asciiKey (bs : Bytes) : Nat × Nat :=
  let a := ((bs.drop (tagLenOf bs + 1)).takeWhile (fun b => b != 0x2C && b != 0x2A)).take 8
  if a.head? = some 0x50 then (0x5000, beNat (padTo 4 ((a.drop 1).take 3))) else (beNat (padTo 2 a), beNat (padTo 4 ((a.drop 2).take 3)))

/-- Two upper-case hex digits. -/
def hexPair (v : Nat) : Bytes := [BitVec.ofNat 8 (hexChar (v / 16)), BitVec.ofNat 8 (hexChar v)]

/-- FIX_CHK (R282). -/
def fixCheck (ascii : Bool) (fmt : Nat) (bs : Bytes) : Bytes :=
  if ascii then
    let tl := tagLenOf bs
    let body := bs.drop (tl + 1)
    let cov := body.takeWhile (· != 0x2A)
    let star := tl + 1 + cov.length
    if star + 3 ≤ bs.length then patch bs (star + 1) (hexPair (xor8 cov)) else bs
  else if fmt = 1 ∧ 2 ≤ bs.length then
    bs.take (bs.length - 2) ++ beBytes 2 (checkOf 0 (bs.take (bs.length - 2)))
  else bs

/-- Decimal digits of a number below 1,000. -/
def dec3 (v : Nat) : Bytes :=
  let d := fun (x : Nat) => BitVec.ofNat 8 (48 + x % 10)
  if v < 10 then [d v] else if v < 100 then [d (v / 10), d v] else [d (v / 100), d (v / 10), d v]

/-- The source name of an IEC450 stream: the template bytes after the UDP header (R282). -/
def State.sourceName (s : State) (i : Nat) : Bytes :=
  (s.egr.tmpl.bytes 0 (128 * i + s.EGR_SHDR_HDR_LEN i) 15).takeWhile (· != 0)

/-- Payload of an IEC450 datagram whose OUT_SEQ is k (R282). -/
def State.iecPayload (s : State) (i k : Nat) (bs : Bytes) : Bytes :=
  let tag : Bytes := [0x73, 0x3A] ++ s.sourceName i ++ [0x2C, 0x6E, 0x3A] ++ dec3 (k % 1000)
  iecHeader ++ (if tagLenOf bs = 0 then [0x5C] ++ tag ++ [0x2A] ++ hexPair (xor8 tag) ++ [0x5C] else []) ++ bs

/-- A sentence goes to stream i at a priority (R280, R282, Table EGR-4). -/
def State.toStream (s : State) (i prio fmt : Nat) (bs : Bytes) : State :=
  let kind := s.EGR_SCFG_KIND i
  if s.EGR_SCFG_ENABLE i = 0 ∨ kind < 2 then s
  else if s.quiet then s.sCount i 5
  else if !s.outOn || (kind == 3 && !isAscii bs) then s
  else if s.EGR_SCTL_TXON i = 0 then s.sCount i 3
  else
    let s1 := if kind = 3 then s.seqUp i else s
    let pl := if kind = 3 then s1.iecPayload i (s1.reg (R_EGR_SSEQ i)).toNat bs
      else if s.EGR_SCFG_FIX_CHK i = 1 then fixCheck (fmt == 0 || fmt == 3) fmt bs else bs
    if 9212 < s.EGR_SHDR_HDR_LEN i + pl.length then s.sCount i 8
    else s1.portJob (s.EGR_SCFG_PORT i) prio i (wireLen (s.EGR_SHDR_HDR_LEN i + pl.length)) (.data pl)

/-! Serial staging (R283). -/

/-- Counter c of serial listener n. -/
def State.lvCount (s : State) (n c : Nat) : State := s.count (R_EGR_LVCNT n c)

/-- Bytes held by a staging first-in first-out. -/
def Stage.held (x : Stage) : Nat :=
  (x.fifo.map (·.length)).foldl (· + ·) 0 + (match x.cur with
    | some (b, m) => b.length - m
    | none => 0)

/-- Stage a sentence for serial transmitter n under a key. -/
def State.stageSentence (s : State) (n : Nat) (key : List Nat) (bs : Bytes) : State :=
  let x := s.stage n
  let slots := s.EGR_LVCFG_SLOTS n
  if s.bankHeld (n / 12) then s
  else if slots = 0 then
    if 4096 < x.held + bs.length then (s.lvCount n 3).egrFlag 3 else s.setStage n { x with fifo := x.fifo ++ [bs] }
  else if 1024 < bs.length then (s.lvCount n 2).egrFlag 2
  else if x.slots.any (fun y => y.1 == key) then
    (s.setStage n { x with slots := x.slots.map (fun y => if y.1 = key then (key, bs) else y) }).lvCount n 1
  else if min slots 64 ≤ x.slots.length then (s.lvCount n 2).egrFlag 2
  else s.setStage n { x with slots := x.slots ++ [(key, bs)] }

/-- The key of a sentence in latest-value slots. -/
def State.lvKey (s : State) (n flow : Nat) (x : Sentence) (bs : Bytes) : List Nat :=
  if x.fmt = 0 ∨ x.fmt = 3 then
    [1, (asciiKey bs).1, (asciiKey bs).2] ++ (if s.EGR_LVCFG_KEY_PORT n = 1 then [x.typ, x.idx] else [])
  else [0, flow]

/-- The sentence that is next to enter the transmit queue; the check units of its point watch it as they stand when it begins. -/
def Stage.begin (x : Stage) (ws : List Watch) : Stage :=
  match x.cur, x.fifo, x.slots with
  | some _, _, _ => x
  | none, b :: r, _ => { x with cur := some (b, 0), fifo := r, cus := ws }
  | none, [], (_, b) :: r => { x with cur := some (b, 0), slots := r, cus := ws }
  | none, [], [] => x

/-- Move characters into the transmit queue of port n while it has room. -/
def State.feedStage : Nat → State → Nat → State
  | 0, s, _ => s
  | fuel + 1, s, n =>
    let x := (s.stage n).begin (s.watches 1 n)
    match x.cur with
    | none => s
    | some (b, m) =>
      let s0 := s.setStage n x
      if 64 ≤ (s.port n).txq.length then s0
      else
        match b.drop m with
        | [] => State.feedStage fuel (s0.setStage n { x with cur := none, cus := [] }) n
        | c :: r =>
          let p := s0.port n
          let s1 := s0.setPort n { p with txq := p.txq ++ [{ d := c.setWidth 9 }] }
          if r = [] then
            let asc := if isAscii b then ascSeen { kind := .ascii .cr, chars := b, tagLen := tagLenOf b } else none
            State.feedStage fuel (((s1.setStage n { x with cur := none, cus := [] }).lvCount n 0).snoopBy x.cus b asc []) n
          else State.feedStage fuel (s1.setStage n { x with cur := some (b, m + 1) }) n

/-- SERIAL_STAGING_FEED: as many characters as there is room for. -/
def State.feedSerial (s : State) (n : Nat) : State :=
  if s.txOn n then
    let (s1, lost) := s.useEntry 9 (256 + n)
    let s2 := if lost then (s1.setStage n { (s1.stage n).begin [] with cur := none, cus := [] }).count (R_PRT_ECCDROP 9) else s1
    s2.feedStage 200 n
  else s

/-- Discard the staging of a port and what waits for it. -/
def State.clearStage (s : State) (n : Nat) : State := (s.setStage n {}).setNetOut (serialSched n) {}

/-! Host queues (R284, R285). -/

/-- Space that host queue h holds. -/
def HostQueue.used (q : HostQueue) : Nat := (q.entries.map (fun e => 32 + e.data.length)).foldl (· + ·) 0

/-- The MSI-X vector of host queue h (15_host_interface.md Table HST-7). -/
def hqVector (h : Nat) : Nat := 2 + h

/-- Word 0 of a descriptor. -/
def HqEntry.word0 (e : HqEntry) : Nat := e.seq % 65536 + e.data.length % 16384 * 65536

/-- Put an entry of a kind into host queue h for a sentence (R284, Table EGR-3): false when it does not fit. -/
def State.hqPut (s : State) (h kind flow : Nat) (x : Sentence) (offGrid : Bool) (data : Bytes) : State × Bool :=
  let q := s.hq h
  if s.glb.mode = .halt ∨ s.glb.mode = .reset then (s, false)
  else if 1024 * s.EGR_HQCFG_KIB h < q.used + 32 + data.length then ((s.count (R_EGR_GCNT 0)).egrFlag 0, false)
  else
    let w1 := flow % 8192 + kind * 2 ^ 13 + x.idx % 256 * 2 ^ 16 + x.typ % 4 * 2 ^ 24 + b1 x.noisy * 2 ^ 26 + b1 x.noCs * 2 ^ 27 +
      b1 x.checkFailed * 2 ^ 28 + b1 offGrid * 2 ^ 29
    let e : HqEntry := ⟨q.next, [w1, dev64 x.stamp % 2 ^ 32, dev64 x.stamp / 2 ^ 32, x.step.toNat, 0, 0, 0], data⟩
    let s1 := s.setHq h { entries := q.entries ++ [e], next := (q.next + 1) % 65536 }
    (if q.entries = [] ∧ s.EGR_HQCFG_DMA h = 0 then s1.raiseVector (hqVector h) else s1, true)

/-- The host acknowledges SEQ v of queue h (HOST_QUEUE_ACK, R285). -/
def State.hqAck (s : State) (h v : Nat) : State :=
  match (s.hq h).entries, s.EGR_HQCFG_DMA h with
  | e :: r, 0 =>
    if e.seq = v then
      let s1 := s.setHq h { s.hq h with entries := r }
      if r = [] then s1 else s1.raiseVector (hqVector h)
    else (s.count (R_EGR_GCNT 1)).egrFlag 1
  | _, _ => (s.count (R_EGR_GCNT 1)).egrFlag 1

/-- An entry for host queue h that a run makes is a job at its flow's priority (R271). The entries of other units are P0: nothing goes ahead of
them, and they are put at once (log entry 144). -/
def State.hqJob (s : State) (prio h kind flow : Nat) (x : Sentence) (offGrid : Bool) (data : Bytes) : State :=
  if s.glb.mode = .halt ∨ s.glb.mode = .reset then s else s.portJob stagerSched prio flow 1 (.entry h kind flow x offGrid data)

/-- The scheduler of a serial transmitter, or of the host-queue stager, grants its next job: into the staging area, or into the host queue
(SCHEDULER_GRANT, R272, R283, R284). -/
def State.grantStage (s : State) (k : Nat) : State :=
  match s.pickJob k with
  | none => s
  | some (j, o) =>
    let s1 := s.setNetOut k o
    match j.job with
    | .serial key bs => if s.outOn then s1.stageSentence (k - 12) key bs else s1
    | .entry h kind flow x offGrid bs => (s1.hqPut h kind flow x offGrid bs).1
    | _ => s1

/-! Listener groups (R131, R271, R286, R287). -/

/-- Word w of group g's entry. -/
def State.groupWord (s : State) (g w : Nat) : Nat := (s.reg (R_FLW_LGRP g w)).toNat
/-- Serial transmitters of a group. -/
def State.groupSerial (s : State) (g : Nat) : List Nat := (List.range 96).filter (fun n => bitOf (s.groupWord g (n / 32)) (n % 32))
/-- Host queues of a group. -/
def State.groupHqs (s : State) (g : Nat) : List Nat := (List.range 16).filter (fun h => bitOf (s.groupWord g 3) h)
/-- Streams of a group. -/
def State.groupStreams (s : State) (g : Nat) : List Nat :=
  ((List.range 8).map (fun i => bits (s.groupWord g (4 + i / 2)) (16 * (i % 2)) 16)).filterMap
    (fun v => if bitOf v 15 then some (v % 256) else none)

/-- Deliver bytes to every listener of group g: host queues show `kind` (R131, R271). -/
def State.toGroup (s : State) (g flow prio kind : Nat) (x : Sentence) (offGrid : Bool) (bs : Bytes) : State :=
  let up := bitOf (s.groupWord g 3) 16
  if x.checkFailed && !bitOf (s.groupWord g 3) 17 then s.fCount flow 7
  else if s.groupSerial g == [] && s.groupHqs g == [] && s.groupStreams g == [] && !up then s.count (R_FLW_GCNT 6)
  else
    let s1 := s.forEach (s.groupSerial g) fun s n =>
      if s.quiet then s.count (R_EGR_GCNT 3)
      else if s.outOn then s.portJob (serialSched n) prio flow 1 (.serial (s.lvKey n flow x bs) bs) else s
    let s2 := s1.forEach (s.groupHqs g) fun s h => s.hqJob prio h kind flow x offGrid bs
    let s3 := s2.when up fun s => s.sendRaw flow prio x bs offGrid
    s3.forEach (s.groupStreams g) fun s i => s.toStream i prio x.fmt bs

/-- Swap the elements of every PMU block of a C37.118 record back to wire form, with bit 12 of each STAT set (R287). -/
def State.wireBlocks (s : State) (n : Nat) : Nat → Bytes → Bytes
  | 0, bs => bs
  | i + 1, bs =>
    let (f, ph, an, dg) := s.descShape n i
    let o := s.layoutWord n (3 + 2 * i) % 65536
    let vals := List.replicate (2 * ph) (bitOf f 1) ++ List.replicate 2 (bitOf f 3) ++ List.replicate an (bitOf f 2) ++ List.replicate dg false
    let b := bs.drop o
    State.wireBlocks s n i (patch bs o (beBytes 2 (leNat (b.take 2) ||| 0x1000) ++ swapValues vals (b.drop 2)))

/-- A not-on-grid record in the form its listeners get; the flag says SHAPE (R287). -/
def State.wireForm (s : State) (flow fmt : Nat) (bs : Bytes) : Bytes × Bool :=
  if fmt ≠ 1 then (bs, false)
  else
    match s.descOf flow with
    | none => (bs, true)
    | some n =>
      if s.layoutWord n 1 % 65536 ≠ bs.length then (bs, true)
      else (fixCheck false 1 (s.wireBlocks n (s.layoutWord n 0 % 16) bs), false)

/-- Deliver a HOLD record that bypasses lane and alignment during SHED1 (R287). SHAPE is a stream's counter: it counts for
each stream of the group, and sets the flag. -/
def State.offGridToGroup (s : State) (flow : Nat) (x : Sentence) (bs : Bytes) : State :=
  let g := s.fGroup flow
  let (w, bad) := s.wireForm flow x.fmt bs
  let s1 := s.when bad fun s => (s.forEach (s.groupStreams g) fun s i => s.sCount i 4).egrFlag 4
  s1.toGroup g flow (s.fPrio flow) 6 x true w

/-! ALARM_OUT (R288). -/

/-- Level driven for a state of the pin: with DRIVE = 1 a high level is released. -/
def State.alarmLevel (s : State) (p : Nat) (asserted : Bool) : Option Bool :=
  let lvl := asserted != (s.EGR_ALARM_POL p == 1)
  if s.EGR_ALARM_DRIVE p = 1 ∧ lvl then none else some lvl

/-- The pin takes a state. -/
def State.drivePin (s : State) (p : Nat) (x : AlarmPin) : State :=
  let s1 := s.setPin p x
  if x.out = (s.pin p).out then s1 else s1.emit (.alarmPin p x.out)

/-- Pin p as the mode and its request have it (R288, R289); after a takeover the requests count from the first set analysed in RUN
(11_analysis_triggers.md Table ANA-3). -/
def State.alarmPinNow (s : State) (p : Nat) : State :=
  let y := s.pin p
  if s.outOn then
    let req := bitOf s.ana.request p && !s.ana.unseen
    if req && !y.asserted then s.drivePin p ⟨true, s.EGR_ALARM_MIN_WIDTH_MS p != 0, s.alarmLevel p true⟩
    else if !req && !y.holding then s.drivePin p ⟨false, false, s.alarmLevel p false⟩
    else s.drivePin p { y with out := s.alarmLevel p y.asserted }
  else if s.quiet then
    s.drivePin p ⟨false, false, if s.EGR_ALARM_DRIVE p = 1 then none else s.alarmLevel p false⟩
  else s.drivePin p ⟨false, false, some (s.glb.failLevels.getLsbD p)⟩

/-- All pins. -/
def State.followAlarms (s : State) : State := s.forEach [0, 1, 2, 3] State.alarmPinNow

/-- MIN_WIDTH_MS ends (ALARM_MIN_WIDTH_END). -/
def State.minWidthEnd (s : State) (p : Nat) : State :=
  if (s.pin p).holding then (s.setPin p { s.pin p with holding := false }).alarmPinNow p else s

/-! Modes and commits (R275, R289, R290). -/

/-- Discard the jobs of every output but the host-queue stager, the builders, the sets and the gathers. -/
def State.dropJobs (s : State) : State :=
  s.modEgr fun e => { e with setQ := [], ports := e.ports.filter (fun x => x.1 == stagerSched), builds := [], builders := [], gathers := [] }

/-- STANDBY: nothing staged, no frame waits. -/
def State.egressStandby (s : State) : State := (s.dropJobs.modEgr fun e => { e with stages := [] }).followAlarms

/-- The header template of stream i has the form HDR_LEN gives (R276, R290). -/
def State.headerFits (s : State) (i : Nat) : Bool :=
  let f := s.egr.tmpl.bytes 0 (128 * i) 128
  let ip := ipStart f
  let et := beNat ((f.drop (ip - 2)).take 2)
  let h := s.EGR_SHDR_HDR_LEN i
  if s.EGR_SCFG_IPV6 i = 1 then et == 0x86DD && h == ip + 48
  else et == 0x0800 && (f.getD ip 0).toNat / 16 == 4 && decide (5 ≤ (f.getD ip 0).toNat % 16) && h == ip + 4 * ((f.getD ip 0).toNat % 16) + 8

/-- An image is refused for egress (R290, R131). -/
def State.egrRefuses (s : State) : Bool :=
  (List.range 256).any (fun i =>
    s.EGR_SCFG_ENABLE i == 1 &&
      ((s.EGR_SCFG_KIND i == 0 && s.ALN_DCFG_ENABLE (s.EGR_SCFG_DOMAIN i) != 1) ||
       (s.EGR_SCFG_KIND i == 1 && !(s.EGR_SCFG_ENABLE (s.EGR_SCFG_PAIR i) == 1 && s.EGR_SCFG_KIND (s.EGR_SCFG_PAIR i) == 0)) ||
       (s.EGR_SCFG_KIND i == 0 &&
          ((s.streamBlocks i).any (fun v => decide ((s.members (s.EGR_SCFG_DOMAIN i)).length ≤ blkMember v)) ||
           decide (9212 < s.frameLen i i))) ||
       (s.EGR_SCFG_KIND i == 1 && decide (9212 < s.frameLen i (s.EGR_SCFG_PAIR i))) || decide (512 < s.EGR_SCFG2_NBLK i) ||
       !s.headerFits i)) ||
  (List.range 1024).any (fun g => (s.groupStreams g).any (fun i => decide (s.EGR_SCFG_KIND i < 2) && s.EGR_SCFG_ENABLE i == 1)) ||
  decide (1024 < ((List.range 16).map (fun h => s.EGR_HQCFG_KIB h)).foldl (· + ·) 0)

/-- What a commit does to egress; `old` holds the registers before it (R275, R280): a stream that is enabled starts with
OUT_SEQ 0, and TXON takes TXON_INIT. -/
def State.commitEgress (s old : State) : State :=
  let s1 := s.forEach (List.range 256) fun s i =>
    let changed := [R_EGR_SCFG i, R_EGR_SCFG2 i, R_EGR_STB i, R_EGR_SBLK i, R_EGR_SHDR i].any (fun o => old.reg o != s.reg o)
    let s' := s.setReg (R_EGR_SCTL i) (BitVec.ofNat 32 (s.EGR_SCFG_TXON_INIT i))
    if s.EGR_SCFG_ENABLE i = 1 ∧ old.EGR_SCFG_ENABLE i = 1 ∧ old.EGR_SCFG_KIND i = s.EGR_SCFG_KIND i ∧
        old.EGR_SCFG_DOMAIN i = s.EGR_SCFG_DOMAIN i then s'
    else if s.EGR_SCFG_ENABLE i = 1 ∨ changed then
      (s'.setReg (R_EGR_SSEQ i) 0).modEgr fun e => { e with streams := e.streams.put {} i {} }
    else s'
  s1.followAlarms

end Sys2Proof.Machine
end

