-- ==== Sys2Proof/Machine/Armature.lean ====
section
/-! DEFINITION. What a device does with cells it receives (14_armature_links.md R293, R296 to R302, R305 to R309). -/

namespace Sys2Proof.Machine

/-- A received cell taken apart: the cell, its SEQ and its trailer. -/
structure RxCell where
  c : TxCell
  seq : Nat
  trailer : Nat
  deriving DecidableEq, Repr

/-- The two bytes at offset o. -/
def be2 (bs : Bytes) (o : Nat) : Nat := beNat ((bs.drop o).take 2)
/-- The byte at offset o. -/
def byteAt (bs : Bytes) (o : Nat) : Nat := (bs.getD o 0).toNat

/-- The header has no reserved bit set and holds values that a cell may have (Table ARM-1). -/
def headerOk (bs : Bytes) : Bool :=
  byteAt bs 0 / 8 == 2 && byteAt bs 0 % 8 != 7 && byteAt bs 1 % 16 == 0 && decide (be2 bs 2 < 16384) &&
    decide (1 ≤ be2 bs 4 ∧ be2 bs 4 < 16383) && decide (byteAt bs 7 < 16) && decide (be2 bs 10 < 8192) && decide (be2 bs 12 ≤ 240) &&
    decide (byteAt bs 14 < 8) && byteAt bs 15 == 0

/-- Take a cell apart: its header may be used when `headerOk` holds and the length agrees. -/
def parseCell (bs : Bytes) : RxCell :=
  let n := be2 bs 12
  { c := { cls := byteAt bs 0 % 8, active := bitOf (byteAt bs 1) 7, side := bitOf (byteAt bs 1) 6, late := bitOf (byteAt bs 1) 5,
           resend := bitOf (byteAt bs 1) 4, dest := be2 bs 2, source := be2 bs 4, hop := byteAt bs 6, dom := byteAt bs 7,
           flow := be2 bs 10, prio := byteAt bs 14, payload := (bs.drop 16).take n }
    seq := be2 bs 8
    trailer := beNat ((bs.drop (16 + n)).take 4) }

/-- HELLO or HELLO_ACK: a class 3 cell that takes no SEQ (R297, R308). -/
def RxCell.isHello (x : RxCell) : Bool := x.c.cls == 3 && (byteAt x.c.payload 0 == 2 || byteAt x.c.payload 0 == 3)

/-- The trailer holds with a SEQ (R297). -/
def RxCell.foldOk (x : RxCell) (bs : Bytes) (seq : Nat) : Bool :=
  foldCrc x.c.source x.c.flow seq (bs.take (bs.length - 4)) == x.trailer

/-- CHECK_FAIL at link k. -/
def State.cellCheckFail (s : State) (k : Nat) : State := (s.kCount k 2).armFlag 6

/-! Bring-up (R292, R293). -/

/-- Roles pair: uplink with downlink, ring-east with ring-west. -/
def rolesPair (a b : Nat) : Bool := (a == 0 && b == 1) || (a == 1 && b == 0) || (a == 2 && b == 3) || (a == 3 && b == 2)

/-- A HELLO is judged while the link is in HELLO (R293). -/
def State.judgeHello (s : State) (k : Nat) (p : Bytes) : State :=
  if (s.link k).state ≠ 2 then s
  else
    let id := be2 p 1
    if byteAt p 7 ≠ 1 then s.faultLink k 3
    else if id = 0 ∨ 16382 < id then s.modLink k fun l => { l with hellos := 0 }
    else if rolesPair (s.ARM_LCFG_ROLE k) (byteAt p 5) = false then s.faultLink k 1
    else if id = s.ARM_ID_DEVICE_ID then s.faultLink k 2
    else
      let s1 := s.modLink k fun l =>
        { l with neighId := id, neighSide := byteAt p 3 == 1, neighRole := byteAt p 5 % 4, hellos := min 3 (l.hellos + 1) }
      if (s1.link k).hellos = 3 then (s1.sendPlain k (s1.newCell 3 id [3])).linkIsUp k else s1

/-- HELLO_ACK: this device's HELLOs are accepted. -/
def State.helloAck (s : State) (k : Nat) : State :=
  if (s.link k).state = 2 then (s.modLink k fun l => { l with acked := true }).linkIsUp k else s

/-! Delivery (R299, R305 to R309). -/

/-- Bytes in the receive buffer of a link. -/
def Link.rxUsed (l : Link) : Nat :=
  (l.rxBuf.map (fun x => x.data.length)).foldl (· + ·) 0 + (l.rejoin.map (fun r => r.data.length)).foldl (· + ·) 0

/-- A sentence enters the receive buffer of link k, or is dropped whole (R298). -/
def State.linkSentence (s : State) (k : Nat) (x : Sentence) : State :=
  if 65536 < (s.link k).rxUsed + x.data.length then (s.kCount k 5).armFlag 8
  else s.modLink k fun l => { l with rxBuf := l.rxBuf ++ [x] }

/-- A class 0 or 1 cell becomes one sentence of FORMAT 4 (R299). -/
def State.fragmentSentence (s : State) (k : Nat) (c : TxCell) (hdr : Bytes) (st : Nat) (step : BitVec 8) : State :=
  let d := hdr ++ c.payload
  s.linkSentence k { typ := 2, idx := s.ARM_LCFG_KEY_INDEX k, fmt := 4, stamp := st, step := step, data := d, len := d.length,
                     ident := c.source, formatter := c.dom * 65536 }

/-- Rejoin the class 2 cells of a frame (R299). -/
def State.rejoinCell (s : State) (k : Nat) (c : TxCell) : State :=
  let p := c.payload
  let total := be2 p 10
  let ofs := be2 p 12
  let head := p.take 12
  let body := p.drop 16
  let old := (s.link k).rejoin.find? (fun r => r.source == c.source && r.flow == c.flow)
  let s0 := s.modLink k fun l => { l with rejoin := l.rejoin.filter (fun r => !(r.source == c.source && r.flow == c.flow)) }
  let lostOld := if old.isSome then s0.kCount k 12 else s0
  let finish := fun (s : State) (data : Bytes) =>
    if total < data.length then s.kCount k 12
    else if data.length < total then
      if 65536 < (s.link k).rxUsed + data.length then (s.kCount k 5).armFlag 8
      else s.modLink k fun l => { l with rejoin := l.rejoin ++ [⟨c.source, c.flow, total, head, data⟩] }
    else
      let m := byteAt p 9
      s.linkSentence k { typ := 2, idx := s.ARM_LCFG_KEY_INDEX k, fmt := 5, stamp := ofDev64 (beNat (p.take 8)),
                         step := BitVec.ofNat 8 (byteAt p 8), data := data, len := data.length, ident := c.source,
                         formatter := c.flow * 65536, noisy := bitOf m 2, noCs := bitOf m 1, checkFailed := bitOf m 0,
                         offGrid := bitOf m 3 }
  if ofs = 0 then finish lostOld body
  else
    match old with
    | some r => if r.head = head ∧ r.data.length = ofs then finish s0 (r.data ++ body) else s0.kCount k 12
    | none => s0.kCount k 12

/-- Exchanges whose SYNC is missing before one numbered `num` (R307); a number that goes back begins anew. -/
def Link.missedSyncs (l : Link) (num : Nat) : Nat :=
  match l.lastSync with
  | none => 0
  | some n => let d := (num + 65536 - n) % 65536; if 1 ≤ d ∧ d ≤ 32767 then d - 1 else 0

/-- Class 4 (R306, R307); `st` and `step` are the arrival stamp. Each exchange that is invalid counts TT_INVALID once: a DELAY_RESP of an exchange
that is no longer open, which the next SYNC has ended and counted, has no effect. -/
def State.timeCell (s : State) (k : Nat) (c : TxCell) (st : Nat) (step : BitVec 8) : State :=
  let p := c.payload
  let num := be2 p 1
  let stamp := ofDev64 (beNat ((p.drop 3).take 8))
  let bad := fun (s : State) => (s.kCount k 11).modLink k fun l => { l with exch := none }
  match byteAt p 0, s.ARM_LCFG_ROLE k with
  | 0, 0 =>
    let s1 := (if (s.link k).exch.isSome then bad s else s).countN (R_ARM_LCNT k 11) ((s.link k).missedSyncs num)
    let s2 := s1.modLink k fun l => { l with lastSync := some num, exch := some { num := num, t1 := stamp, t2 := st, parentStep := byteAt p 16, ownStep := step } }
    if s2.timeOk k then s2.queueCell k (s2.newCell 4 (s2.link k).neighId (timePayload 1 num 0 s2.boundWord s2.tim.quality s2.tim.step.toNat)) else s2
  | 1, 1 =>
    if s.timeOk k then
      s.queueCell k (s.newCell 4 (s.link k).neighId (timePayload 2 num st s.boundWord s.tim.quality s.tim.step.toNat))
    else s
  | 2, 0 =>
    match (s.link k).exch with
    | some e =>
      if e.num ≠ num then s
      else match e.t3 with
      | some (t3, step3) =>
        let a : Int := (e.t2 : Int) - e.t1
        let b : Int := (stamp : Int) - t3
        let d2 := a + b
        let far := match (s.link k).delay with
          | some d => decide (200 < (d2 - 2 * (d : Int)).natAbs)
          | none => false
        if 1000000 < st - e.t2 ∨ d2 < 0 ∨ e.parentStep ≠ byteAt p 16 ∨ e.ownStep ≠ step3 ∨ far = true then bad s
        else
          let th2 := (b - a) * 1000 + sxt 32 (s.reg (R_ARM_LASYM k)).toNat
          s.modLink k fun l => { l with exch := none, window := l.window ++ [(th2, d2, beNat ((p.drop 11).take 4), byteAt p 15)] }
      | none => bad s
    | none => s
  | _, _ => s

/-- Alarms of a source go further up when its route code is 8 or names an uplink (R309). -/
def State.alarmsGoUp (s : State) (source : Nat) : Bool :=
  let c := bits (s.reg (R_ARM_ROUTE (source / 8))).toNat (4 * (source % 8)) 4
  c == 8 || (decide (c < 8) && s.ARM_LCFG_ROLE c == 0)

/-- Budget of relays for a cell (R302). -/
def State.hopBudget (s : State) (c : TxCell) : Nat :=
  if c.cls < 3 then bits (s.reg (R_ARM_DHOP (c.dom / 4))).toNat (8 * (c.dom % 4)) 8 else s.ARM_CFG_MGMT_HOPS

/-- Relay a cell that arrived on link k to the links `os`, `dest o` its destination on link o (R302, Table ARM-4). One that is past its budget is
dropped and counts once. -/
def State.relayTo (s : State) (k : Nat) (os : List Nat) (dest : Nat → Nat) (c : TxCell) : State :=
  if os = [] then s
  else if s.hopBudget c < c.hop + 1 then (s.kCount k 6).armFlag 7
  else
    let up := os.filter (fun o => s.quiet && s.ARM_LCFG_ROLE o == 0)
    (s.suppressUp up).forEach (os.filter (fun o => !up.contains o)) fun s o =>
      s.sendSteered o { c with hop := c.hop + 1, dest := dest o, via := some k }

/-- Class 5: to the alarm host queue, and further upward (R309). Table EGR-3 has no KIND for it: 6 is used. -/
def State.alarmCell (s : State) (k : Nat) (c : TxCell) (hdr : Bytes) (st : Nat) (step : BitVec 8) : State :=
  let x : Sentence := { typ := 2, idx := s.ARM_LCFG_KEY_INDEX k, fmt := 4, stamp := st, step := step }
  let s1 := (s.hqPut s.ARM_CFG_ALARM_HQ 6 0 x false (hdr ++ c.payload)).1
  s1.when (s1.alarmsGoUp c.source) fun s1 => s1.relayTo k (s1.dataUplinks.filter (· != k)) (fun a => (s1.link a).neighId) c

/-- Class 6: the neighbour's status (R309). -/
def State.statusCell (s : State) (k : Nat) (c : TxCell) : State :=
  let p := c.payload
  s.modLink k fun l => { l with neighMode := byteAt p 0 % 8, neighShed := byteAt p 1 % 8, neighQuality := byteAt p 2 % 16,
                                neighActive := bitOf (byteAt p 3) 0 }

/-- A cell of the device's own is delivered; `hdr` is its header as received. -/
def State.deliverCell (s : State) (k : Nat) (c : TxCell) (hdr : Bytes) (st : Nat) (step : BitVec 8) : State :=
  match c.cls with
  | 0 | 1 => s.fragmentSentence k c hdr st step
  | 2 => s.rejoinCell k c
  | 3 => if byteAt c.payload 0 < 2 then s.modArm fun a => { a with inbox := a.inbox ++ [(c.source, c.payload)] } else s
  | 4 => s.timeCell k c st step
  | 5 => s.alarmCell k c hdr st step
  | _ => s.statusCell k c

/-- Another link shares this link's KEY_INDEX: a parent of a twin child (R305). -/
def State.twinChild (s : State) (k : Nat) : Bool :=
  s.ARM_LCFG_ROLE k == 1 && (s.linksOf 1).any (fun o => o != k && s.ARM_LCFG_KEY_INDEX o == s.ARM_LCFG_KEY_INDEX k)

/-- The links that a cell for another device goes on (R302, R304): a data cell routed to code 8 goes as the device's own do (R303). -/
def State.relayLinks (s : State) (k : Nat) (c : TxCell) : List Nat :=
  let ring := (s.otherRing k).toList
  if c.isData && bits (s.reg (R_ARM_ROUTE (c.dest / 8))).toNat (4 * (c.dest % 8)) 4 == 8 && s.dataUplinks != [] then s.dataUplinks
  else match s.codeLink c.dest with
  | some o => if o = k ∧ s.isRing k then ring else [o]
  | none => if s.isRing k then ring else []

/-- Route an accepted cell (R301, R302, R305). -/
def State.routeCell (s : State) (k : Nat) (c : TxCell) (hdr : Bytes) (st : Nat) (step : BitVec 8) : State :=
  let own := s.ARM_ID_DEVICE_ID
  if c.dest = 0 then s.cellCheckFail k
  else if c.source = own then s.kCount k 7
  else if s.twinChild k ∧ c.isData ∧ c.active = false then s.kCount k 10
  else if c.dest = own then s.deliverCell k c hdr st step
  else if c.dest = 16383 then
    let s1 := s.deliverCell k c hdr st step
    if c.cls = 4 ∨ c.cls = 6 then s1
    else
      s1.relayTo k ((List.range 8).filter (fun o => o != k && s1.linkOn o && s1.linkUp o && s1.ARM_LCFG_ROLE o != 0)) (fun _ => c.dest) c
  else if c.cls = 4 ∨ c.cls = 6 then (s.kCount k 5).armFlag 8
  else
    match s.relayLinks k c with
    | [] => (s.kCount k 5).armFlag 8
    | os => s.relayTo k os (fun _ => c.dest) c

/-- The raw frame that link k is receiving, after a further cell (R298): a class 2 cell begins or goes on with one, or ends it; a gap in SEQ or a cell
that fails its check may have held the rest. -/
def Link.arrives (l : Link) (k : Nat) (c : TxCell) (gap : Bool) : Link :=
  if c.cls = 2 then { l with arriving := if c.endsFrame then none else some { c.frame with via := some k } }
  else if gap then { l with arriving := none } else l

/-- A cell arrives on link k, so many ns ago (CELL_RECEIVE, R296, R297). A cell cut off on the wire counts FRAGMENT. Whatever arrives at an UP link
is a block at its receive point (05_sentences_checks.md R112): the check units form their prefix with the SEQ expected, and with the SEQ in the
header for a HELLO, which takes none. -/
def State.receiveCell (s : State) (k : Nat) (bs : Bytes) (ago : Nat) : State :=
  let up := s.linkUp k
  if !s.live || !s.linkOn k || !(up || (s.link k).state == 2) then s
  else
  let exp := (s.link k).rxSeq
  let seen := parseCell bs
  let s := s.when up fun s => s.snoop 4 k bs none (foldPrefix seen.c.source seen.c.flow (if seen.isHello then seen.seq else exp))
  if bs.length < 20 then s.kCount k 12
  else if !headerOk bs then s.cellCheckFail k
  else if bs.length ≠ 20 + be2 bs 12 then s.kCount k 12
  else
    let x := parseCell bs
    let (st, step) := s.stampAt ago
    if x.isHello then
      if !x.foldOk bs x.seq then s.cellCheckFail k
      else
        let s1 := s.kCount k 0
        if byteAt x.c.payload 0 = 2 then s1.judgeHello k x.c.payload else s1.helloAck k
    else if !up then s
    else
      let take := fun (s : State) (seq : Nat) (gap : Bool) =>
        ((s.modLink k fun l => { l.arrives k x.c gap with rxSeq := (seq + 1) % 65536 }).kCount k 0).routeCell k x.c (bs.take 16) st step
      if x.foldOk bs exp then take s exp false
      else if x.foldOk bs x.seq then
        if 1 ≤ (x.seq + 65536 - exp) % 65536 ∧ (x.seq + 65536 - exp) % 65536 ≤ 32767 then take (s.kCount k 3) x.seq true else s.kCount k 4
      else s.cellCheckFail k

/-- The active side's takeover: every record of every pending set of a STREAM_UP domain is sent again (R300). -/
def State.resendPending (s : State) : State :=
  s.forEach (domList.filter (fun d => s.ALN_DCFG_STREAM_UP d == 1)) fun s d =>
    (s.dom d).pend.foldl (fun s p => p.recs.foldl (fun s r => s.addFragment d p.t false true r) s) s

/-- Mean θ and d of a link's window, with E and QUALITY of its last exchange (R307). -/
def Link.windowMean (l : Link) : Option (Int × Nat × Nat × Nat) :=
  let n := l.window.length
  if n < 8 then none
  else
    let th := (l.window.map (·.1)).foldl (· + ·) 0
    let d := (l.window.map (·.2.1)).foldl (· + ·) 0
    let last := l.window.getLastD (0, 0, 0, 15)
    some (roundDiv th (2000 * (n : Int)), (roundDiv d (2 * (n : Int))).toNat, last.2.2.1, last.2.2.2)

end Sys2Proof.Machine
end

