-- ==== Sys2Proof/Machine/Ingest.lean ====
section
/-! DEFINITION. What comes in: the pool of sentence buffer cells, network frames, the examination of receive queue
entries, boot-map forwarding in PLINTH, and classification (05_sentences_checks.md, 06_flows.md, 02_modes.md R42). -/

namespace Sys2Proof.Machine

/-! The sentence buffer pool (R109, 01_architecture.md R16). -/

/-- Cells of the pool. -/
def poolSize : Nat := 8192

/-- Cells in use: open and closed sentences, queued entries, runs, records not yet copied into a slot (R109), and the two cells of reserve
of each of the 96 threads, less those that have gone on with a grown sentence (07_chisel_machine.md R148). -/
def State.poolUsed (s : State) : Nat :=
  let c := fun (x : Sentence) => cellsOf x.data.length
  sumList (s.snt.asm.map (fun x => match x.2 with
    | some o => cellsOf o.chars.length
    | none => 0)) +
  sumList (s.snt.classQ.map c) + sumList (s.chs.queues.map (fun x => sumList (x.2.map (fun y => c y.sent)))) +
  sumList (s.chs.blocked.map (fun y => c y.sent)) + sumList (s.heldRuns.map (fun r => c r.entry.sent)) +
  (192 - sumList (s.chs.threads.map (fun x => 2 - x.2.reserve))) +
  sumList (s.aln.inQ.map (fun r => cellsOf r.data.length)) +
  sumList (s.rcl.lanes.map (fun x => sumList ((x.2.inQ.filter (fun y => !y.2)).map (fun y => cellsOf y.1.data.length))))

/-- The pool has so many free cells. -/
def State.poolRoom (s : State) (n : Nat) : Bool := decide (s.poolUsed + n ≤ poolSize)

/-- Reserves of threads are refilled while the pool has room, before assembly takes a cell (07_chisel_machine.md R148). -/
def State.refillReserves (s : State) : State :=
  s.forEach ((s.chs.threads.filter (fun x => decide (x.2.reserve < 2))).flatMap fun x => List.replicate (2 - x.2.reserve) x.1) fun s k =>
    if s.poolRoom 1 then s.setThread k { s.thread k with reserve := (s.thread k).reserve + 1 } else s

/-- A sentence that assembly closed waits for classification. -/
def State.toClassify (s : State) (x : Sentence) : State := s.modSnt fun t => { t with classQ := t.classQ ++ [x] }

/-- What tells a sentence from the others in the pool: its stamp and source. -/
def Sentence.key (x : Sentence) : Nat := x.stamp * 1024 + x.typ * 256 + x.idx

/-- Sentences of the links enter the pool while it has room (14_armature_links.md R298, R16). -/
def State.drainLink : Nat → State → Nat → State
  | 0, s, _ => s
  | fuel + 1, s, k =>
    match (s.link k).rxBuf with
    | [] => s
    | x :: r =>
      let (s1, lost) := s.useEntry 11 x.key
      if lost then State.drainLink fuel ((s1.modLink k fun l => { l with rxBuf := r }).cellCheckFail k) k
      else if s.poolRoom (cellsOf x.data.length) then
        State.drainLink fuel ((s.modLink k fun l => { l with rxBuf := r }).toClassify x) k
      else s

/-! Network frames (R105, R106). -/

/-- A receive rule takes the datagram. -/
def State.ruleTakes (s : State) (r k : Nat) (v6 : Bool) (dport : Nat) (vlan : Option Nat) : Bool :=
  s.SNT_RULE0_ENABLE r == 1 && bitOf (s.SNT_RULE0_PORTS r) k &&
    (s.SNT_RULE0_IPV r == 0 || s.SNT_RULE0_IPV r == (if v6 then 2 else 1)) &&
    decide (s.SNT_RULE1_UDP_LO r ≤ dport ∧ dport ≤ s.SNT_RULE1_UDP_HI r) &&
    (s.SNT_RULE0_VLAN_MATCH r == 0 || vlan == some (s.SNT_RULE0_VLAN r))

/-- VLAN ID, Ethertype and packet of a frame with one tag at most; stacked tags keep the inner tag's Ethertype. -/
def frameParts (f : Bytes) : Option Nat × Nat × Bytes :=
  if be2 f 12 = 0x8100 then (some (be2 f 14 % 4096), be2 f 16, f.drop 18) else (none, be2 f 12, f.drop 14)

/-- What a frame gives (R105, R106). -/
inductive NetAct where
  /-- a counter of the port's source -/
  | count (c : Nat)
  /-- the whole frame to a host queue -/
  | host (h : Nat)
  /-- a closed sentence -/
  | sentence (x : Sentence)
  /-- the datagram's payload passes the snoop point of rule r -/
  | snoop (r : Nat) (payload : Bytes)
  deriving DecidableEq, Repr

/-- What frame f of port k gives. -/
def State.netActs (s : State) (k : Nat) (f : NetFrame) : List NetAct :=
  let (vlan, et, p) := frameParts f.bytes
  match netKind et p with
  | .pause => [.count 10]
  | .ipErr => [.count 11]
  | .udpErr => [.count 12]
  | .other => [.count 14, .host (s.SNT_NPCFG_DEFAULT_HQ k)]
  | .udp v6 src sport dport pl =>
    match (List.range 32).find? (fun r => s.ruleTakes r k v6 dport vlan) with
    | none => [.count 14, .host (s.SNT_NPCFG_DEFAULT_HQ k)]
    | some r =>
      let mark := fun (x : Sentence) => { x with addr := src, udp := sport, vlan := vlan }
      .snoop r pl ::
      match s.SNT_RULE0_TYPE r with
      | 0 =>
        match c37Payload pl with
        | .inl c => [.count c]
        | .inr bs =>
          let x := c37Sentence bs 1 k f.stamp f.step false
          [.count (if x.checkFailed then cCheckFail else cSentences), .sentence (mark x)]
      | 1 =>
        if pl.take 6 = iecHeader then
          (iecLines k f.stamp f.step (pl.drop 6) none false).map fun a =>
            match a with
            | .inl c => .count c
            | .inr x => .sentence (mark x)
        else [.count 14, .host (s.SNT_RULE0_HQ r)]
      | 2 => [.host (s.SNT_RULE0_HQ r)]
      | _ => [.count 15]

/-- Carry out one act of a frame of port k. -/
def State.netAct (s : State) (k : Nat) (f : NetFrame) : NetAct → State
  | .count c => s.srcCount (96 + k) c
  | .host h => (s.hqPut h 4 0 { typ := 1, idx := k, stamp := f.stamp, step := f.step } false f.bytes).1
  | .sentence x => s.toClassify x
  | .snoop r pl => s.snoop 2 r pl none []

/-- Cells that the acts need. -/
def actCells (l : List NetAct) : Nat :=
  sumList (l.map fun a => match a with
    | .sentence x => cellsOf x.data.length
    | _ => 0)

/-- Frames of port k are framed while the pool has room for what they give (R16). -/
def State.drainNet : Nat → State → Nat → State
  | 0, s, _ => s
  | fuel + 1, s, k =>
    match (s.np k).fifo with
    | [] => s
    | f :: r =>
      let (s1, lost) := s.useEntry 7 (f.stamp * 4 + k)
      if lost then State.drainNet fuel ((s1.setNp k { s1.np k with fifo := r }).srcCount (96 + k) 13) k
      else
      let acts := s.netActs k f
      if s.poolRoom (actCells acts) then
        State.drainNet fuel (acts.foldl (fun s a => s.netAct k f a) (s.setNp k { s.np k with fifo := r })) k
      else s

/-- Everything that waits for the pool. -/
def State.drainInputs (s : State) : State :=
  if !s.live then s
  else
    let s1 := s.refillReserves.forEach [0, 1, 2, 3] fun s k => s.drainNet ((s.np k).fifo.length + 1) k
    s1.forEach (List.range 8) fun s k => s.drainLink ((s.link k).rxBuf.length + 1) k

/-- The port receives. -/
def State.npOn (s : State) (k : Nat) : Bool :=
  s.hasNp k && s.SNT_NPCFG_ENABLE k == 1 && s.live && !(s.np k).shed

/-- The frame is addressed to the port, to broadcast or to a multicast address (R105 item 2). -/
def State.npAddressed (s : State) (k : Nat) (f : Bytes) : Bool :=
  bitOf (byteAt f 0) 0 || f.take 6 == beBytes 2 (s.SNT_NPMACH_MAC_HI k) ++ beBytes 4 (s.SNT_NPMACL_MAC_LO k)

/-- A frame arrives at NPk (NETWORK_FRAME_RECEIVE, R105): its bytes without FCS, and whether the FCS was good. -/
def execNetworkFrameReceive (k : Fin 4) (bytes : Bytes) (fcsOk : Bool) (ago : Nat) (s : State) : Res := .next <|
  if !s.npOn k || !(s.np k).blockLock then s
  else if !fcsOk || decide (9212 < bytes.length) then s.srcCount (96 + k.val) 9
  else if bytes.length < 60 ∨ s.npAddressed k bytes = false then s
  else if (frameParts bytes).2.1 = 0x8808 then s.srcCount (96 + k.val) 10
  else if 262144 < sumList ((s.np k).fifo.map (fun f => f.bytes.length)) + bytes.length then s.srcCount (96 + k.val) 13
  else
    let (st, c) := s.stampAt ago
    (s.setNp k { s.np k with fifo := (s.np k).fifo ++ [⟨bytes, st, c⟩] }).drainInputs

/-- The PCS block lock of NPk changes (NETWORK_BLOCK_LOCK_CHANGE, Table SNT-7). -/
def execNetworkBlockLockChange (k : Fin 4) (lock : Bool) (s : State) : Res := .next <|
  if s.npOn k && (s.np k).blockLock != lock then
    (s.setNp k { s.np k with blockLock := lock, fecLock := lock }).sntFlag 9
  else s

/-! Serial assembly (R96, R102, R103), and boot-map forwarding (02_modes.md R42). -/

/-- Closed sentences of PLINTH go to their boot-map destinations; one that failed its check is dropped. -/
def State.plinthDeliver (s : State) : State :=
  if s.glb.mode != .plinth then s
  else
    let q := s.snt.classQ
    q.foldl (fun s x =>
      match s.cfg.boot.find? (fun b => b.port == x.idx), x.checkFailed with
      | some b, false =>
        if b.toQueue then (s.hqPut b.dest 5 0 x false x.data).1
        else if 4096 < (s.stage b.dest).held + x.data.length then (s.lvCount b.dest 3).egrFlag 3
        else s.setStage b.dest { s.stage b.dest with fifo := (s.stage b.dest).fifo ++ [x.data] }
      | _, _ => s) (s.modSnt fun t => { t with classQ := [] })

/-- Assembly has a cell for the next character of port n (R109). -/
def State.asmCell (s : State) (n : Nat) : Bool :=
  match s.asmOf n with
  | some o => o.chars.length % 256 != 0 || s.poolRoom 1
  | none => s.poolRoom 1

/-- Assembly examines one receive queue entry (ASSEMBLY_ENTRY, R96). -/
def execAssemblyEntry (n : Fin 96) (s : State) : Res := .next <|
  let p := s.port n
  match p.rxq with
  | e :: r =>
    if s.asmOn n && s.asmCell n then
      let (s1, bad) := s.useEntry 8 (e.stamp * 128 + n)
      ((((s1.setPort n { p with rxq := r }).rtsAfterDequeue n).examine 64 n [{ e with fe := e.fe || bad }])).plinthDeliver
    else s
  | [] => s

/-- GAP_CT character times have passed (GAP_TIMEOUT, R103). -/
def execGapTimeout (n : Fin 96) (s : State) : Res := .next (s.gapTimeout n)

/-- A RAW_GAP run closes (RAW_GAP_CLOSE, R102). -/
def execRawGapClose (n : Fin 96) (s : State) : Res := .next (s.rawGapClose n).plinthDeliver

/-! Classification (R119 to R123, R107, R128). -/

/-- An unknown sentence goes to host queue 0 with its key (R123). -/
def State.unknownSentence (s : State) (x : Sentence) (key : Bytes) : State :=
  let (s1, ok) := s.hqPut 0 2 0 x x.offGrid (key ++ [0, 0] ++ x.data)
  if ok then (s1.count (R_FLW_GCNT 0)).flwFlag 0 else (s1.count (R_FLW_GCNT 3)).flwFlag 6

/-- A sentence of flow f (R107, R124, R128, Table MOD-5, 18_protection_integrity.md Table PRT-5 store 5). -/
def State.flowSentence (s : State) (f : Nat) (x : Sentence) : State :=
  let (s, lost) := s.useEntry 5 x.key
  if lost then s.fCount f 7
  else if (x.fmt = 0 ∨ x.fmt = 3) ∧ 82 < x.len ∧ s.fLong f = false then s.fCount f 8
  else if x.checkFailed ∧ s.fMarked f = false then s.fCount f 7
  else
    let s1 := (s.enterFlow f x).snoop 8 f x.data (seenOf x) []
    if s1.fState f = 4 then (s1.fCount f 13).hqPut s1.FLW_QUARCFG_HQ 3 f x x.offGrid x.data |>.1
    else if s1.glb.shed = 4 ∧ 3 ≤ s1.fPrio f then s1.fCount f 9
    else s1.enqueue (s1.sealEntry { flow := f, prio := s1.fPrio f, stamp := x.stamp, step := x.step, sent := x, seq := s1.fSeq f })

/-- Classify one closed sentence (R122, R123). -/
def State.classifyOne (s : State) (x : Sentence) : State :=
  let key := keyOf x (s.maskOf x)
  match s.findKey key with
  | some f => s.flowSentence f x
  | none =>
    if x.checkFailed then s.count (R_FLW_GCNT 4)
    else if s.FLW_KEYPROF_AUTOLEARN (profIndex x.typ x.idx) = 0 then s.unknownSentence x key
    else
      match s.autoLearn key with
      | some (f, s1) => s1.flowSentence f x
      | none => ((s.count (R_FLW_GCNT 2)).flwFlag 2).unknownSentence x key

/-- Classification takes the oldest closed sentence (CLASSIFY, R122). -/
def execClassify (s : State) : Res := .next <|
  match s.snt.classQ, s.live with
  | x :: r, true => ((s.modSnt fun t => { t with classQ := r }).classifyOne x).drainInputs
  | _, _ => s

end Sys2Proof.Machine
end

