-- ==== Sys2Proof/Machine/ChiselControl.lean ====
section
/-! DEFINITION. Chisel branches, table and flow instructions, dispositions, emits and system instructions
(08_chisel_instructions.md R175, R180, R181, R183, Tables CHX-7, CHX-11, CHX-12 and CHX-14). -/

namespace Sys2Proof.Machine

/-- A taken branch to `p`, or PC_RANGE (R175). -/
def State.branchTo (s : State) (t : Thread) (p : Int) : Eff :=
  if p < 0 ∨ (s.CHS_PCODE_CODE_END : Int) ≤ p then .fault s 2 (wrapI 32 p) 0 else .jump t p.toNat

/-- The index of the branch plus DISP. -/
def Thread.target (t : Thread) (d : BitVec 18) : Int := (t.pc : Int) + sxt 18 d.toNat

def execBCond (h : Thr) (x : OpsCD) (s : State) : Res := .next <|
  s.issue h (wordCD 0x20 x) (x.ra == 0 && x.cond != 15) fun s t _ =>
    if t.cond x.cond.toNat then s.branchTo t (t.target x.disp) else .next s t
/-- bz: COND 0. -/
def execBz (h : Thr) (ra : BitVec 4) (disp : BitVec 18) (s : State) : Res := .next <|
  s.issue h (wordCD 0x21 ⟨0, ra, disp⟩) true fun s t _ =>
    if t.gr ra.toNat = 0 then s.branchTo t (t.target disp) else .next s t
/-- bnz: COND 1. -/
def execBnz (h : Thr) (ra : BitVec 4) (disp : BitVec 18) (s : State) : Res := .next <|
  s.issue h (wordCD 0x21 ⟨1, ra, disp⟩) true fun s t _ =>
    if t.gr ra.toNat ≠ 0 then s.branchTo t (t.target disp) else .next s t
/-- call: PC_RANGE is tested before STACK, the lower code (R167). -/
def execCall (h : Thr) (x : OpsCD) (s : State) : Res := .next <|
  s.issue h (wordCD 0x22 x) (x.cond == 0 && x.ra == 0) fun s t _ =>
    match s.branchTo t (t.target x.disp) with
    | .jump t p => if 8 ≤ t.stack.length then .fault s 8 0 0 else .jump { t with stack := nextPc t.pc :: t.stack } p
    | e => e
/-- ret: a return address is no branch target; PC at or above CODE_END faults at the next issue. -/
def execRet (h : Thr) (x : OpsCD) (s : State) : Res := .next <|
  s.issue h (wordCD 0x23 x) (x.cond == 0 && x.ra == 0 && x.disp == 0) fun s t _ =>
    match t.stack with
    | [] => .fault s 8 0 0
    | p :: r => .jump { t with stack := r } p
def execJr (h : Thr) (x : OpsCD) (s : State) : Res := .next <|
  s.issue h (wordCD 0x24 x) (x.cond == 0) fun s t _ => s.branchTo t ((t.gr x.ra.toNat : Int) + sxt 18 x.disp.toNat)
/-- loop: RA = 0 is illegal. -/
def execLoop (h : Thr) (x : OpsCD) (s : State) : Res := .next <|
  s.issue h (wordCD 0x25 x) (x.cond == 0 && x.ra != 0) fun s t _ =>
    let n := sum32 (t.gr x.ra.toNat) (not32 1) 1
    let t' := t.setG x.ra.toNat n
    if n ≠ 0 then s.branchTo t' (t.target x.disp) else .next s t'

/-- Table word `rel`, relative to TABLE_BASE (R180). -/
def State.tableWord (s : State) (rel : Nat) (k : Nat → Eff) : Eff :=
  let w := s.CHS_PTABLE_TABLE_BASE + rel
  if 65535 < w then .fault s 7 (rel % 2 ^ 32) 0 else k w

def execTld (h : Thr) (x : OpsCB) (s : State) : Res := .next <|
  s.issue h (wordCB 0x30 x 0) true fun s t _ =>
    s.tableWord (t.gr x.ra.toNat + x.imm.toNat) fun w => .next s (t.setG x.rd.toNat (s.chs.prog.at 0 w).toNat)
/-- ldesc: IMM16 above 31 is illegal. -/
def execLdesc (h : Thr) (x : OpsCB) (s : State) : Res := .next <|
  s.issue h (wordCB 0x30 x 1) (decide (x.imm.toNat ≤ 31)) fun s t _ =>
    let n := t.gr x.ra.toNat
    if n = 0 ∨ s.CHS_LAYOUT_COUNT < n then .fault s 7 n 0
    else .next s (t.setG x.rd.toNat (s.CHS_LAYOUT_BASE + 32 * (n - 1) + x.imm.toNat))
/-- tst: judged by the access table of the program store for the engine's master (07_chisel_machine.md R151). -/
def execTst (h : Thr) (x : OpsCB) (s : State) : Res := .next <|
  s.issue h (wordCB 0x31 x 0) true fun s t _ =>
    let rel := t.gr x.ra.toNat + x.imm.toNat
    s.tableWord rel fun w =>
      let m := 8 + h.e.val / 6
      if s.granted 18 m 17 (4 * w) 4 then
        .next (s.modChs fun c => { c with prog := c.prog.put 0 w (BitVec.ofNat 32 (t.gr x.rd.toNat)) }) t
      else .fault (s.violation m 18 (4 * w) 1) 9 rel 0

/-- A flow instruction: it changes the run and its context copy (R149). -/
def State.flowI (s : State) (h : Thr) (fn : Nat) (x : OpsCA) (legal : Bool) (f : Thread → Run → Run) : State :=
  s.issueT h (wordCA 0x32 x fn) legal fun t => t.modRun (f t)

def execFquar (h : Thr) (x : OpsCA) (s : State) : Res := .next <|
  s.flowI h 0 x (x.rd == 0 && x.ra == 0 && x.rb == 0) fun _ r => { r with quar := true }
/-- flayout: a number above COUNT raises TABLE_RANGE. -/
def execFlayout (h : Thr) (x : OpsCA) (s : State) : Res := .next <|
  s.issue h (wordCA 0x32 x 1) (x.rd == 0 && x.rb == 0) fun s t _ =>
    let n := t.gr x.ra.toNat % 65536
    if s.CHS_LAYOUT_COUNT < n then .fault s 7 n 0
    else .next s (t.modRun fun r => { r with ctx := r.ctx.setLe 0 0x2C 2 n, layoutSet := true })
def execFexp (h : Thr) (x : OpsCA) (s : State) : Res := .next <|
  s.flowI h 2 x (x.rd == 0 && x.rb == 0) fun t r =>
    { r with ctx := r.ctx.setLe 0 0x30 4 (t.gr x.ra.toNat), expSet := true }
def execFlastmt (h : Thr) (x : OpsCA) (s : State) : Res := .next <|
  s.flowI h 3 x (x.rd == 0 && x.ra == 0 && decide (x.rb.toNat < 4)) fun t r =>
    { r with ctx := r.ctx.setLe 0 0x40 8 (t.tr x.rb.toNat), mtSet := true }

/-! Dispositions (R181, R157). -/

/-- The unused fields of a disposition are zero. -/
def bare (x : OpsCF) : Bool := x.td == 0 && x.ta == 0 && x.ra == 0

/-- A disposition that a timer run may not take (R157). -/
def State.endRun (s : State) (t : Thread) (r : Run) (e : Ending) : Eff :=
  if r.entry.timer.isSome then .fault s 10 0 0 else .stop t e

def execForward (h : Thr) (x : OpsCF) (s : State) : Res := .next <|
  s.issue h (wordCF 0x34 x 0) (bare x && x.imm == 0) fun s t r => s.endRun t r .forward
def execHold (h : Thr) (x : OpsCF) (s : State) : Res := .next <|
  s.issue h (wordCF 0x34 x 1) (x.td == 0 && x.ra == 0 && x.imm == 0) fun s t r => s.endRun t r (.hold (t.tns x.ta.toNat))
def execHost (h : Thr) (x : OpsCF) (s : State) : Res := .next <|
  s.issue h (wordCF 0x34 x 2) (bare x) fun s t r =>
    if 15 < x.imm.toNat then .fault s 10 0 0 else s.endRun t r (.host x.imm.toNat)
def execDrop (h : Thr) (x : OpsCF) (s : State) : Res := .next <|
  s.issue h (wordCF 0x34 x 3) (bare x && x.imm == 0) fun _ t _ => .stop t .drop
/-- fault: raises PROGRAM with IMM12. -/
def execFault (h : Thr) (x : OpsCF) (s : State) : Res := .next <|
  s.issue h (wordCF 0x34 x 4) (bare x) fun s _ _ => .fault s 12 0 x.imm.toNat

/-- Hold an emit until the run's end; a host queue above 15 raises DISP_INVALID, a ninth emit EMIT_LIMIT (R156, Table CHX-12). The thread is
WAITING while the egress store has no room for the copy (R181). -/
def emitHeld (s : State) (t : Thread) (r : Run) (toQueue : Bool) (dest : Nat) (bs : Bytes) : Eff :=
  if toQueue ∧ 15 < dest then .fault s 10 0 0
  else if 8 ≤ r.emits.length then .fault s 11 0 0
  else .next s { t.modRun (fun r => { r with emits := r.emits ++ [⟨toQueue, dest, bs⟩] }) with waitRoom := !s.egrRoom bs.length }

/-- emit.gl and emit.ql: G[RA + 1] bytes of local space from G[RA]. Of several faults the lowest code is reported (R167): LOCAL_RANGE, those
of the emit itself, and last that of a word of local space with an uncorrectable error. -/
def State.emitLocal (s : State) (h : Thr) (t : Thread) (r : Run) (ra : Nat) (toQueue : Bool) (dest : Nat) : Eff :=
  let a := t.gr ra
  let n := t.gr (ra + 1)
  if n = 0 ∨ 4096 < n ∨ 65536 < a + n then .fault s 5 a 0
  else
    match emitHeld s t r toQueue dest (s.spaceBytes h.e.val r 2 a n) with
    | .next s' t' =>
      let bad := s.localBad h.e.val a n
      if bad ≠ [] then .fault (s.localRepair bad) 12 a 0xECC else .next s' t'
    | e => e

def execEmitG (h : Thr) (x : OpsCF) (s : State) : Res := .next <|
  s.issue h (wordCF 0x35 x 0) (bare x && decide (x.imm.toNat < 1024)) fun s t r =>
    emitHeld s t r false x.imm.toNat r.sent
def execEmitQ (h : Thr) (x : OpsCF) (s : State) : Res := .next <|
  s.issue h (wordCF 0x35 x 1) (bare x) fun s t r =>
    emitHeld s t r true x.imm.toNat r.sent
/-- RA = 15 is illegal. -/
def execEmitGl (h : Thr) (x : OpsCF) (s : State) : Res := .next <|
  s.issue h (wordCF 0x35 x 2) (x.td == 0 && x.ta == 0 && x.ra != 15 && decide (x.imm.toNat < 1024)) fun s t r =>
    s.emitLocal h t r x.ra.toNat false x.imm.toNat
def execEmitQl (h : Thr) (x : OpsCF) (s : State) : Res := .next <|
  s.issue h (wordCF 0x35 x 3) (x.td == 0 && x.ta == 0 && x.ra != 15) fun s t r =>
    s.emitLocal h t r x.ra.toNat true x.imm.toNat

/-! System instructions (R183). -/

/-- Control and status words (07_chisel_machine.md Table CHS-4); any other number reads zero (R146). -/
def State.csr (s : State) (h : Thr) (r : Run) (n : Nat) : Nat :=
  let x := r.entry.sent
  match n with
  | 0x000 => h.e.val + 32 * h.t.val
  | 0x001 => match r.entry.timer with
    | some k => 1 + 16 * k
    | none => 0
  | 0x002 => r.ctx.le 0 0 1 % 4 + 256 * r.ctx.le 0 1 1 + 65536 * (r.ctx.le 0 2 1 % 8)
  | 0x003 => b1 x.noisy + 2 * b1 x.noCs + 4 * b1 x.checkFailed + 8 * b1 r.quar
  | 0x004 => r.budget - r.issued
  | 0x005 => r.entry.step.toNat
  | 0x006 => s.tim.step.toNat
  | 0x007 => s.glb.epoch.toNat
  | 0x008 => s.ARM_ID_DEVICE_ID + 16384 * b1 s.glb.side
  | 0x009 => s.glb.mode.code + 16 * s.glb.shed
  | 0x00A => s.tim.quality
  | _ => 0

/-- nop; fields that Table CHX-14 does not name are not reserved (log entry 120). -/
def execChiselNop (h : Thr) (x : OpsCF) (s : State) : Res := .next <| s.issueT h (wordCF 0x3C x 0) (x.imm == 0) fun t => t
/-- yield: the other READY threads of the engine issue first. -/
def execYield (h : Thr) (x : OpsCF) (s : State) : Res := .next <|
  s.issue h (wordCF 0x3C x 1) (x.imm == 0) fun s t _ =>
    let k := thrIdx h
    let others := (List.range 4).map (4 * h.e.val + ·) |>.filter fun j => j != k && (s.ready j).isSome
    .next (s.modChs fun c => { c with yields := c.yields ++ others.map fun j => (k, j) }) t
/-- wait: the thread is WAITING for IMM12 CCLK of 1 ns. -/
def execWait (h : Thr) (x : OpsCF) (s : State) : Res := .next <|
  s.issue h (wordCF 0x3C x 2) (x.imm != 0) fun s t _ => .next s { t with waitTick := s.tickAt 0 + x.imm.toNat }
/-- waitt: the thread issues again when device time has reached T[TA]; a time already passed continues at once. -/
def execWaitt (h : Thr) (x : OpsCF) (s : State) : Res := .next <|
  s.issue h (wordCF 0x3C x 3) (x.imm == 0) fun s t _ =>
    .next s { t with waitUntil := if t.tns x.ta.toNat ≤ s.now then none else some (t.tns x.ta.toNat) }
/-- trap: PROGRAM with IMM12. -/
def execTrap (h : Thr) (x : OpsCF) (s : State) : Res := .next <|
  s.issue h (wordCF 0x3C x 4) true fun s _ _ => .fault s 12 0 x.imm.toNat
/-- csrr: a control and status word of Table CHS-4. -/
def execCsrr (h : Thr) (x : OpsCF) (s : State) : Res := .next <|
  s.issue h (wordCF 0x3D x 0) true fun s t r => .next s (t.setG x.ra.toNat (s.csr h r x.imm.toNat))
/-- csrw: always illegal (R146). -/
def execCsrw (h : Thr) (x : OpsCF) (s : State) : Res := .next <| s.issueT h (wordCF 0x3D x 1) false fun t => t

end Sys2Proof.Machine
end

