-- ==== Sys2Proof/Machine/Runs.lean ====
section
/-! DEFINITION. Runs of the Chisel engines from dispatch to disposition (07_chisel_machine.md R137 to R162): dispatch and
the ahead slot, run start, write-back and routing, aborts, timers, and what shedding, HALT and commits do to them. -/

namespace Sys2Proof.Machine

/-! Dispatch (R139 to R141). -/

/-- Engines that may run priority p (R140). -/
def State.engineMask (s : State) (p : Nat) : Nat :=
  if s.glb.shed = 4 then s.CHS_PRIENG_ENGINES p % 256 else s.CHS_PRIENG_ENGINES p

/-- Thread k is GATED or IDLE. -/
def State.threadFree (s : State) (k : Nat) : Bool := (s.thread k).rest != .off && (s.thread k).run.isNone

/-- All hardware threads. -/
def threadList : List Nat := List.range 96

/-- A thread of a permitted engine is free for priority p. -/
def State.anyFree (s : State) (p : Nat) : Bool := threadList.any fun k => s.threadFree k && bitOf (s.engineMask p) (k / 4)

/-- Entries in the queues and outside them. -/
def State.queued (s : State) : Nat := sumList ((List.range 8).map fun p => (s.queue p).length) + s.chs.blocked.length

/-- Drop the entries of P3 to P7, each with those that wait behind it. -/
def State.dropLow : Nat → State → State
  | 0, s => s
  | fuel + 1, s =>
    match [3, 4, 5, 6, 7].find? (fun p => s.queue p != []) with
    | none => s
    | some p =>
      match s.queue p with
      | [] => s
      | x :: r => State.dropLow fuel (((s.setQueue p r).when x.timer.isNone fun s => s.fCount x.flow 9).unblock x.flow)

/-- At SHED4, entries of P3 to P7 are dropped as they reach the head of their queue; sentences count SHED_DROP (R162,
02_modes.md Table MOD-5). -/
def State.dropShed (s : State) : State := if s.glb.shed = 4 then s.dropLow s.queued else s

/-- The sentence of a quarantined flow goes to the quarantine host queue; a timer run of it does not run (06_flows.md R128). -/
def State.quarantineEntry (s : State) (x : QEntry) : State :=
  if x.timer.isSome then s
  else ((s.fCount x.flow 13).hqPut s.FLW_QUARCFG_HQ 3 x.flow x.sent x.sent.offGrid x.sent.data).1

/-- A word of flow f's context holds an uncorrectable error (18_protection_integrity.md Table PRT-5 store 1). -/
def State.flowBad (s : State) (f : Nat) : Option Nat :=
  ((List.range 64).map (64 * f + ·)).find? (s.isBad 1)

/-- Give the entry to thread k, to run or ahead, with its copy of the flow context (R141, R149). -/
def State.assignRun (s : State) (k : Nat) (x : QEntry) : State :=
  let t := s.thread k
  let r : Run := { entry := x, ctx := s.ctxCopy x.flow, sent := x.sent.data }
  if t.run.isNone then s.setThread k { t with run := some r } else s.setThread k { t with ahead := some r }

/-- Thread k takes the oldest entry of the highest-priority queue that its engine may run (R139, R141); at SHED4 only P0 to P2 run
(06_flows.md R129). One whose trailer fails is discarded (01_architecture.md R17). -/
def State.dispatch : Nat → State → Nat → State
  | 0, s, _ => s
  | fuel + 1, s, k =>
    match (List.range 8).find? (fun p => s.queue p != [] && bitOf (s.engineMask p) (k / 4) && (decide (p < 3) || s.glb.shed != 4)) with
    | none => s
    | some p =>
      let t := s.thread k
      if t.rest = .off ∨ !(t.run.isNone || (t.ahead.isNone && !s.anyFree p)) then s
      else
        match s.queue p with
        | [] => s
        | x :: rest =>
          let s1 := s.setQueue p rest
          if s1.fState x.flow = 4 then State.dispatch fuel ((s1.quarantineEntry x).unblock x.flow) k
          else
            match s1.flowBad x.flow with
            | some w => State.dispatch fuel ((((s1.eccUncorrectable 1 w).fCount x.flow 13).fQuarantine x.flow).unblock x.flow) k
            | none =>
              let (s2, lost) := if x.timer.isNone then s1.useEntry 5 x.sent.key else (s1, false)
              if lost || !s2.goodEntry x then State.dispatch fuel ((s2.fCount x.flow 7).unblock x.flow) k else s1.assignRun k x

/-- A thread takes its next entry (DISPATCH). -/
def State.dispatchThread (s : State) (h : Thr) : State :=
  if s.live && !s.chs.paused then
    let s1 := s.dropShed
    (s1.dispatch (s1.queued + 1) (thrIdx h)).drainInputs
  else s

/-- The first instruction of a dispatched or ahead entry issues with the state of Table CHS-3 (RUN_START, R141, R145), once the thread's
reserve of two cells is full again (R148). -/
def State.runStart (s : State) (h : Thr) : State :=
  let k := thrIdx h
  match (s.thread k).run, (s.thread k).rest with
  | some r, .off => let _ := r; s
  | some r, _ =>
    if r.started then s
    else
      let pc := match r.entry.timer with
        | some i => s.CHS_TIMER0_ENTRY_PC i
        | none => r.ctx.le 0 0x26 2
      if (s.thread k).reserve < 2 then s
      else
      let t : Thread := { rest := (s.thread k).rest, run := some { r with started := true }, ahead := (s.thread k).ahead, pc := pc }
      let t1 := ((t.setG 1 r.sent.length).setG 2 r.entry.flow).setT 0 (dev64 r.entry.stamp)
      ((s.setThread k (t1.setT 1 (dev64 s.now))).count (R_CHS_GCNT 0)).when r.entry.timer.isSome fun s => s.count (R_CHS_GCNT 1)
  | none, _ => s

/-! The end of a run (R149, R154, Table CHS-9). -/

/-- A sentence of the run with its present bytes. -/
def Run.sentence (r : Run) : Sentence := { r.entry.sent with data := r.sent }

/-- An emitted sentence: the run's source, form and arrival stamp, with no marks (08_chisel_instructions.md R181). -/
def State.emitted (s : State) (r : Run) : Sentence :=
  let f := r.entry.flow
  { r.entry.sent with
    typ := (s.fSrc f).1, idx := (s.fSrc f).2, fmt := s.fFormat f, stamp := r.entry.stamp, step := r.entry.step,
    noisy := false, noCs := false, checkFailed := false, offGrid := false }

/-- Release the emits of a run in order; one of no bytes emits nothing (R156, 08_chisel_instructions.md R181). -/
def State.releaseEmits (s : State) (r : Run) : State :=
  let f := r.entry.flow
  (r.emits.filter (fun e => e.bytes != [])).foldl (fun s e =>
    if e.toQueue then s.hqJob (s.fPrio f) e.dest 1 f (s.emitted r) false e.bytes
    else s.toGroup e.dest f (s.fPrio f) 1 (s.emitted r) false e.bytes) s

/-- A run that ended in FORWARD, HOLD or HOST counts towards LEARN_CNT; at 256 a LEARNING flow is ACTIVE (06_flows.md
Table FLW-3). -/
def State.learned (s : State) (f : Nat) : State :=
  let s1 := s.setFctx f 0x52 2 (min 256 (s.fLearn f + 1))
  if s1.fState f = 1 ∧ s1.fLearn f = 256 then s1.fEnter f 2 3 else s1

/-- Route a HOLD record: past lane and alignment during SHED1, to the store when it is on the grid or the flow has no lane,
else to the lane (01_architecture.md R14, 10_rate_conversion.md R210, 13_egress.md R287). -/
def State.routeHold (s : State) (r : Run) (mt : Nat) : State :=
  let f := r.entry.flow
  let x := r.sentence
  let rec0 : Rec := s.sealRec
    { flow := f, mt := mt, stamp := r.entry.stamp, step := r.entry.step, data := r.sent, noisy := x.noisy, seq := r.entry.seq }
  let toStore := fun (s : State) => s.modAln fun a => { a with inQ := a.inQ ++ [rec0] }
  let toLane := fun (s : State) (copy : Bool) =>
    s.setLane (s.fLane f) { s.lane (s.fLane f) with inQ := (s.lane (s.fLane f)).inQ ++ [(rec0, copy)] }
  if s.fLaneEn f && decide (8 ≤ s.fLane f ∧ 1 ≤ s.glb.shed) then s.offGridToGroup f x r.sent
  else if !s.fLaneEn f || !s.fMember f || s.ALN_DCFG_ENABLE (s.fDomain f) == 0 then toStore s
  else
    match onGrid (s.rateOf (s.fDomain f)) mt with
    | some _ => toLane (toStore s) true
    | none => toLane s false

/-- Route the disposition, behind its flow counter (R154). -/
def State.routeEnding (s : State) (r : Run) (e : Ending) : State :=
  let f := r.entry.flow
  let x := r.sentence
  match e with
  | .forward => ((s.fCount f 2).learned f).toGroup (s.fGroup f) f (s.fPrio f) 6 x x.offGrid r.sent
  | .hold mt => (((s.fCount f 1).learned f).setFctx f 0x40 8 (dev64 mt)).routeHold r mt
  | .host q => ((s.fCount f 3).learned f).hqJob (s.fPrio f) q 0 f x x.offGrid r.sent
  | .drop => s.fCount f 4

/-- Write-back into the flow store: the program's own bytes and what flow instructions changed (R149). -/
def State.writeBack (s : State) (r : Run) : State :=
  let f := r.entry.flow
  let s1 := s.setFbytes f 0x140 (r.ctx.bytes 0 0x140 0xC0)
  let s2 := s1.when r.layoutSet fun s => s.setFctx f 0x2C 2 (r.ctx.le 0 0x2C 2)
  let s3 := s2.when r.expSet fun s => s.setFctx f 0x30 4 (r.ctx.le 0 0x30 4)
  s3.when r.mtSet fun s => s.setFctx f 0x40 8 (r.ctx.le 0 0x40 8)

/-- The whole end of a run with a disposition: write-back, FAULT_RUN, quarantine, emits, routing (Table CHS-9). -/
def State.finishRun (s : State) (k : Nat) (r : Run) (e : Ending) : State :=
  let f := r.entry.flow
  let s1 := ((s.writeBack r).setFctx f 0x54 1 0).when r.quar fun s => s.fQuarantine f
  let kept := match e with
    | .hold _ => r.grown
    | _ => 0
  (((s1.releaseEmits r).routeEnding r e).freeThread k kept).returnQuarantined f |>.unblock f

/-- Write-back of a run ends (WRITE_BACK_DONE, R149, R154). -/
def State.writeBackDone (s : State) (h : Thr) : State :=
  let k := thrIdx h
  match (s.thread k).run with
  | some r =>
    match r.ending with
    | some e => (s.finishRun k r e).drainInputs
    | none => s
  | none => s

/-- The run has issued BUDGET instructions without a disposition (BUDGET_ABORT, R155). -/
def State.budgetAbort (s : State) (h : Thr) : State :=
  match (s.thread (thrIdx h)).run with
  | some r =>
    if r.started && r.ending.isNone && decide (r.budget ≤ r.issued) then (s.abortRun (thrIdx h) r false).drainInputs else s
  | none => s

/-- RUN_LIMIT_US has passed since the run's first issue (RUN_LIMIT_ABORT, R155); a disposition that has issued stands. -/
def State.runLimitAbort (s : State) (h : Thr) : State :=
  match (s.thread (thrIdx h)).run with
  | some r => if r.started && r.ending.isNone then (s.abortRun (thrIdx h) r true).drainInputs else s
  | none => s

/-- A thread that has been idle for 16 CCLK is gated (THREAD_GATE, 01_architecture.md R28). -/
def execThreadGate (h : Thr) (s : State) : Res := .next <|
  let t := s.thread (thrIdx h)
  if t.rest = .idle ∧ t.run = none then s.setThread (thrIdx h) { t with rest := .gated } else s

/-! Timers (R143). -/

/-- The latest time at or before `now` at which timer k is due: a multiple of PERIOD_US plus PHASE_US. -/
def State.timerDue (s : State) (k : Nat) : Option Nat :=
  let period := 1000 * s.CHS_TIMER1_PERIOD_US k
  let phase := 1000 * s.CHS_TPHASE_PHASE_US k
  if period = 0 ∨ s.now < phase then none else some (phase + (s.now - phase) / period * period)

/-- A run of timer k waits to start. -/
def State.timerWaits (s : State) (k : Nat) : Bool :=
  s.chs.queues.any (fun x => x.2.any (fun y => y.timer == some k)) || s.chs.blocked.any (fun y => y.timer == some k) ||
    s.heldRuns.any (fun r => r.entry.timer == some k && !r.started)

/-- Timer k fires (TIMER_FIRE). -/
def execTimerFire (k : Fin 16) (s : State) : Res := .next <|
  match s.timerDue k with
  | none => s
  | some t =>
    if !s.live || s.CHS_TIMER0_ENABLE k == 0 || s.chs.timerLast.at none k == some t then s
    else
      let s1 := s.modChs fun c => { c with timerLast := c.timerLast.put none k (some t) }
      let f := s1.CHS_TIMER0_FLOW k
      if s1.timerWaits k then s1.chsFlag 3
      else if s1.fUsed f then
        s1.enqueue { timer := some k.val, flow := f, prio := s1.fPrio f, stamp := t, step := s1.tim.step, seq := s1.fSeq f }
      else s1

/-- Firing times up to now are past: timers next fire at a later time. -/
def State.timersFromNow (s : State) : State :=
  s.forEach (List.range 16) fun s k => s.modChs fun c => { c with timerLast := c.timerLast.put none k (s.timerDue k) }

/-! Modes and shedding (R161, R162, Table CHS-11). -/

/-- The engines are taken into service: every thread that is off can be dispatched to. -/
def State.enginesOn (s : State) (first : Nat) : State :=
  s.forEach ((List.range 96).filter (fun k => decide (4 * first ≤ k))) fun s k =>
    if (s.thread k).rest = .off then s.setThread k { s.thread k with rest := .gated } else s

/-- Entry to SHED4: CE8 to CE23 take no entry, their ahead entries return at once, and what is at a head of P3 to P7 is
dropped. -/
def State.shedEngines (s : State) : State :=
  let s1 := s.returnAhead fun k _ => decide (32 ≤ k)
  (s1.forEach ((List.range 96).filter (fun k => decide (32 ≤ k))) fun s k =>
    s.setThread k { s.thread k with rest := .off }).dropShed

/-- 8 µs after SHED4 entry, runs still in progress on CE8 to CE23 are aborted: no write-back, no emits, the sentence as
classified to the head of its queue, SHED_RETURN (SHED4_RUN_ABORT, R162). A run whose disposition has issued ends. -/
def State.shed4Abort (s : State) : State :=
  if s.glb.shed = 4 then
    let s1 := s.forEach ((List.range 96).filter (fun k => decide (32 ≤ k))) fun s k =>
      match (s.thread k).run with
      | some r =>
        if r.ending.isNone && (s.thread k).rest == .off then
          ((s.freeThread k).requeue r.entry).count (R_CHS_GCNT 3)
        else s
      | none => s
    s1.dropShed.drainInputs
  else s

/-- HALT: runs whose disposition has issued end, every other run is discarded, ahead entries and queued entries are dropped,
ahead entries counting EPOCH_DROP (R142, R161, 02_modes.md R36). -/
def State.haltEngines (s : State) : State :=
  let ahead := s.heldRuns.filter (fun r => !r.started)
  let s1 := s.forEach (s.chs.threads.map (·.1)) fun s k =>
    match (s.thread k).run with
    | some r =>
      match r.ending with
      | some e => s.finishRun k r e
      | none => s
    | none => s
  let s2 := s1.forEach (List.range ahead.length) fun s _ => (s.count (R_CHS_GCNT 4)).chsFlag 5
  s2.modChs fun c => { c with threads := [], queues := [], blocked := [], yields := [], paused := false }

end Sys2Proof.Machine
end

