-- ==== Sys2Proof/Machine/Analysis.lean ====
section
/-! DEFINITION. The analysis unit (11_analysis_triggers.md): watched signals, band filters and the recursive fit, areas and
island detection, trigger conditions and alarm requests. Binary32 steps round once each under R171; where a sum of products
is written, fused multiply-adds in the order written. -/

namespace Sys2Proof.Machine

def State.modAna (s : State) (f : Ana → Ana) : State := { s with ana := f s.ana }
def State.sig (s : State) (n : Nat) : SigEst := s.ana.sigs.at {} n
def State.setSig (s : State) (n : Nat) (x : SigEst) : State := s.modAna fun a => { a with sigs := a.sigs.put {} n x }
def SigEst.band (x : SigEst) (b : Nat) : BandEst := x.bands.at {} b
def SigEst.setBand (x : SigEst) (b : Nat) (v : BandEst) : SigEst := { x with bands := x.bands.put {} b v }
def State.pair (s : State) (i j : Nat) : AreaPair := s.ana.pairs.at {} (32 * i + j)
def State.setPair (s : State) (i j : Nat) (p : AreaPair) : State := s.modAna fun a => { a with pairs := a.pairs.put {} (32 * i + j) p }
def State.tc (s : State) (k : Nat) : TrigCond := s.ana.tcs.at {} k
def State.setTc (s : State) (k : Nat) (t : TrigCond) : State := s.modAna fun a => { a with tcs := a.tcs.put {} k t }
/-- Counter c of ANA_GCNT. -/
def State.aCount (s : State) (c : Nat) : State := s.count (R_ANA_GCNT c)

/-- a / b (R171). -/
def fDiv (a b : Nat) : Nat :=
  match fPropagate [a, b] with
  | some n => n
  | none =>
    let neg := fNeg a != fNeg b
    if fIsInf a then (if fIsInf b then fQnan else fInf neg)
    else if fIsInf b then b1 neg * 2 ^ 31
    else if fIsZero b then (if fIsZero a then fQnan else fInf neg)
    else if fIsZero a then b1 neg * 2 ^ 31
    else fRound neg (fInt a).natAbs (fInt b).natAbs

def fLt (a b : Nat) : Bool := (fCompare a b).2.1
def fGt (a b : Nat) : Bool := (fCompare a b).2.2.1
def fAbs (a : Nat) : Nat := a % 2 ^ 31
def fFinite (a : Nat) : Bool := fExp a != 255
/-- 2^-k. -/
def fPow2Neg (k : Nat) : Nat := fRound false 1 (2 ^ k)
/-- A small integer. -/
def fNat (n : Nat) : Nat := fRound false n 1

/-! Which sets the unit takes (R230). -/

/-- Numbers of the watched signals with ENABLE = 1. -/
def State.signals (s : State) : List Nat := (List.range 1024).filter (fun n => s.ANA_SIG0_ENABLE n == 1)
/-- Numbers of the conditions with ENABLE = 1. -/
def State.conditions (s : State) : List Nat := (List.range 32).filter (fun k => s.ANA_TC0_ENABLE k == 1)

/-- The unit takes the sets of domain d (R230, R251). -/
def State.anaTakes (s : State) (d : Nat) : Bool :=
  s.hasAnalysis && s.ANA_CFG_ENABLE == 1 && s.live &&
    (s.signals.any (fun n => s.ANA_SIG0_DOMAIN n == d) || s.conditions.any (fun k => s.ANA_TC0_DOMAIN k == d) ||
      (s.ANA_CFG_ISL_EN == 1 && s.ANA_CFG_ISL_DOMAIN == d))

/-- A released set reaches the unit's queue; a full queue skips it (R230). True: the set waits for its analysis. -/
def State.anaQueue (s : State) (x : RelSet) : State × Bool :=
  if !s.anaTakes x.dom then (s, false)
  else if s.ana.queue.length ≥ 64 then ((s.aCount 1).anaFlag 3, false)
  else (s.modAna fun a => { a with queue := a.queue ++ [x] }, true)

/-! Samples (R231 to R233). -/

/-- Byte offset of PMU block i in records of descriptor n (07_chisel_machine.md Table CHS-6): STAT stands there. -/
def State.blockOfs (s : State) (n i : Nat) : Nat := s.layoutWord n (3 + 2 * i) % 65536
/-- FORMAT of a PMU block. -/
def State.blockFormat (s : State) (n i : Nat) : Nat := s.layoutWord n (2 + 2 * i) % 16

/-- The record of flow f in a set, if its sample can be taken at all (R233). -/
def State.anaRecord (s : State) (x : RelSet) (f i : Nat) : Option Rec :=
  match x.members.find? (fun m => m.flow == f) with
  | none => none
  | some m =>
    match m.recs with
    | r :: _ =>
      let n := s.fLayout f
      if m.present && !m.lost && !r.settle && n != 0 && s.layoutWord n 1 % 65536 == r.data.length &&
          leNat ((r.data.drop (s.blockOfs n i)).take 2) / 2 ^ 14 % 4 == 0 then some r else none
    | [] => none

/-- Magnitude of phasor c in PMU block i of a record, none in integer form (Table ANA-1). -/
def State.anaMagOf (s : State) (r : Rec) (i c : Nat) : Option Nat :=
  let n := s.fLayout r.flow
  let fmt := s.blockFormat n i
  let o := s.blockOfs n i + 2 + 8 * c
  if !bitOf fmt 1 then none
  else if bitOf fmt 0 then some (r.f32 o)
  else some (fHypot 3 (r.f32 o) (r.f32 (o + 4)))

/-- Values read of a phasor for its magnitude, or its angle: the one word of a polar phasor, both words of a rectangular one (R233). -/
def State.anaParts (s : State) (r : Rec) (i c : Nat) (angle : Bool) : List Nat :=
  let n := s.fLayout r.flow
  let o := s.blockOfs n i + 2 + 8 * c
  if bitOf (s.blockFormat n i) 0 then [r.f32 (if angle then o + 4 else o)] else [r.f32 o, r.f32 (o + 4)]

/-- Angle in degrees of phasor c (R232). -/
def State.anaAngle (s : State) (r : Rec) (i c : Nat) : Nat :=
  let n := s.fLayout r.flow
  let o := s.blockOfs n i + 2 + 8 * c
  fDegrees (if bitOf (s.blockFormat n i) 0 then r.f32 (o + 4) else fAtan2 4 (r.f32 (o + 4)) (r.f32 o))

/-- Byte offset of FREQ in PMU block i. -/
def State.freqOfs (s : State) (n i : Nat) : Nat :=
  s.blockOfs n i + 2 + bits (s.layoutWord n (2 + 2 * i)) 4 8 * (if bitOf (s.blockFormat n i) 1 then 8 else 4)

/-- The whole turns n for which x − 360n lies in (−180, 180], of an exact value in units of 2^-149. -/
def wrapTurns (x : Int) : Int := -((180 * 2 ^ 149 - x) / (360 * 2 ^ 149))

/-- ANGLE_DIFF of two angles in degrees: wrapped to (−180, 180] (R232). -/
def angleDiff (a b : Nat) : Nat :=
  let x := fInt a - fInt b
  if fFinite a && fFinite b then fxNear (fSteps 6 a b) (x - wrapTurns x * (360 * 2 ^ 149)) 149 else fSub a b

/-- The sample of signal n in a set: none when it is invalid (R231, R233). For ANGLE_DIFF the wrapped difference. -/
def State.anaSample (s : State) (x : RelSet) (n : Nat) : Option Nat :=
  let i := s.ANA_SIG1_PMU n
  let c := s.ANA_SIG1_CHAN n
  let two := s.ANA_SIG0_KIND n == 1 || s.ANA_SIG0_KIND n == 5
  match s.anaRecord x (s.ANA_SIG1_FLOW n) i, (if two then s.anaRecord x (s.ANA_SIG2_RFLOW n) (s.ANA_SIG2_RPMU n) else none) with
  | none, _ => none
  | some r, r2 =>
    let ly := s.fLayout r.flow
    let fmt := s.blockFormat ly i
    match s.ANA_SIG0_KIND n, r2 with
    | 0, _ => if (s.anaParts r i c false).all fFinite || !bitOf fmt 1 then s.anaMagOf r i c else none
    | 2, _ => if bitOf fmt 2 then (some (r.f32 (s.freqOfs ly i + (if bitOf fmt 3 then 8 else 4) + 4 * c))).filter fFinite else none
    | 3, _ => if bitOf fmt 3 then (some (r.f32 (s.freqOfs ly i))).filter fFinite else none
    | 4, _ => if bitOf fmt 3 then (some (r.f32 (s.freqOfs ly i + 4))).filter fFinite else none
    | 1, some q =>
      let j := s.ANA_SIG2_RPMU n
      let d := s.ANA_SIG2_RCHAN n
      if bitOf fmt 1 && bitOf (s.blockFormat (s.fLayout q.flow) j) 1 && (s.anaParts r i c true ++ s.anaParts q j d true).all fFinite then
        some (angleDiff (s.anaAngle r i c) (s.anaAngle q j d))
      else none
    | 5, some q =>
      let j := s.ANA_SIG2_RPMU n
      let d := s.ANA_SIG2_RCHAN n
      match s.anaMagOf r i c, s.anaMagOf q j d with
      | some a, some b => if (s.anaParts r i c false ++ s.anaParts q j d false).all fFinite then some (fSub a b) else none
      | _, _ => none
    | _, _ => none

/-! The estimator (R236 to R241). -/

/-- A second-order stage: y = b0·x + b1·x1 + b2·x2 − a1·y1 − a2·y2 (R236). -/
def stage (b0 b1' b2 a1 a2 x x1 x2 y1 y2 : Nat) : Nat :=
  fMac (fNegate a2) y2 (fMac (fNegate a1) y1 (fMac b2 x2 (fMac b1' x1 (fMul b0 x))))

/-- The fit's step (R238): the new estimate, or none where the fit is reset. -/
def BandEst.fit (e : BandEst) (lambda v v1 v2 : Nat) : Option BandEst :=
  let err := fSub v (fMac e.th2 v2 (fMul e.th1 v1))
  let f1 := fMac e.p12 v2 (fMul e.p11 v1)
  let f2 := fMac e.p22 v2 (fMul e.p12 v1)
  let d := fMac v2 f2 (fMac v1 f1 lambda)
  let g1 := fDiv f1 d
  let g2 := fDiv f2 d
  let p11 := fDiv (fMac (fNegate g1) f1 e.p11) lambda
  let q12 := fDiv (fMac (fNegate g1) f2 e.p12) lambda
  let q21 := fDiv (fMac (fNegate g2) f1 e.p12) lambda
  let p22 := fDiv (fMac (fNegate g2) f2 e.p22) lambda
  let p12 := fMul (fAdd q12 q21) 0x3F000000
  let ok := fun (p : Nat) => fFinite p && !fGt p (fNat (2 ^ 100))
  if fFinite d && fGt d 0 && ok p11 && ok p12 && ok p22 then
    some { e with th1 := fMac g1 err e.th1, th2 := fMac g2 err e.th2, p11 := p11, p12 := p12, p22 := p22 }
  else none

/-- Feed one value to a band (R236 to R238, R240). True: the fit was reset. -/
def BandEst.feed (e : BandEst) (co : Nat → Nat) (alpha lambda x : Nat) : BandEst × Bool :=
  let y := stage (co 0) (co 1) (co 2) (co 3) (co 4) x e.hx1 e.hx2 e.hy1 e.hy2
  let v := stage (co 5) (co 6) (co 7) (co 8) (co 9) y e.lx1 e.lx2 e.ly1 e.ly2
  let e1 := { e with hx1 := x, hx2 := e.hx1, hy1 := y, hy2 := e.hy1, lx1 := y, lx2 := e.lx1, ly1 := v, ly2 := e.ly1,
                     env := fMac alpha (fMac v v (fNegate e.env)) e.env,
                     vs := (v :: e.vs).take 2, fed := min 65535 (e.fed + 1) }
  match e.vs with
  | [v1, v2] =>
    match e1.fit lambda v v1 v2 with
    | some e2 => (e2, false)
    | none => ({ e1 with th1 := 0, th2 := 0, p11 := 0x49800000, p12 := 0, p22 := 0x49800000 }, true)
  | _ => (e1, false)

/-- Band b of signal n is computed (R231, R251). -/
def State.bandRuns (s : State) (n b : Nat) : Bool :=
  bitOf (s.ANA_SIG0_BANDS n) b && !(decide (5 ≤ b) && decide (1 ≤ s.glb.shed))

/-- Feed one value to every band of signal n. -/
def State.feedSignal (s : State) (n x : Nat) : State :=
  let s1 := s.setSig n { s.sig n with last := some x }
  s1.forEach ((List.range 8).filter (s1.bandRuns n)) fun s b =>
    let d := s.ANA_SIG0_DOMAIN n
    let sh := fPow2Neg (s.ANA_BCTL_AVG_SHIFT b)
    let lam := fSub 0x3F800000 (fPow2Neg (s.ANA_BCTL_FORGET_SHIFT b))
    let p := ((s.sig n).band b).feed (s.ANA_BCOEF_COEF d b) sh lam x
    let s1 := s.setSig n ((s.sig n).setBand b p.1)
    if p.2 then (s1.aCount 4).anaFlag 5 else s1

/-- An estimator reset (R241). -/
def State.resetSignal (s : State) (n : Nat) : State :=
  ((s.setSig n { s.sig n with last := none, held := 0, bands := [] }).aCount 3).anaFlag 4

/-- Feed one held value; beyond GAP_MAX in a row the estimator is reset (R234). -/
def State.holdSignal (s : State) (n : Nat) : State :=
  match (s.sig n).last with
  | none => s
  | some v =>
    let s1 := (s.setSig n { s.sig n with held := (s.sig n).held + 1 }).aCount 2
    let s2 := s1.feedSignal n v
    if s2.ANA_SIG0_GAP_MAX n < (s2.sig n).held then s2.resetSignal n else s2

/-- The value fed for a valid sample: an ANGLE_DIFF is unwrapped, and resets beyond 3,600 (R232). -/
def State.unwrapped (s : State) (n v : Nat) : State × Nat :=
  match s.ANA_SIG0_KIND n == 1, (s.sig n).last with
  | true, some p =>
    let x := fInt v - fInt p
    let u := fxNear (fSteps 6 v p) (fInt v - wrapTurns x * (360 * 2 ^ 149)) 149
    if fGt (fAbs u) (fNat 3600) then (s.resetSignal n, v) else (s, u)
  | _, _ => (s, v)

/-- An uncorrectable error in a signal's estimator (8 bands of 64 bytes) resets it (18_protection_integrity.md Table PRT-5 store 10). -/
def State.signalRepair (s : State) (n : Nat) : State :=
  match (List.range 64).find? (fun i => s.isBad 10 (64 * n + i)) with
  | some i => ((s.eccUncorrectable 10 (64 * n + i)).clearBad 10 (64 * n + i)).resetSignal n
  | none => s

/-- Signal n meets a set (R234): held values for the grid points between, then its sample or one more held value. -/
def State.signalSet (s : State) (x : RelSet) (n : Nat) : State :=
  let s := s.signalRepair n
  let r := s.rateOf x.dom
  let gap := match s.ana.prev.at none x.dom with
    | some p => gridNear r x.t - gridNear r p - 1
    | none => 0
  let s1 := s.forEach (List.range (min gap 256)) fun s _ => s.holdSignal n
  let s2 := s1.setSig n { s1.sig n with setTime := x.t, sample := s1.anaSample x n, invalid := (s1.anaSample x n).isNone }
  match (s2.sig n).sample with
  | none => (s2.aCount 6).holdSignal n
  | some v =>
    let p := s2.unwrapped n v
    (p.1.setSig n { p.1.sig n with held := 0, sample := some p.2 }).feedSignal n p.2

/-! Results of a band (R237, R239, R240). -/

/-- 2π. -/
def twoPi : Nat := 0x40C90FDB

/-- The band is settled and computed. -/
def State.bandValid (s : State) (n b : Nat) : Bool :=
  s.bandRuns n b && decide (s.ANA_BSETTLE_NSETTLE (s.ANA_SIG0_DOMAIN n) b ≤ ((s.sig n).band b).fed)

/-- AMP. -/
def State.bandAmp (s : State) (n b : Nat) : Nat := fSqrt (fMul 0x40000000 ((s.sig n).band b).env)

/-- The mode of complex roots: frequency and damping ratio; none for real roots (R239). -/
def State.bandRoots (s : State) (n b : Nat) : Option (Nat × Nat) :=
  let e := (s.sig n).band b
  if fInt e.th1 * fInt e.th1 + 4 * fInt e.th2 * 2 ^ 149 < 0 then
    let r := fSqrt (fNegate e.th2)
    let c := fDiv e.th1 (fMul 0x40000000 r)
    let c' := if fGt c 0x3F800000 then 0x3F800000 else if fLt c 0xBF800000 then 0xBF800000 else c
    let w := fAcos c'
    let l := fLn r
    some (fDiv (fMul w (fNat (s.rateOf (s.ANA_SIG0_DOMAIN n)))) twoPi, fDiv (fNegate l) (fSqrt (fMac w w (fMul l l))))
  else none

/-- f in Hz lies within the band's edges in mHz. -/
def State.inBand (s : State) (b f : Nat) : Bool :=
  decide ((s.ANA_BLO_F_LO b : Int) * 2 ^ 149 ≤ 1000 * fInt f) && decide (1000 * fInt f ≤ (s.ANA_BHI_F_HI b : Int) * 2 ^ 149) && fFinite f

/-- The mode of a band, while MODE_VALID. -/
def State.bandMode (s : State) (n b : Nat) : Option (Nat × Nat) :=
  match s.bandRoots n b with
  | some (f, z) =>
    let a := s.bandAmp n b
    let m := (s.reg (R_ANA_SIG3 n)).toNat
    if s.bandValid n b && s.inBand b f && !fLt a m && !fIsNan a && !fIsNan m then some (f, z) else none
  | none => none

/-! Areas and islands (R242 to R244). -/

/-- Insert in order of value. -/
def insertF (v : Nat) : List Nat → List Nat
  | [] => [v]
  | w :: r => if fLt v w then v :: w :: r else w :: insertF v r

/-- The median, the mean of the two middle values rounded once (R242). -/
def median (l : List Nat) : Nat :=
  let o := l.foldl (fun a v => insertF v a) []
  let n := o.length
  if n % 2 = 1 then o.getD (n / 2) 0
  else fOfInt (fInt (o.getD (n / 2 - 1) 0) + fInt (o.getD (n / 2) 0)) 150 (fNeg (o.getD (n / 2) 0))

/-- Members of area a. -/
def State.areaMembers (s : State) (a : Nat) : List Nat :=
  s.signals.filter (fun n => s.ANA_SIG0_KIND n == 3 && s.ANA_SIG2_AREA_EN n == 1 && s.ANA_SIG2_AREA n == a)

/-- Area frequency of area a, the quiet NaN while invalid. -/
def State.areaFreq (s : State) (a : Nat) : Nat := s.ana.areaF.at fQnan a

/-- Update area a (R242). -/
def State.updateArea (s : State) (a : Nat) : State :=
  let v := (s.areaMembers a).filterMap (fun n => (s.sig n).sample)
  let set := fun (s : State) (f : Nat) => s.modAna fun x => { x with areaF := x.areaF.put fQnan a f }
  if v.length < s.ANA_AREA_MIN_MEMBERS a ∨ v = [] then (set s fQnan).aCount 5 else set s (median v)

/-- One pair's update (R243): the pair, and whether it was declared or returned. -/
def AreaPair.update (p : AreaPair) (fi fj fs thresh exit n exitN leak : Nat) : AreaPair :=
  let df := fSub fi fj
  if p.islanded then
    let x := if fLt (fAbs df) exit then p.xcnt + 1 else 0
    if exitN ≤ x then { p with islanded := false, phi := 0, cnt := 0, xcnt := 0, df := df } else { p with xcnt := x, df := df }
  else
    let phi := fAdd (fSub p.phi (fMul p.phi (fPow2Neg leak))) (fDiv (fMul (fNat 360) df) fs)
    let c := if fGt (fAbs df) thresh then p.cnt + 1 else 0
    if n ≤ c then { p with phi := phi, cnt := c, df := df, islanded := true, byAngle := false }
    else if !fLt (fAbs phi) (fNat 180) && !fIsNan phi then { p with phi := phi, cnt := c, df := df, islanded := true, byAngle := true }
    else { p with phi := phi, cnt := c, df := df }

/-- Update the pair (i, j) with its flags (R243, R244). -/
def State.updatePair (s : State) (i j : Nat) : State :=
  let fi := s.areaFreq i
  let fj := s.areaFreq j
  if fi = fQnan ∨ fj = fQnan then s
  else
    let p := s.pair i j
    let q := p.update fi fj (fNat (s.rateOf s.ANA_CFG_ISL_DOMAIN)) (s.reg R_ANA_ISLTH).toNat (s.reg R_ANA_ISLEXIT).toNat
      s.ANA_ISLCFG_N s.ANA_ISLCFG_EXIT_N s.ANA_ISLCFG_LEAK
    let s1 := s.setPair i j q
    if !p.islanded && q.islanded then s1.anaFlag 1 else if p.islanded && !q.islanded then s1.anaFlag 2 else s1

/-- Enabled areas, rising. -/
def State.areas (s : State) : List Nat := (List.range 32).filter (fun a => s.ANA_AREA_ENABLE a == 1)

/-- Areas and pairs on a set of the island domain (R250 step 2). -/
def State.updateIslands (s : State) : State :=
  let s1 := s.forEach s.areas State.updateArea
  s1.forEach s1.areas fun s i => s.forEach (s.areas.filter (fun j => decide (i < j))) fun s j => s.updatePair i j

/-- Area a is islanded (R244). -/
def State.islanded (s : State) (a : Nat) : Bool :=
  s.ana.pairs.any (fun x => x.2.islanded && (x.1 / 32 == a || x.1 % 32 == a))

/-! Trigger conditions (R245 to R249). -/

/-- A rise of TRIG_IN[p] at a stamp after the previous set time of domain d and at or before this one (R245, R257). Before the domain's first
set the grid point ahead of it stands for the previous set time (DESIGN CHOICE, log entry 142). -/
def State.rose (s : State) (d p : Nat) (prev : Option Nat) (t : Nat) : Bool :=
  let q := prev.getD (gridPt (s.rateOf d) (gridNear (s.rateOf d) t - 1))
  (if p = 0 then s.tim.trig0 else s.tim.trig1).any (fun x => decide (q < x) && decide (x ≤ t))

/-- 1.0 or 0.0. -/
def fBool (b : Bool) : Nat := if b then 0x3F800000 else 0

/-- The value a condition tests; none: unknown (Table ANA-2). A signal that is not fed by this set's domain has no sample in it. -/
def State.tcValue (s : State) (x : RelSet) (prev : Option Nat) (k : Nat) : Option Nat :=
  let i := s.ANA_TC0_INDEX k
  let b := s.ANA_TC0_BAND k
  match s.ANA_TC0_SRC k with
  | 0 => if s.ANA_SIG0_ENABLE i == 1 && s.ANA_SIG0_DOMAIN i == x.dom then (s.sig i).sample else none
  | 1 => if s.bandValid i b then some (s.bandAmp i b) else none
  | 2 => (s.bandMode i b).map (·.2)
  | 3 => (s.bandMode i b).map (·.1)
  | 4 => if s.areaFreq i = fQnan then none else some (s.areaFreq i)
  | 5 => some (fBool (s.islanded i))
  | 6 => some (fBool (s.ana.pairs.any (fun p => p.2.islanded)))
  | 7 => some (fNat x.missing)
  | 8 => some (fNat x.quality)
  | _ => some (fBool (s.rose x.dom i prev x.t))

/-- The comparison CMP against TH1 and TH2 (R245). -/
def tcHolds (cmp v th1 th2 : Nat) : Bool :=
  match cmp with
  | 0 => fGt v th1
  | 1 => fLt v th1
  | 2 => fLt v th1 || fGt v th2
  | _ => !fLt v th1 && !fGt v th2 && !fIsNan v && !fIsNan th1 && !fIsNan th2

/-- One evaluation of a condition (R246, R247). -/
def TrigCond.eval (t : TrigCond) (holds : Option Bool) (allowed : Bool) (persist clearN : Nat) : TrigCond :=
  if !allowed then { on := false, persist := 0, clear := if t.on then 0 else t.clear }
  else
    match holds with
    | none => t
    | some true =>
      if t.on then { t with clear := 0 }
      else if persist ≤ t.persist + 1 then { on := true, persist := 0, clear := 0 }
      else { t with persist := t.persist + 1 }
    | some false =>
      if !t.on then { t with persist := 0 }
      else if clearN ≤ t.clear + 1 then { on := false, persist := 0, clear := 0 }
      else { t with clear := t.clear + 1 }

/-- Evaluate condition k; true: it fires (R246 to R248). -/
def State.evalTc (s : State) (x : RelSet) (prev : Option Nat) (k : Nat) : State × Bool :=
  let v := s.tcValue x prev k
  let holds := v.map (fun v => tcHolds (s.ANA_TC0_CMP k) v (s.reg (R_ANA_TC2 k)).toNat (s.reg (R_ANA_TC3 k)).toNat)
  let allowed := s.ANA_TC1_AND_EN k == 0 || (s.tc (s.ANA_TC1_AND_WITH k)).on
  let t := (s.tc k).eval holds allowed (s.ANA_TC0_PERSIST k) (s.ANA_TC1_CLEAR_N k)
  let fires := t.on && !(s.tc k).on
  let s1 := (s.setTc k t).when v.isNone fun s => s.aCount 7
  (s1.when fires fun s => (s.anaFlag 0).count (R_ANA_TCCNT k), fires)

/-- Evaluate the conditions of a set's domain in order; the bitmap of those that fired (R250 step 3). -/
def State.evalTcs (s : State) (x : RelSet) (prev : Option Nat) : State × Nat :=
  (s.conditions.filter (fun k => s.ANA_TC0_DOMAIN k == x.dom)).foldl
    (fun (p : State × Nat) k =>
      let q := p.1.evalTc x prev k
      (q.1, p.2 + b1 q.2 * 2 ^ k)) (s, 0)

/-- ANA_TCSTATE. -/
def State.tcState (s : State) : Nat := ((List.range 32).map (fun k => b1 (s.tc k).on * 2 ^ k)).foldl (· + ·) 0

/-- The alarm requests (R249). -/
def State.alarmRequests (s : State) : Nat :=
  ((List.range 4).map (fun p => b1 (decide ((s.reg (R_ANA_ALARMMAP p)).toNat &&& s.tcState ≠ 0)) * 2 ^ p)).foldl (· + ·) 0

/-- The unit's own work on one set, in the order of R250: the new state and the bitmap of conditions that fired. -/
def State.analyse (s : State) (x : RelSet) : State × Nat :=
  let prev := s.ana.prev.at none x.dom
  let s1 := (s.aCount 0).forEach (s.signals.filter (fun n => s.ANA_SIG0_DOMAIN n == x.dom)) fun s n => s.signalSet x n
  let s2 := if s1.ANA_CFG_ISL_EN = 1 ∧ s1.ANA_CFG_ISL_DOMAIN = x.dom then s1.updateIslands else s1
  let p := s2.evalTcs x prev
  let s3 := p.1.when (p.2 != 0) fun s =>
    ((s.setReg R_ANA_TCFIRED (BitVec.ofNat 32 p.2)).setReg R_ANA_TCSETSEC (BitVec.ofNat 32 (x.t / nsPerSec))).setReg
      R_ANA_TCSETNS (BitVec.ofNat 32 (x.t % nsPerSec))
  (s3.modAna fun a => { a with request := s3.alarmRequests, prev := a.prev.put none x.dom (some x.t) }, p.2)

/-! Shedding, commit, result registers (R251 to R253). -/

/-- Entry to SHED1: bands B5 to B7 are reset and stopped (R251). -/
def State.shedBands (s : State) : State :=
  s.forEach (s.ana.sigs.map (·.1)) fun s n => s.setSig n { s.sig n with bands := (s.sig n).bands.filter (fun x => decide (x.1 < 5)) }

/-- Entry to HALT: every estimator is reset (R241). -/
def State.haltAnalysis (s : State) : State := if s.hasAnalysis then s.forEach s.signals State.resetSignal else s

/-- A register word differs between two register files. -/
def State.differs (old s : State) (off : Nat) : Bool := old.reg off != s.reg off

/-- Band b of domain d was changed by a commit (R252). -/
def State.bandChanged (old s : State) (d b : Nat) : Bool :=
  old.differs s (R_ANA_BLO b) || old.differs s (R_ANA_BHI b) || old.differs s (R_ANA_BCTL b) ||
    (List.range 10).any (fun w => old.differs s (R_ANA_BCOEF d b w))

/-- A commit changed signal n (R252). -/
def State.sigChanged (old s : State) (n : Nat) : Bool :=
  old.differs s (R_ANA_SIG0 n) || old.differs s (R_ANA_SIG1 n) || old.differs s (R_ANA_SIG2 n) || old.differs s (R_ANA_SIG3 n) ||
    (List.range 8).any (fun b => bitOf (s.ANA_SIG0_BANDS n) b && old.bandChanged s (s.ANA_SIG0_DOMAIN n) b)

/-- What a commit does to the unit; `old` holds the registers before it (R252). -/
def State.commitAnalysis (s old : State) : State :=
  let s1 := s.forEach ((List.range 1024).filter (fun n =>
    (s.ANA_SIG0_ENABLE n == 1 || old.ANA_SIG0_ENABLE n == 1) && old.sigChanged s n)) State.resetSignal
  let isl := old.differs s R_ANA_ISLCFG || old.differs s R_ANA_ISLTH || old.differs s R_ANA_ISLEXIT ||
    old.ANA_CFG_ISL_DOMAIN != s.ANA_CFG_ISL_DOMAIN ||
    (List.range 32).any (fun a => old.differs s (R_ANA_AREA a) || old.areaMembers a != s.areaMembers a)
  let s2 := if isl then s1.modAna fun a => { a with pairs := [] } else s1
  let s3 := s2.forEach ((List.range 32).filter (fun k =>
    old.differs s (R_ANA_TC0 k) || old.differs s (R_ANA_TC1 k) || old.differs s (R_ANA_TC2 k) || old.differs s (R_ANA_TC3 k)))
    fun s k => s.setTc k {}
  s3.modAna fun a => { a with request := s3.alarmRequests }

/-- A commit refuses the image of candidate s: an analysis rule fails (R231, R235, R236, R242, R243, R245). -/
def State.anaRefuses (s : State) : Bool :=
  let fin := fun (v : Nat) => fFinite v
  let one : Int := 2 ^ 149
  let stageBad := fun (d b o : Nat) =>
    let a1 := s.ANA_BCOEF_COEF d b (o + 3)
    let a2 := s.ANA_BCOEF_COEF d b (o + 4)
    decide (one ≤ (fInt a2).natAbs) || decide (one + fInt a2 ≤ (fInt a1).natAbs)
  let bandBad := fun (d b : Nat) =>
    let lo := s.ANA_BLO_F_LO b
    let hi := s.ANA_BHI_F_HI b
    lo == 0 || decide (hi ≤ lo) || decide (400 * s.rateOf d < hi) ||
      !(List.range 10).all (fun w => fin (s.ANA_BCOEF_COEF d b w)) || stageBad d b 0 || stageBad d b 5
  let flowBad := fun (d f : Nat) => !(s.members d).contains f || s.fFormat f != 1
  let sigBad := fun (n : Nat) =>
    let d := s.ANA_SIG0_DOMAIN n
    let k := s.ANA_SIG0_KIND n
    let two := k == 1 || k == 5
    flowBad d (s.ANA_SIG1_FLOW n) || (two && flowBad d (s.ANA_SIG2_RFLOW n)) || decide (6 ≤ k) ||
      ((k == 3 || k == 4) && (s.ANA_SIG1_CHAN n != 0 || s.ANA_SIG2_RCHAN n != 0)) ||
      (List.range 8).any (fun b => bitOf (s.ANA_SIG0_BANDS n) b && bandBad d b) ||
      (s.ANA_SIG2_AREA_EN n == 1 && (k != 3 || d != s.ANA_CFG_ISL_DOMAIN))
  let tcBad := fun (k : Nat) =>
    let src := s.ANA_TC0_SRC k
    let i := s.ANA_TC0_INDEX k
    let th1 := (s.reg (R_ANA_TC2 k)).toNat
    let th2 := (s.reg (R_ANA_TC3 k)).toNat
    decide (10 ≤ src) || ((src == 4 || src == 5) && decide (32 ≤ i)) || (src == 9 && decide (2 ≤ i)) ||
      ((src == 4 || src == 5 || src == 6) && s.ANA_TC0_DOMAIN k != s.ANA_CFG_ISL_DOMAIN) ||
      ((src == 1 || src == 2 || src == 3) && !bitOf (s.ANA_SIG0_BANDS i) (s.ANA_TC0_BAND k)) ||
      s.ANA_TC0_PERSIST k == 0 || s.ANA_TC1_CLEAR_N k == 0 || s.ANA_TC1_AND_WITH k == k ||
      (decide (2 ≤ s.ANA_TC0_CMP k) && fLt th2 th1)
  s.signals.any sigBad || s.conditions.any tcBad ||
    s.areas.any (fun a => decide ((s.areaMembers a).length < s.ANA_AREA_MIN_MEMBERS a)) ||
    !fLt (s.reg R_ANA_ISLEXIT).toNat (s.reg R_ANA_ISLTH).toNat

/-- Latch a band's results (R253). -/
def State.latchResult (s : State) (v : BitVec 32) : State :=
  let s0 := s.setReg R_ANA_RSEL (BitVec.ofNat 32 (v.toNat % 8192))
  let n := s0.ANA_RSEL_SIG
  let b := s0.ANA_RSEL_BAND
  let x := s0.sig n
  let m := s0.bandMode n b
  let w := fun (s : State) (off v : Nat) => s.setReg off (BitVec.ofNat 32 v)
  let flags := b1 (s0.bandValid n b) + 2 * b1 m.isSome + 4 * b1 x.invalid + 8 * b1 (decide (5 ≤ b ∧ 1 ≤ s0.glb.shed)) +
    min 255 x.held * 256 + (x.band b).fed * 65536
  w (w (w (w (w (w (w s0 R_ANA_RAMP (s0.bandAmp n b)) R_ANA_RFREQ (m.elim fQnan (·.1))) R_ANA_RDAMP (m.elim fQnan (·.2)))
    R_ANA_RFLAGS flags) R_ANA_RSETSEC (x.setTime / nsPerSec)) R_ANA_RSETNS (x.setTime % nsPerSec)) R_ANA_RVAL (x.last.getD fQnan)

/-- Latch a pair's state (R253). -/
def State.latchPair (s : State) (v : BitVec 32) : State :=
  let s0 := s.setReg R_ANA_PSEL (BitVec.ofNat 32 (v.toNat &&& 0x1F1F))
  let i := s0.ANA_PSEL_I
  let j := s0.ANA_PSEL_J
  let p := s0.pair i j
  let bad := decide (j ≤ i) || s0.ANA_AREA_ENABLE i == 0 || s0.ANA_AREA_ENABLE j == 0
  let w := fun (s : State) (off v : Nat) => s.setReg off (BitVec.ofNat 32 v)
  if bad then w (w (w s0 R_ANA_PDF fQnan) R_ANA_PPHI fQnan) R_ANA_PSTAT 0
  else w (w (w s0 R_ANA_PDF p.df) R_ANA_PPHI p.phi) R_ANA_PSTAT
    (b1 p.islanded + 2 * b1 p.byAngle + p.cnt % 256 * 256 + p.xcnt % 256 * 65536)

end Sys2Proof.Machine
end

