-- ==== Sys2Proof/Machine/Capture.lean ====
section
/-! DEFINITION. Event capture (12_event_capture.md): groups, slots and rings in DDR, records, late patches and trigger
summaries. -/

namespace Sys2Proof.Machine

def State.modCap (s : State) (f : Cap → Cap) : State := { s with cap := f s.cap }
def State.group (s : State) (g : Nat) : CapGroup := s.cap.groups.at {} g
def State.setGroup (s : State) (g : Nat) (x : CapGroup) : State := s.modCap fun c => { c with groups := c.groups.put {} g x }
def State.modGroup (s : State) (g : Nat) (f : CapGroup → CapGroup) : State := s.setGroup g (f (s.group g))
/-- Counter c of group g (Table CAP-6). -/
def State.gCount (s : State) (g c : Nat) : State := s.count (R_CAP_GCNT g c)
/-- The groups with ENABLE = 1. -/
def State.capGroups (s : State) : List Nat := if s.hasCapture then (List.range 16).filter (fun g => s.CAP_GCFG_ENABLE g == 1) else []

/-! Slots (R255, R259). -/

/-- The settings of group g. -/
def State.capCfg (s : State) (g : Nat) : CapCfg :=
  { dom := s.CAP_GCFG_DOMAIN g, pre := s.CAP_GWIN_PRE g, post := s.CAP_GWIN_POST g, count := s.CAP_GMEMB_COUNT g,
    first := s.CAP_GMEMB_FIRST_MEMBER g, mb := 64 * s.CAP_GSIZE_MB64 g }
/-- S (R255). -/
def CapCfg.size (c : CapCfg) : Nat := 64 + c.count * c.mb
/-- SLOT_BYTES (R259). -/
def CapCfg.slotBytes (c : CapCfg) : Nat := (256 + (c.pre + 1 + c.post) * c.size + 4095) / 4096 * 4096
/-- DDR address of slot i. -/
def State.slotAddr (s : State) (g i : Nat) : Nat := s.CAP_GBASE_BASE g * 4096 + i * (s.capCfg g).slotBytes
/-- DDR address of position k of the slot at `a`. -/
def CapCfg.posAddr (c : CapCfg) (a k : Nat) : Nat := a + 256 + k * c.size
/-- Slot of record n, (n − 1) mod RECORDS. -/
def State.slotOf (s : State) (g n : Nat) : Nat := (n - 1) % s.CAP_GSIZE_RECORDS g
/-- The slot of record n is free to become current (R260). -/
def State.slotFree (s : State) (g n : Nat) : Bool :=
  s.CAP_GCFG_OVERWRITE g == 1 || decide (n ≤ s.CAP_GSIZE_RECORDS g + s.CAP_GACK_SEQ g)

/-- The slot of record n becomes current: what it held is invalid (R260). -/
def State.takeSlot (s : State) (g n : Nat) : State :=
  s.modGroup g fun x =>
    let gone := n - s.CAP_GSIZE_RECORDS g
    { x with slot := s.slotOf g n, ring := [], ringPos := 0
             oldest := if x.oldest ≠ 0 ∧ x.oldest ≤ gone then (if x.newest ≤ gone then 0 else gone + 1) else x.oldest
             recs := x.recs.filter (fun r => decide (gone < r.seq)) }

/-- A group starts or restarts in the slot of its next record: REARM, or STOPPED without DDR, or FULL (R260, R265). -/
def State.startGroup (s : State) (g : Nat) : State :=
  let s0 := s.modGroup g fun x => { x with samples := 0, rearm := 0, ring := [], ringPos := 0 }
  let n := (s0.group g).seq + 1
  if 3 ≤ s0.glb.shed ∨ s0.ddrUsable = false then s0.modGroup g fun x => { x with state := 7 }
  else if s0.slotFree g n then (s0.takeSlot g n).modGroup g fun x => { x with state := 1 }
  else s0.modGroup g fun x => { x with state := 6 }

/-! Bytes (Tables CAP-2 to CAP-4). -/

/-- A member block (Table CAP-4). -/
def memberBlock (mb : Nat) (m : Member) (late : Bool) : Bytes :=
  let data := if m.present && !m.lost then m.recs.flatMap (·.data) else []
  let room := mb - 8
  leBytes 4 m.entry ++ leBytes 2 (min room data.length) ++
    leBytes 2 (b1 (decide (room < data.length)) + 2 * b1 late + 4 * b1 (!m.present || m.lost)) ++ padTo room (data.take room)

/-- A member block is truncated. -/
def truncated (mb : Nat) (m : Member) : Bool := m.present && !m.lost && decide (mb - 8 < (m.recs.flatMap (·.data)).length)

/-- A sample header (Table CAP-3). -/
def sampleHeader (t rel : Nat) (setHdr : Bytes) (fired kind ext no : Nat) : Bytes :=
  leBytes 8 (dev64 t) ++ leBytes 8 (dev64 rel) ++ padTo 16 setHdr ++ leBytes 4 fired ++ leBytes 1 kind ++ leBytes 1 ext ++ [0, 0] ++
    leBytes 4 no ++ List.replicate 20 0

/-- The members of a set that a sample holds (R255). -/
def CapCfg.range (c : CapCfg) (x : RelSet) : List Member := (x.members.drop c.first).take c.count

/-- A member block takes the late supplements of its flow (R264). -/
def Member.withLate (m : Member) (late : List Rec) : Member :=
  match late.filter (fun r => r.flow == m.flow) with
  | [] => m
  | l => { m with present := true, recs := m.recs ++ l }

/-- Samples of a record, oldest first. -/
def CapRec.samples (r : CapRec) : List Sample := r.pre ++ r.trig :: r.post

/-- Sum over samples. -/
def sumOf (l : List Sample) (f : Sample → Nat) : Nat := (l.map f).foldl (· + ·) 0

/-- The record header (Table CAP-2). -/
def CapRec.header (r : CapRec) (g : Nat) : Bytes :=
  let ss := r.samples
  let sets := ss.filter (fun x => !x.marker)
  let c := r.cfg
  let flags := b1 (decide (r.pre.length < c.pre)) + 2 * b1 r.shed + 4 * b1 (ss.any (·.marker)) + 8 * b1 r.final + 16 * b1 r.closed +
    32 * b1 (ss.any (fun x => x.trunc != 0)) + 64 * b1 r.commit + 128 * b1 (ss.any (·.lost))
  let body := leBytes 4 0x52504143 ++ leBytes 2 1 ++ leBytes 1 g ++ leBytes 1 c.dom ++ leBytes 4 r.seq ++ leBytes 4 flags ++
    leBytes 8 (dev64 r.trig.t) ++ leBytes 8 (dev64 r.trig.rel) ++ leBytes 4 r.fired ++ leBytes 1 r.primary ++ leBytes 1 r.ext ++ [0, 0] ++
    leBytes 2 c.pre ++ leBytes 2 r.pre.length ++ leBytes 2 r.preStart ++ leBytes 2 c.post ++
    leBytes 2 (r.post.filter (fun x => !x.marker)).length ++ leBytes 2 c.count ++ leBytes 2 c.first ++ leBytes 2 c.mb ++ leBytes 4 c.size ++
    leBytes 2 (min 65535 r.missed) ++ leBytes 2 (min 65535 r.deadSets) ++ leBytes 8 (r.deadNs % 2 ^ 64).toNat ++
    leBytes 8 (dev64 (ss.headD r.trig).t) ++ leBytes 8 (dev64 (ss.getLastD r.trig).t) ++ leBytes 8 (dev64 r.closeTime) ++ leBytes 4 r.summary ++
    leBytes 2 (sets.filter (·.partialSet)).length ++ leBytes 2 (sets.filter (·.empty)).length ++ leBytes 4 (sumOf sets (·.missing)) ++
    leBytes 2 (sumOf ss (·.patches)) ++ leBytes 2 r.dropped ++ leBytes 4 ((sets.map (fun x => (x.rel - x.t) / 1000)).foldl max 0) ++
    leBytes 1 ((sets.map (·.quality)).foldl max 0) ++ leBytes 1 (ss.filter (·.marker)).length ++
    leBytes 2 (sets.filter (·.settle)).length ++ leBytes 2 (sumOf sets (·.trunc)) ++ [0, 0] ++
    leBytes 4 ((((r.closeTime : Int) - r.trig.rel) / 1000) % 2 ^ 32).toNat ++ List.replicate 124 0
  body ++ leBytes 4 (checkOf 3 body)

/-- Write a record's header. -/
def State.writeHeader (s : State) (g : Nat) (r : CapRec) : State := s.ddrWrite r.addr (r.header g)

/-! Summaries (R266, R267). -/

/-- Words of summary n. -/
def State.summWord (s : State) (n w : Nat) : Nat := (s.reg (R_CAP_SUMM (n % 256) w)).toNat
/-- Bytes of summary n. -/
def State.summBytes (s : State) (n : Nat) : Bytes := (List.range 8).flatMap (fun w => leBytes 4 (s.summWord n w))
/-- Write summary n from its first 28 bytes (Table CAP-5). -/
def State.putSummary (s : State) (n : Nat) (bs : Bytes) : State :=
  let all := bs ++ leBytes 4 (checkOf 3 bs)
  s.forEach (List.range 8) fun s w => s.setReg (R_CAP_SUMM (n % 256) w) (BitVec.ofNat 32 (leNat ((all.drop (4 * w)).take 4)))

/-- Make a summary for a set (R266): the new state and its number. A 17th while 16 wait for the flash leaves the oldest of them unwritten (02_modes.md
R47 is silent there: DESIGN CHOICE, log entry 129). -/
def State.summarise (s : State) (x : RelSet) (fired : Nat) : State × Nat :=
  let n := (s.cap.newest + 1) % 2 ^ 32
  let bs := leBytes 4 n ++ leBytes 8 (dev64 x.t) ++ leBytes 4 fired ++ leBytes 1 x.dom ++ leBytes 1 x.quality ++ leBytes 4 0 ++
    leBytes 1 s.glb.mode.code ++ leBytes 1 s.glb.shed ++ leBytes 4 (s.ARM_ID_DEVICE_ID + 16384 * b1 s.glb.side)
  ((s.putSummary n bs).modCap fun c => { c with newest := n, count := min 256 (c.count + 1), unflushed := min 16 (c.unflushed + 1) }, n)

/-- Add what group g did with the set of summary n: EXT, CAPTURED, MISSED. -/
def State.addToSummary (s : State) (n g ext : Nat) (captured : Bool) : State :=
  let bs := (s.summBytes n).take 28
  if leNat (bs.take 4) ≠ n then s
  else
    let de := leNat ((bs.drop 16).take 1)
    let cap := leNat ((bs.drop 18).take 2)
    let mis := leNat ((bs.drop 20).take 2)
    s.putSummary n (bs.take 16 ++ leBytes 1 (de ||| ext * 16) ++ (bs.drop 17).take 1 ++
      leBytes 2 (if captured then cap ||| 2 ^ g else cap) ++ leBytes 2 (if captured then mis else mis ||| 2 ^ g) ++ bs.drop 22)

/-- Address of place p of the summary region. -/
def summAddr (p : Nat) : Nat := 0x3000 + 32 * p

/-- Write summary n to the flash; the first write into a sector erases the sector after it (R267). -/
def State.flashSummary (s : State) (n : Nat) : State :=
  let p := s.cap.place
  let s1 := if p % 128 = 0 then s.flashErase (0x3000 + 0x1000 * ((p / 128 + 1) % 4)) else s
  (s1.flashProgram (summAddr p) (s1.summBytes n)).modCap fun c => { c with place := (p + 1) % 512 }

/-- Write the oldest k unflushed summaries, each an access of M6 to the flash controller (18_protection_integrity.md R367, R369). One that its
table refuses is a violation, and it and those after it stay unflushed (DESIGN CHOICE, log entry 147). -/
def State.flushFirst (s : State) : Nat → State
  | 0 => s
  | k + 1 =>
    let a := summAddr s.cap.place
    if s.granted 21 6 17 a 32 then
      ((s.flashSummary (s.cap.newest + 1 - s.cap.unflushed)).modCap fun c => { c with unflushed := c.unflushed - 1 }).flushFirst k
    else s.violation 6 21 a 1

/-- Flush the unflushed summaries (R47, R266, R267); a failed program leaves them unflushed. -/
def State.flushSummaries (s : State) (ok : Bool) : State :=
  if s.cap.unflushed = 0 then s
  else if !ok then s.capFlag 5
  else s.flushFirst s.cap.unflushed

/-- Valid summaries in the flash: place and number (R267). -/
def State.flashSummaries (s : State) : List (Nat × Nat) :=
  ((List.range 512).filter (fun p =>
    let bs := s.flashRead (summAddr p) 32
    bs != List.replicate 32 0xFF && checkOf 3 (bs.take 28) == leNat (bs.drop 28))).map (fun p => (p, s.flashLe (summAddr p) 4))

/-- At boot: the valid summaries are read into CAP_SUMM, the number resumes, an interrupted erase is redone (R266, R267). -/
def State.bootSummaries (s : State) : State :=
  let l := s.flashSummaries
  let top := l.foldl (fun (a : Nat × Nat) x => if a.2 ≤ x.2 then x else a) (511, 0)
  let keep := l.filter (fun x => decide (top.2 < x.2 + 256))
  let s1 := s.forEach (keep.map (·.1)) fun s p => s.putSummary (s.flashLe (summAddr p) 4) (s.flashRead (summAddr p) 28)
  let place := if l = [] then 0 else (top.1 + 1) % 512
  let s2 := if l = [] then s1 else s1.flashErase (0x3000 + 0x1000 * ((top.1 / 128 + 1) % 4))
  s2.modCap fun c => { c with newest := top.2, count := keep.length, unflushed := 0, place := place }

/-! Samples (R256, R260, R262). -/

/-- Put a sample's bytes at a position of the slot at `a`; SAMPLE_NO and SAMPLES count. -/
def State.putSample (s : State) (g a pos : Nat) (bs : Bytes) : State :=
  (((s.ddrWrite ((s.capCfg g).posAddr a pos) bs).modGroup g fun x => { x with samples := (x.samples + 1) % 2 ^ 32 })).gCount g 1

/-- What the device keeps of a set's sample. -/
def CapCfg.noteSet (c : CapCfg) (x : RelSet) (late : List Rec) (pos : Nat) : Sample :=
  let ms := (c.range x).map (·.withLate late)
  { pos := pos, marker := false, t := x.t, rel := x.rel, partialSet := x.partialSet, empty := x.empty, missing := x.missing,
    quality := x.quality, settle := ms.any (fun m => m.recs.any (·.settle)), lost := ms.any (·.lost),
    trunc := (ms.filter (truncated c.mb)).length, flows := ms.map (·.flow), patches := late.length }

/-- The bytes of a set's sample. -/
def CapCfg.setBytes (c : CapCfg) (x : RelSet) (fired ext no : Nat) (late : List Rec) : Bytes :=
  sampleHeader x.t x.rel ((x.header.drop 16).take 16) fired 0 ext no ++
    (c.range x).flatMap (fun m => memberBlock c.mb (m.withLate late) (late.any (fun r => r.flow == m.flow)))

/-- Add a sample to the current ring; PRE = 0 keeps none (R260). -/
def State.toRing (s : State) (g : Nat) (smp : Nat → Sample) (bs : Bytes) : State :=
  let c := s.capCfg g
  if c.pre = 0 then s
  else
    let x := s.group g
    (s.putSample g (s.slotAddr g x.slot) x.ringPos bs).modGroup g fun x =>
      { x with ring := (smp x.ringPos :: x.ring).take c.pre, ringPos := (x.ringPos + 1) % c.pre }

/-- A trigger that is not captured counts under c, and is pending unless ignored (R258). -/
def State.missTrigger (s : State) (g c : Nat) : State :=
  if c = 9 then s.gCount g 9
  else ((s.gCount g c).modGroup g fun x => { x with missed := min 65535 (x.missed + 1) }).capFlag 1

/-- Close the open record (R260, R265). -/
def State.closeRecord (s : State) (g : Nat) (shed commit : Bool) : State :=
  match (s.group g).opened with
  | none => s
  | some r =>
    let r' := { r with closed := true, shed := shed, commit := commit, closeTime := s.now }
    let s1 := s.modGroup g fun x =>
      { x with opened := none, newest := r.seq, oldest := if x.oldest = 0 then r.seq else x.oldest, recs := x.recs ++ [r'] }
    (s1.gCount g 0).capFlag 0

/-- Close the open record with the samples taken so far, and write the header of the newest closed record at once (R265). -/
def State.cutRecord (s : State) (g : Nat) (shed commit : Bool) : State :=
  let s1 := s.closeRecord g shed commit
  let s2 := match (s1.group g).recs.getLast?, (s.group g).opened.isSome || (s.group g).flushing.isSome with
    | some r, true => s1.writeHeader g r
    | _, _ => s1
  s2.modGroup g fun y => { y with flushing := none }

/-- Every enabled group starts: entry to RUN or STANDBY (R260, R265). An open record is closed first; a group that is DISARMED stays so,
since only CAPTURE_ARM ends that (DESIGN CHOICE, log entry 143). -/
def State.startCapture (s : State) : State :=
  s.forEach s.capGroups fun s g => if (s.group g).state = 5 then s else (s.cutRecord g false false).startGroup g

/-- The last post sample is written: the record closes and FLUSH begins in the next slot, or the group is FULL (R260). -/
def State.endPost (s : State) (g : Nat) : State :=
  let s1 := (s.closeRecord g false false).modGroup g fun x => { x with flushing := x.recs.getLast?, rearm := 0 }
  let n := (s1.group g).seq + 1
  if s1.slotFree g n then (s1.takeSlot g n).modGroup g fun x => { x with state := 4 }
  else s1.modGroup g fun x => { x with state := if s1.CAP_GCFG_SINGLE g = 1 then 5 else 6 }

/-- A post sample (R260). -/
def State.toPost (s : State) (g : Nat) (smp : Nat → Sample) (bs : Bytes) : State :=
  match (s.group g).opened with
  | none => s
  | some r =>
    let pos := r.cfg.pre + 1 + r.post.length
    let s1 := (s.putSample g r.addr pos bs).modGroup g fun x => { x with opened := some { r with post := r.post ++ [smp pos] } }
    if r.post.length + 1 ≥ r.cfg.post then s1.endPost g else s1

/-- A captured trigger: the set at position PRE opens a record, and the group enters POST (R257 to R263). -/
def State.openRecord (s : State) (g : Nat) (x : RelSet) (fired ext primary summary : Nat) (late : List Rec) : State :=
  let c := s.capCfg g
  let y := s.group g
  let a := s.slotAddr g y.slot
  let pre := y.ring.reverse
  let r : CapRec :=
    { seq := y.seq + 1, addr := a, cfg := c, pre := pre
      preStart := if pre.length < c.pre then 0 else y.ringPos
      trig := c.noteSet x late c.pre, fired := fired, primary := primary, ext := ext, missed := y.missed
      deadSets := (y.dead.getD (0, 0)).1, deadNs := (y.dead.getD (0, 0)).2, summary := summary }
  let s1 := s.putSample g a c.pre (c.setBytes x fired ext y.samples late)
  let s2 := s1.modGroup g fun y =>
    { y with state := 3, seq := r.seq, opened := some r, missed := 0, lastTrig := some (x.rel, x.number), dead := none, ring := [] }
  let s3 := (s2.when (decide (pre.length < c.pre)) fun s => (s.gCount g 5).capFlag 2).writeHeader g r
  if c.post = 0 then s3.endPost g else s3

/-- EXT of a set for group g: pins that rose and are named, and FORCE (R257). -/
def State.extOf (s : State) (g : Nat) (x : RelSet) : Nat :=
  let y := s.group g
  let pin := fun (p : Nat) => bitOf (s.CAP_GCFG_TRIGIN g) p && s.rose x.dom p x.prev x.t
  b1 (pin 0) + 2 * b1 (pin 1) + 4 * b1 y.forced

/-- PRIMARY (R257). -/
def primaryOf (fired ext : Nat) : Nat :=
  match (List.range 32).find? (bitOf fired) with
  | some k => k
  | none => if bitOf ext 0 then 32 else if bitOf ext 1 then 33 else 34

/-- Both are copies of one released set. -/
def RelSet.sameSet (x y : RelSet) : Bool := x.dom == y.dom && x.t == y.t && x.rel == y.rel

/-- Record summary n in every staged copy of the set. -/
def State.nameSummary (s : State) (x : RelSet) (n : Nat) : State :=
  s.forEach (List.range 16) fun s g =>
    s.modGroup g fun y =>
      { y with staged := y.staged.map (fun z => if z.summary.isNone && z.set.sameSet x then { z with summary := some n } else z) }

/-- Group g takes a set whose trigger decision is known (R256 to R263). -/
def State.captureSet (s : State) (g : Nat) (z : Staged) : State :=
  let x := z.set
  let c := s.capCfg g
  let y0 := s.group g
  -- ARMED at the first set after both, once the flush is done
  let st := if y0.state = 1 ∧ y0.rearm ≥ 2 ∧ y0.flushing = none then 2 else y0.state
  let ext := s.extOf g x
  let trig := z.named || ext != 0
  let dead := match y0.lastTrig with
    | some (rel, no) => if y0.dead.isNone && st == 2 then some (min 65535 (x.number - no - 1), (x.rel : Int) - rel) else y0.dead
    | none => none
  let s1 := s.modGroup g fun y => { y with state := st, forced := false, dead := dead }
  -- the summary
  let p := if trig && st != 0 then
      match z.summary with
      | some n => (s1, n)
      | none =>
        let q := s1.summarise x z.fired
        (q.1.nameSummary x q.2, q.2)
    else (s1, z.summary.getD 0)
  let s2 := p.1
  let bs := c.setBytes x z.fired ext y0.samples z.late
  let cut := (c.range x).filter (fun m => truncated c.mb (m.withLate z.late))
  let s3 := if st = 0 ∨ 5 ≤ st then s2 else s2.countN (R_CAP_GCNT g 10) cut.length
  if st = 2 ∧ trig then (s3.openRecord g x z.fired ext (primaryOf z.fired ext) p.2 z.late).addToSummary p.2 g ext true
  else
    let s4 := if trig && st != 0 then
        (s3.missTrigger g (match st with | 5 => 9 | 6 => 3 | 7 => 4 | _ => 2)).addToSummary p.2 g ext false
      else s3
    match st with
    | 1 => (s4.toRing g (c.noteSet x z.late) bs).modGroup g fun y => { y with rearm := y.rearm + 1 }
    | 2 => s4.toRing g (c.noteSet x z.late) bs
    | 3 => s4.toPost g (c.noteSet x z.late) bs
    | 4 => s4.toRing g (c.noteSet x z.late) bs
    | _ => s4

/-- Group g takes a time-step marker (R262). -/
def State.captureMarker (s : State) (g new old : Nat) : State :=
  let y := s.group g
  let c := s.capCfg g
  let bs := padTo c.size (sampleHeader new old [] 0 1 0 y.samples)
  let smp := fun (pos : Nat) => ({ pos := pos, marker := true, t := new, rel := old } : Sample)
  if y.state = 0 ∨ 5 ≤ y.state then s
  else
    let s1 := (s.gCount g 8).capFlag 6
    if y.state = 3 then s1.toPost g smp bs else s1.toRing g smp bs

/-- Group g writes the set at the head of its staging buffer (CAPTURE_SAMPLE, R256). -/
def State.captureSample (s : State) (g : Nat) : State :=
  if !s.live || s.CAP_GCFG_ENABLE g != 1 || !s.hasCapture then s
  else
    match (s.group g).staged with
    | z :: rest => if z.ready then (s.modGroup g fun y => { y with staged := rest }).captureSet g z else s
    | [] => s

/-- A released set reaches the staging buffers; `waits`: the analysis unit has it (R255, R256). -/
def State.stageSet (s : State) (x : RelSet) (waits : Bool) : State :=
  s.forEach (s.capGroups.filter (fun g => s.CAP_GCFG_DOMAIN g == x.dom && (s.group g).state != 0)) fun s g =>
    s.modGroup g fun y => { y with staged := y.staged ++ [{ set := x, ready := !waits }] }

/-- A time step writes its marker in every enabled group that runs (R262). -/
def State.markStep (s : State) (new old : Nat) : State := s.forEach s.capGroups fun s g => s.captureMarker g new old

/-- The first waiting copy of a set learns its trigger decision. -/
def decideStaged (x : RelSet) (fired : Nat) (named : Bool) (summary : Option Nat) : List Staged → List Staged
  | [] => []
  | z :: r =>
    if !z.ready && z.set.sameSet x then { z with ready := true, fired := fired, named := named, summary := summary } :: r
    else z :: decideStaged x fired named summary r

/-- The conditions in a bitmap whose CAPMASK names group g (R248). -/
def State.namesGroup (s : State) (fired g : Nat) : Bool :=
  (List.range 32).any (fun k => bitOf fired k && bitOf (s.ANA_TC1_CAPMASK k) g)

/-- The analysis unit has evaluated a set: the groups learn what fired, and a set in which something fired gets its summary
(R248, R256, R266). -/
def State.decideSet (s : State) (x : RelSet) (fired : Nat) : State :=
  let p : State × Option Nat := if fired = 0 then (s, none) else ((s.summarise x fired).1, some (s.summarise x fired).2)
  p.1.forEach (List.range 16) fun s g =>
    s.modGroup g fun y => { y with staged := decideStaged x fired (s.namesGroup fired g) p.2 y.staged }

/-! Flush, finality, re-arming (R260, R264, R268, R269). -/

/-- The header of the record just closed is written and the group re-arms (CAPTURE_FLUSH_DONE, R260). A record that the next slot has
displaced already (RECORDS = 1) is written all the same. -/
def State.flushDone (s : State) (g : Nat) : State :=
  match (s.group g).flushing, s.live with
  | some r, true =>
    (s.writeHeader g (((s.group g).recs.find? (fun q => q.seq == r.seq)).getD r)).modGroup g fun y =>
      { y with flushing := none, state := if y.state = 4 then (if s.CAP_GCFG_SINGLE g = 1 then 5 else 1) else y.state, rearm := 0 }
  | _, _ => s

/-- REL_TIME of the newest sample of a record. -/
def CapRec.newestRel (r : CapRec) : Nat := ((r.samples.filter (fun x => !x.marker)).getLastD r.trig).rel

/-- The oldest closed record of group g becomes FINAL when its late horizon has passed (RECORD_FINAL, R264). -/
def State.recordFinal (s : State) (g : Nat) : State :=
  match (s.group g).recs with
  | r :: rest =>
    if r.newestRel + s.hLate r.cfg.dom ≤ s.now ∧ s.ddrUsable ∧ s.live ∧ ((s.group g).flushing = none ∨ rest ≠ []) then
      ((s.modGroup g fun y => { y with recs := rest }).writeHeader g { r with final := true }).capFlag 3
    else s
  | [] => s

/-- CAPTURE_ARM of one group (R268); none: no slot is free. -/
def State.armGroup (s : State) (g : Nat) : Option State :=
  if (s.group g).state ≠ 5 then some s
  else
    let n := (s.group g).seq + 1
    if s.slotFree g n then some ((s.takeSlot g n).modGroup g fun y => { y with state := 1, rearm := 0 }) else none

/-- CAPTURE_FORCE of one group. -/
def State.forceGroup (s : State) (g : Nat) : State := s.modGroup g fun y => { y with forced := true }

/-- An acknowledgement of records up to n (CAPTURE_ACK, R269). -/
def State.ackGroup (s : State) (g n : Nat) : State :=
  if n < s.CAP_GACK_SEQ g ∨ (s.group g).newest < n then s
  else
    let s1 := s.setReg (R_CAP_GACK g) (BitVec.ofNat 32 n)
    if (s1.group g).state = 6 ∧ s1.slotFree g ((s1.group g).seq + 1) then s1.startGroup g else s1

/-! Late supplements (R264). -/

/-- Patch the member block of flow f in a written sample: the record, LATE and PRESENT. -/
def State.patchBlock (s : State) (c : CapCfg) (a : Nat) (x : Sample) (r : Rec) : State :=
  match x.flows.findIdx? (· == r.flow) with
  | none => s
  | some i =>
    let o := c.posAddr a x.pos + 64 + i * c.mb
    let room := c.mb - 8
    let entry := leNat (s.ddrRead o 4) ||| 0x2000
    s.ddrWrite o (leBytes 4 entry ++ leBytes 2 (min room r.data.length) ++
      leBytes 2 (b1 (decide (room < r.data.length)) + 2) ++ padTo room (r.data.take room))

/-- The sample of set time t that holds flow f. -/
def sampleFor (l : List Sample) (t f : Nat) : Option Sample := l.find? (fun x => !x.marker && x.t == t && x.flows.contains f)

/-- A staged set takes a late record. -/
def lateStaged (c : CapCfg) (t : Nat) (r : Rec) : List Staged → Option (List Staged)
  | [] => none
  | z :: rest =>
    if z.set.t = t ∧ (c.range z.set).any (fun v => v.flow == r.flow) then some ({ z with late := z.late ++ [r] } :: rest)
    else (lateStaged c t r rest).map (fun q => z :: q)

/-- The sample of set time t that holds flow f counts a late supplement. -/
def patchSample (t f : Nat) (x : Sample) : Sample :=
  if !x.marker && x.t == t && x.flows.contains f then { x with patches := x.patches + 1 } else x

/-- A record's samples of set time t that hold flow f count a late supplement. -/
def CapRec.patch (r : CapRec) (t f : Nat) : CapRec :=
  { r with pre := r.pre.map (patchSample t f), trig := patchSample t f r.trig, post := r.post.map (patchSample t f) }

/-- One group meets a late supplement for set time t of domain d (R264). -/
def State.lateToGroup (s : State) (g t : Nat) (r : Rec) : State :=
  let c := s.capCfg g
  let y := s.group g
  let f := r.flow
  let drop := fun (s : State) =>
    ((s.gCount g 7).capFlag 4).modGroup g fun y =>
      { y with recs := y.recs.map (fun q =>
          if (q.samples.headD q.trig).t ≤ t ∧ t ≤ (q.samples.getLastD q.trig).t then { q with dropped := q.dropped + 1 } else q) }
  if y.state = 0 ∨ (((s.members c.dom).drop c.first).take c.count).contains f = false then s
  else if y.state = 7 then drop s
  else
    match lateStaged c t r y.staged with
    | some q => (s.modGroup g fun y => { y with staged := q }).gCount g 6
    | none =>
      let inRing := fun (x : Sample) =>
        ((s.patchBlock c (s.slotAddr g y.slot) x r).modGroup g fun y => { y with ring := y.ring.map (patchSample t f) }).gCount g 6
      let hit := (y.recs ++ y.opened.toList).find? (fun (q : CapRec) => (sampleFor q.samples t f).isSome)
      match hit, sampleFor y.ring t f with
      | some q, ring =>
        if ring.isSome ∧ y.opened = none then inRing (ring.getD q.trig)
        else
          let up := fun (v : CapRec) => if v.seq = q.seq then v.patch t f else v
          ((s.patchBlock q.cfg q.addr ((sampleFor q.samples t f).getD q.trig) r).modGroup g fun y =>
            { y with recs := y.recs.map up, opened := y.opened.map up }).gCount g 6
      | none, some x => inRing x
      | none, none => drop s

/-- A late supplement reaches event capture (R199, R264). -/
def State.lateToCapture (s : State) (d t : Nat) (r : Rec) : State :=
  s.forEach (s.capGroups.filter (fun g => s.CAP_GCFG_DOMAIN g == d)) fun s g => s.lateToGroup g t r

/-! Modes, shedding, commit (R265). -/

/-- Entry to SHED3 (R265). -/
def State.shedCapture (s : State) : State :=
  s.forEach s.capGroups fun s g => if (s.group g).state = 0 then s else (s.cutRecord g true false).modGroup g fun y => { y with state := 7 }

/-- DDR has left self-refresh: each stopped group restarts (R265). -/
def State.restartCapture (s : State) : State := s.forEach s.capGroups fun s g => if (s.group g).state = 7 then s.startGroup g else s

/-- A commit changed group g, or its domain's rate or enable (R265). -/
def State.groupChanged (old s : State) (g : Nat) : Bool :=
  old.differs s (R_CAP_GCFG g) || old.differs s (R_CAP_GMEMB g) || old.differs s (R_CAP_GWIN g) || old.differs s (R_CAP_GSIZE g) ||
    old.differs s (R_CAP_GBASE g) || old.ALN_DCFG_RATE (s.CAP_GCFG_DOMAIN g) != s.ALN_DCFG_RATE (s.CAP_GCFG_DOMAIN g) ||
    old.ALN_DCFG_ENABLE (s.CAP_GCFG_DOMAIN g) != s.ALN_DCFG_ENABLE (s.CAP_GCFG_DOMAIN g)

/-- What a commit does to capture; `old` holds the registers before it (R265). -/
def State.commitCapture (s old : State) : State :=
  if !s.hasCapture then s
  else
    s.forEach ((List.range 16).filter (old.groupChanged s)) fun s g =>
      let s3 := (s.cutRecord g false true).modGroup g fun y => { y with staged := [], state := 0 }
      if s3.CAP_GCFG_ENABLE g = 1 ∧ s3.live then s3.startGroup g else s3

/-- The regions of two groups overlap, or one leaves the DDR (R255); `ddrBytes` is the DDR fitted. -/
def State.capRefuses (s : State) (ddrBytes : Nat) : Bool :=
  let lo := fun (g : Nat) => s.CAP_GBASE_BASE g * 4096
  let hi := fun (g : Nat) => s.CAP_GBASE_BASE g * 4096 + s.CAP_GSIZE_RECORDS g * (s.capCfg g).slotBytes
  let dlo := s.ALN_DEEPBASE_BASE_MIB * 2 ^ 20
  let dhi := dlo + s.ALN_DEEPSIZE_SIZE_MIB * 2 ^ 20
  let bad := fun (g : Nat) =>
    let c := s.capCfg g
    s.ALN_DCFG_ENABLE c.dom != 1 || decide ((s.members c.dom).length < c.first + c.count) || c.count == 0 || decide (1024 < c.count) ||
      c.mb == 0 || decide (4096 < c.mb) || s.CAP_GSIZE_RECORDS g == 0 || decide (ddrBytes < hi g) ||
      (decide (dlo < dhi) && decide (lo g < dhi) && decide (dlo < hi g)) ||
      s.capGroups.any (fun h => h != g && decide (lo g < hi h) && decide (lo h < hi g))
  s.capGroups.any bad ||
    decide (2000000000 < (s.capGroups.map (fun g => (s.capCfg g).size * s.rateOf (s.CAP_GCFG_DOMAIN g))).foldl (· + ·) 0)

end Sys2Proof.Machine
end

