-- ==== Sys2Proof/Machine/TimeChain.lean ====
section
/-! DEFINITION. What crosses units: delivery of what the alignment store hands on, the whole of a time step (03_time_base.md
R64), the sample chain of the discipline sources (R54 to R62), and the submissions of programs and commands (R66, R179). -/

namespace Sys2Proof.Machine

/-! Delivery (09_alignment.md R197, R199, R207). -/

/-- Deliver one thing that the alignment store handed on: a released set to analysis, event capture and egress, a late
supplement to event capture and egress, fragments and markers to the uplink. -/
def State.deliverOne (s : State) : Handed → State
  | .set x =>
    let p := s.anaQueue x
    (p.1.stageSet x p.2).egressSet x
  | .late d t q r => (s.lateToCapture d t r).egressLate d t q r
  | .fragment d t late resend r => s.addFragment d t late resend r
  | .marker x => s.sendMarker x

/-- Deliver everything handed on in this step, in order. -/
def State.deliver (s : State) : State :=
  s.aln.outbox.foldl State.deliverOne (s.modAln fun a => { a with outbox := [] })

/-! Analysis of a released set. -/

/-- Conditions of the bitmap that ask for an alarm cell (11_analysis_triggers.md R248). -/
def State.uplinked (s : State) (fired : Nat) : List Nat :=
  (List.range 32).filter fun k => bitOf fired k && s.ANA_TC1_UPLINK k == 1

/-- The analysis unit takes the set at the head of its queue (11_analysis_triggers.md R250), with the hand-offs of R248: one alarm cell for
each condition that fires with UPLINK = 1 (R248, 14_armature_links.md R309). -/
def State.analyseNext (s : State) : State :=
  match s.ana.queue, s.live with
  | x :: rest, true =>
    let p := (s.modAna fun a => { a with queue := rest, unseen := a.unseen && !s.outOn }).analyse x
    let s1 := p.1.decideSet x p.2
    let s2 := if s1.outOn then s1.forEach (s1.uplinked p.2) fun s _ => s.sendAlarm x.t p.2 s.tcState else s1
    s2.followAlarms
  | _, _ => s

/-- The sets released so far are analysed and written by the capture groups: before a commit, whose settings apply from the first set after
it (11_analysis_triggers.md R252), and before a time step, whose marker follows them (12_event_capture.md R262; DESIGN CHOICE, log entry
141). -/
def State.finishSets (s : State) : State :=
  let s1 := s.forEach (List.range s.ana.queue.length) fun s _ => s.analyseNext
  s1.forEach (List.range 16) fun s g => s.forEach (List.range (s.group g).staged.length) fun s _ => s.captureSample g

/-! Steps (R64). -/

/-- Chisel timers at a step: after a backward step they follow the new device time; times skipped forward fire once
(07_chisel_machine.md R143). -/
def State.stepTimers (s : State) (delta : Int) : State := if delta < 0 then s.timersFromNow else s

/-- A step of device time by `delta` ns with the cause of Table PRT-6. In PLINTH only the time base's own part applies. -/
def State.stepTime (s : State) (delta : Int) (cause : Nat) : State :=
  let old := s.now
  let s0 := if s.live then s.finishSets else s
  let s1 := (s0.stepLocal delta cause).wakeThreads
  if !s1.live then s1.quietPps
  else
    let s2 := (s1.forEach domList State.stepDomain).stepLanes
    ((((s2.markStep s1.now old).stepFlows).stepTimers delta).deliver).quietPps

/-- A phase correction: slewed to 1 ms, stepped above (R63). -/
def State.correct (s : State) (theta : Int) (cause : Nat) : State :=
  if theta.natAbs ≤ 1000000 then s.slewBy theta else s.stepTime theta cause

/-! Samples (R55 to R58). -/

/-- A sample of the selected source is applied: PPS, IRIG and ARM correct phase and frequency; for PTP the time program
does (R58). `first`: this sample selected the source. -/
def State.applySample (s : State) (k : Nat) (theta : Int) (interval : Nat) (first : Bool) : State :=
  let s1 := s.setSrc k { s.src k with outliers := 0, outThetas := [] }
  if k = 0 then s1.afterSample k theta false
  else
    let s2 := if first then s1.rateFromQualifying k else s1
    if 1000000 < theta.natAbs then (s2.stepTime theta 1).afterSample k theta true
    else (s2.servoSlew theta interval).afterSample k theta false

/-- A sample of the selected source and a step fall in the same TCLK cycle: the step acts first and the sample is discarded (R65). -/
def State.stepWins (s : State) (k : Nat) : Bool := s.tim.source == k + 1 && s.tim.stepTick != 0 && s.tim.stepTick == s.tim.ticks

/-- A sample of source k arrives: offset, stamp and label in ns (R55, R56). `force` makes it an outlier while LOCKED (R59). -/
def State.sample (s : State) (k : Nat) (theta : Int) (stamp label interval : Nat) (force : Bool) : State :=
  if s.stepWins k then s
  else if !s.live ∨ (s.src k).state = 0 then s.setSrc k { s.src k with theta := theta, lastTick := some s.tim.ticks }
  else
    let s1 := s.recordSample k theta stamp label
    let s2 :=
      if s1.tim.source = k + 1 then
        let out := s1.setSrc k { s1.src k with outliers := (s1.src k).outliers + 1, outThetas := theta :: (s1.src k).outThetas }
        match s.judgeSample k theta force with
        | .apply => s1.applySample k theta interval false
        | .outlier => ((out.timFlag 11).lockOnOutlier theta).updateQuality
        | .lost => (out.timFlag 11).loseSource k
      else if s1.tim.source = 0 ∧ s1.firstQualified = k + 1 then
        (s1.selectSource (k + 1)).applySample k theta interval true
      else s1
    s2.quietPps

/-! PPS labels (R59, R179). -/

/-- Stamp of the edge less the cable delay. -/
def State.edgeTime (s : State) (e : PpsEdge) : Int := (e.stamp : Int) - sxt 32 s.TIM_PPSDLY_DELAY_NS

/-- Label the latest edge with the UTC time `utc` in ns, from a run of flow f: the status, tested in the order of R179. -/
def State.labelEdge (s : State) (f utc : Nat) : State × Nat :=
  if f ≠ s.TIM_PPSCFG_LABEL_FLOW then (s, 1)
  else if (match s.tim.edge with | some e => decide (999000000 < 4 * (s.tim.ticks - e.tick)) | none => false) then (s, 3)
  else if utc % nsPerSec ≠ 0 then (s, 4)
  else if s.TIM_UTC_VALID = 0 then (s, 5)
  else
    match s.tim.edge with
    | none => (s, 6)
    | some e =>
      if e.step ≠ s.tim.step ∨ e.live = false then (s, 6)
      else if e.labelled then (s, 7)
      else
        let at' := s.edgeTime e
        let label := (utc : Int) + s.offsetAt at'.toNat * nsPerSec
        let own := (2 * at' + nsPerSec) / (2 * nsPerSec)
        let mismatch := label != own * nsPerSec
        let s1 := s.modTim fun t => { t with edge := some { e with labelled := true } }
        let s2 := s1.when mismatch fun s => s.timFlag 7
        (s2.sample 1 (label - at') at'.toNat label.toNat nsPerSec mismatch, 0)

/-! UTC values (R53, R66). -/

/-- Write OFS, VALID, PENDING, DIR and LEAP_AT. -/
def State.setUtc (s : State) (ofs valid pending dir leapAt : Nat) : State :=
  let v := ofs % 65536 + valid % 2 * 65536 + pending % 2 * 131072 + dir % 2 * 262144
  let s1 := (s.setReg R_TIM_UTC (BitVec.ofNat 32 v)).setReg R_TIM_LEAPAT (BitVec.ofNat 32 leapAt)
  s1.modTim fun t => { t with leapDone := s1.TIM_UTC_PENDING == 1 && decide (s1.leapAtNs ≤ s1.now) }

/-! PTP submissions (R58, Table CHX-10). -/

/-- ptpsample: an offset with its bound, 0 selecting TIM_SRCACC.PTP. -/
def State.ptpSample (s : State) (theta : Int) (bound : Nat) : State :=
  let s1 := s.setSrc 0 { s.src 0 with bound := if bound = 0 then none else some bound }
  s1.sample 0 theta s1.now ((s1.now : Int) + theta).toNat nsPerSec false

/-- The frequency correction of the time program: a servo update (R50, R57). -/
def State.ptpFreq (s : State) (f : Int) : State :=
  s.modTim fun m => { m with freq := clampFreq f, fHist := (clampFreq f :: m.fHist).take 64 }

/-! IRIG-B (R60). The places of the fields in the frame are PRESUMED: IRIG Standard 200 and IEEE C37.118.1 (log entry 21). -/

/-- An element of an IRIG-B frame. -/
def irigBit (l : List IrigElem) (i : Nat) : Nat := if l[i]? = some .one then 1 else 0

/-- Binary value of n elements from place i, the first least significant. -/
def irigBits (l : List IrigElem) (i : Nat) : Nat → Nat
  | 0 => 0
  | n + 1 => irigBits l i n + irigBit l (i + n) * 2 ^ n

/-- Position markers at 0, 9, 19, …, 99 and nowhere else. -/
def irigMarkers (l : List IrigElem) : Bool :=
  l.length == 100 && (List.range 100).all fun i => (l[i]? == some .marker) == (i == 0 || i % 10 == 9)

/-- Days from 1970-01-01 to 1 January of a year. -/
def daysToYear (y : Nat) : Nat := (y - 1) * 365 + (y - 1) / 4 - (y - 1) / 100 + (y - 1) / 400 - 719162

/-- The time of day and day of year of a frame, in seconds and days, when every BCD digit is in range. -/
def irigClock (l : List IrigElem) : Option (Nat × Nat) :=
  let su := irigBits l 1 4
  let st := irigBits l 6 3
  let mu := irigBits l 10 4
  let mt := irigBits l 15 3
  let hu := irigBits l 20 4
  let ht := irigBits l 25 2
  let du := irigBits l 30 4
  let dt := irigBits l 35 4
  let dh := irigBits l 40 2
  let day := dh * 100 + dt * 10 + du
  if su ≤ 9 ∧ 10 * st + su ≤ 60 ∧ mu ≤ 9 ∧ mt ≤ 5 ∧ hu ≤ 9 ∧ 10 * ht + hu ≤ 23 ∧ du ≤ 9 ∧ dt ≤ 9 ∧ 1 ≤ day ∧ day ≤ 366 then
    some ((10 * ht + hu) * 3600 + (10 * mt + mu) * 60 + 10 * st + su, day)
  else none

/-- The two-digit year of a frame. -/
def irigYear2 (l : List IrigElem) : Option Nat :=
  let u := irigBits l 50 4
  let t := irigBits l 55 4
  if u ≤ 9 ∧ t ≤ 9 then some (10 * t + u) else none

/-- Offset of IRIG time from UTC in minutes, decoded from the extension. -/
def irigOffset (l : List IrigElem) : Int :=
  let m : Int := 60 * irigBits l 65 4 + 30 * irigBit l 70
  if irigBit l 64 = 1 then -m else m

/-- The parity of the extension holds: places 1 to 74 with the parity bit at 75. -/
def irigParity (l : List IrigElem) : Bool :=
  ((List.range 76).map (irigBit l)).foldl (· + ·) 0 % 2 == b1 Config.irigOddParity

/-- The UTC second, the extension's offset and the year counted since 2000 of a good frame. Any day of year below that of the last good frame is
taken as its wrap (R60 does not say how the wrap is known; DESIGN CHOICE, log entry 130). -/
def State.irigDecode (s : State) (l : List IrigElem) : Option (Nat × Option Int × Nat × Nat) :=
  let ext := s.TIM_IRIGCFG_EXT == 1
  match irigMarkers l, irigClock l with
  | true, some (sec, day) =>
    if ext && (!irigParity l || irigBits l 71 4 == 15) then none
    else
      let wrap := if day < s.tim.irigDay then 1 else 0
      let adv := if s.tim.irigDay = 0 then 0 else s.tim.irigYear + wrap
      let year? := if ext || decide (4 ≤ s.TIM_IRIGCFG_CODE) then (irigYear2 l).map (fun y => (y, s.tim.irigYear))
        else some (s.TIM_IRIGCFG_YEAR_BASE + adv, adv)
      match year? with
      | none => none
      | some (y, adv') =>
        let ofs : Int := if ext then irigOffset l else sxt 16 s.TIM_IRIGCFG_LOCAL_OFS
        let utc := ((daysToYear (2000 + y) + day - 1) * 86400 + sec : Nat) - ofs * 60
        some (utc.toNat, if ext then some ofs else none, adv', day)
  | _, _ => none

/-- The leap second that the extension announces, while IRIG is the selected source: it replaces what was announced before, for the most recent
write wins (R53). The frame of an inserted second announces none: its own leap is the one announced. -/
def State.irigLeap (s : State) (l : List IrigElem) (utc : Nat) : State :=
  if s.TIM_IRIGCFG_EXT = 1 ∧ s.tim.source = 3 ∧ irigBit l 60 = 1 ∧ irigBits l 6 3 ≠ 6 then
    let dir := irigBit l 61
    let o := s.offsetAt s.now
    let leapAt : Int := ((utc / 86400 + 1) * 86400 : Nat) + o + (if dir = 0 then 1 else -1)
    s.setUtc (wrapI 16 o) s.TIM_UTC_VALID 1 dir leapAt.toNat
  else s

/-- An IRIG-B frame completes; its Pr marker came `ago` ns before now (IRIG_FRAME, R60). -/
def execIrigFrame (elems : List IrigElem) (ago : Nat) (s : State) : Res := .next <|
  if !s.live || decide ((s.src 2).state = 0) then s
  else
    match s.irigDecode elems with
    | none =>
      let s1 := (s.setSrc 2 { s.src 2 with bad := (s.src 2).bad + 1 }).timFlag 9
      (if 3 ≤ (s1.src 2).bad then s1.loseSource 2 else s1).quietPps
    | some (utc, ofs, adv, day) =>
      let (st, c) := s.stampAt ago
      let s1 := (s.setSrc 2 { s.src 2 with bad := 0 }).modTim fun t => { t with irigYear := adv, irigDay := day, irigOfs := ofs }
      let label := ((utc : Int) + s1.offsetAt st) * nsPerSec
      let s2 := if c = s1.tim.step then s1.sample 2 (label - st) st label.toNat nsPerSec false else s1
      s2.irigLeap elems utc

/-- A rising edge on TRIG_IN[k], `ago` ns before now (TRIG_IN_EDGE, 11_analysis_triggers.md R245). -/
def execTrigInEdge (k : Fin 2) (ago : Nat) (s : State) : Res := .next <|
  if s.live then
    let st := (s.stampAt ago).1
    s.modTim fun t => if k = 0 then { t with trig0 := st :: t.trig0 } else { t with trig1 := st :: t.trig1 }
  else s

/-- The end of a 16 ms window of the time-transfer exchanges (ARM_SAMPLE_WINDOW, 14_armature_links.md R307, R62). -/
def execArmSampleWindow (s : State) : Res := .next <|
  if !s.live then s
  else
    s.forEach (s.linksOf 0) fun s k =>
      let l := s.link k
      let s1 := s.modLink k fun l => { l with window := [] }
      match l.windowMean with
      | none => s1
      | some (theta, d, e, q) =>
        let s2 := s1.modLink k fun l => { l with theta := theta, delay := some d }
        if s2.arm.active ≠ some k then s2
        else
          let s3 := s2.modTim fun t => { t with armQuality := q }
          if q = 15 then (s3.loseSource 3).quietPps
          else
            let s4 := s3.setSrc 3 { s3.src 3 with bound := some e }
            s4.sample 3 theta s4.now ((s4.now : Int) + theta).toNat 16000000 false

end Sys2Proof.Machine
end

