-- ==== Sys2Proof/Machine/Views.lean ====
section
/-! DEFINITION. What a read of a register word of BAR0 returns (19_register_map.md R380 to R387): the stored word, or for
a register that shows a piece of typed state, that piece. A read changes nothing (00_scope.md R11). -/

namespace Sys2Proof.Machine

/-- A word from (value, lowest bit, width). -/
def packWord (l : List (Nat × Nat × Nat)) : Nat := (l.map (fun x => x.1 % 2 ^ x.2.2 * 2 ^ x.2.1)).foldl (· + ·) 0

/-- Index of a word in a register array. -/
def arrayIdx (off base stride n : Nat) : Option Nat :=
  if base ≤ off && (off - base) % stride == 0 && decide ((off - base) / stride < n) then some ((off - base) / stride) else none

/-- Milliseconds of a number of TCLK cycles. -/
def tickMs (n : Nat) : Nat := n * 4 / 1000000

/-! Conditions that several rules share. -/

/-- SerDes lanes that the image uses: bits 0 to 3 NP, 4 to 11 AL, 12 and 13 the peer lanes of a twin (02_modes.md R39). -/
def State.lanesUsed (s : State) : List Nat :=
  (List.range 4).filter (fun k => s.hasNp k && s.SNT_NPCFG_ENABLE k == 1) ++
    ((List.range 8).filter (fun k => s.linkOn k)).map (4 + ·) ++
    (if s.hasPeer && s.PBR_CFG_TWIN == 1 then [12, 13] else [])

/-- The conditions of R39: GLB_MODE.RUN_READY. -/
def State.runReady (s : State) : Bool :=
  s.cfg.committed && (!s.hasDdr || s.glb.ddrTrained) && s.lanesUsed.all (fun i => bitOf s.glb.lanesReady i)

/-- The peer link runs (16_peer_bridge_twin.md R331). -/
def State.peerRuns (s : State) : Bool := s.hasPeer && (s.live || s.glb.mode == .halt)

/-- The shed level mapped from PWR_WARN (02_modes.md R44, R419). -/
def State.pinLevel (s : State) : Nat := bits (s.reg R_PWR_WARNMAP).toNat (4 * s.pwr.warn) 3

/-- The worst level among the monitored rails (R44). -/
def State.railLevel (s : State) : Nat := max s.pwr.rail0 (max s.pwr.rail1 s.pwr.rail2)

/-- The rail that set it (Table MOD-10): of rails at the same worst level the one with the lowest number (DESIGN CHOICE, log entry 127). -/
def State.worstRail (s : State) : Nat :=
  if s.pwr.rail0 = s.railLevel then 0 else if s.pwr.rail1 = s.railLevel then 1 else 2

/-- The required shed level, before the 10 µs rule (R44). -/
def State.requiredNow (s : State) : Nat := max (max s.pinLevel s.railLevel) s.pwr.floor

/-! Views by block. -/

/-- GLB_IDENT.PART (Table MAP-2). -/
def State.part (s : State) : Nat :=
  match s.glb.variant with
  | .a => 0x9601
  | .c => 0x9602
  | .e => 0x4803

/-- Class code of the PCIe function: signal processing controller, other (15_host_interface.md Table HST-1). -/
def pcieClass : Nat := 0x118000

/-- Device ID and class code that the endpoint reports (15_host_interface.md R313). -/
def State.pcieIdent (s : State) : Nat × Nat := (s.part, pcieClass)

/-- Commands of the ring that are in flight: fetched and not completed (15_host_interface.md R318). -/
def State.inFlight (s : State) : Nat :=
  (s.hst.fetched.filter (fun x => x.2.src.isNone)).length + (s.hst.flights.filter (fun f => f.cmd.src.isNone)).length

def State.viewGlb (s : State) (m off : Nat) : Option Nat :=
  if off = R_GLB_IDENT then some (packWord [(s.part, 0, 16), (Config.stepping.toNat, 16, 4)])
  else if off = R_GLB_SERIALL then some (Config.serial.toNat % 2 ^ 32)
  else if off = R_GLB_SERIALH then some (Config.serial.toNat / 2 ^ 32)
  else if off = R_GLB_CAP then some s.units
  else if off = R_GLB_MODE then
    some (packWord [(s.glb.mode.code, 0, 3), (s.glb.shed, 4, 3), (b1 s.glb.active, 7, 1), (s.glb.prevMode.code, 8, 3),
      (s.glb.haltCause, 12, 4), (b1 s.runReady, 16, 1)])
  else if off = R_GLB_EPOCH then some s.glb.epoch.toNat
  else if off = R_GLB_WINPAGE then some (if m = 0 then s.glb.page0 else if m = 1 then s.glb.page1 else if m = 4 then s.glb.page4 else 0)
  else if off = R_GLB_INTSUM then some (sumList ((List.range 17).map (fun b => b1 (s.blockFlagged b) * 2 ^ b)))
  else none

def State.viewTim (s : State) (off : Nat) : Option Nat :=
  if off = R_TIM_STATUS then
    some (packWord [(s.tim.source, 0, 3), (b1 s.tim.locked, 3, 1), (b1 s.tim.holdover, 4, 1), (b1 s.tim.slewing, 5, 1),
      (b1 s.tim.ref10, 6, 1), (b1 s.tim.everLocked, 7, 1), (s.tim.quality, 8, 4), (s.tim.step.toNat, 16, 8)])
  else if off = R_TIM_UTC then some (packWord [((s.reg R_TIM_UTC).toNat, 0, 19), (b1 s.leapOccurred, 19, 1)])
  else if off = R_TIM_FREQ then some (wrapI 32 s.tim.freq)
  else if off = R_TIM_ERRBOUND then some (match s.errBound with | some e => min e 0xFFFFFFFF | none => 0xFFFFFFFF)
  else if off = R_TIM_SLEW then some (wrapI 32 (Int.tdiv s.tim.slew accUnit))
  else match arrayIdx off (R_TIM_SRCSTAT 0) 4 4, arrayIdx off (R_TIM_SRCOFS 0) 4 4 with
    | some k, _ =>
      let x := s.src k
      some (packWord [(x.state, 0, 2), (min 15 x.good, 4, 4), (min 255 x.outliers, 8, 8),
        ((match x.lastTick with | some t => min 0xFFFF (tickMs (s.tim.ticks - t)) | none => 0xFFFF), 16, 16)])
    | _, some k => some (wrapI 32 (max (-(2 ^ 31)) (min (2 ^ 31 - 1) (s.src k).theta)))
    | _, _ => none

/-- SER_PSTAT.LINE codes (04_serial_ports.md Table SER-5). -/
def Line.code : Line → Nat
  | .alive => 0
  | .brk => 1
  | .dead => 2
  | .held => 3

def State.viewSer (s : State) (off : Nat) : Option Nat :=
  match arrayIdx off (R_SER_PSTAT 0) 0x80 96, arrayIdx off (R_SER_PRATE 0) 0x80 96, arrayIdx off (R_SER_BSTAT 0) 0x20 8,
      arrayIdx off (R_SER_PORTSUM 0) 4 3 with
  | some n, _, _, _ =>
    let p := s.port n
    some (packWord [(p.rxq.length, 0, 7), (p.txq.length, 8, 7), (p.line.code, 16, 2), (b1 (p.rxPend || p.txPend), 18, 1),
      (b1 p.rts, 19, 1), (b1 p.cts, 20, 1),
      (b1 (s.rxOn n && p.line == .alive && Config.rxBusy n s.tim.ticks), 21, 1), (b1 p.txBusy, 22, 1), (b1 p.ctsWait, 23, 1)])
  | _, some n, _, _ => some (packWord [(cfgDiv (s.port n).rxCfg, 0, 16), (cfgDiv (s.port n).txCfg, 16, 16)])
  | _, _, some b, _ =>
    some (packWord [(b1 (s.bank b).vioOk, 0, 1), (b1 (s.bankUsed b && !(s.bank b).shed), 1, 1), (b1 (s.bank b).shed, 2, 1)])
  | _, _, _, some k =>
    some (sumList ((List.range 32).map (fun i => b1 (decide (s.reg (R_SER_PFLAGS (32 * k + i)) ≠ 0)) * 2 ^ i)))
  | _, _, _, _ =>
    if off = R_SER_BANKSUM then some (sumList ((List.range 8).map (fun b => b1 (decide (s.reg (R_SER_BFLAGS b) ≠ 0)) * 2 ^ b)))
    else none

/-- The lane of NPk is powered: used by the image, not shed, and not in HALT (SNT_NPSTAT.POWERED). -/
def State.npPowered (s : State) (k : Nat) : Bool :=
  s.hasNp k && s.SNT_NPCFG_ENABLE k == 1 && !(s.np k).shed && s.glb.mode != .halt

def State.viewSnt (s : State) (off : Nat) : Option Nat :=
  let alive := fun (r : Option Nat) => match r with
    | some v => v % 256
    | none => 256
  match arrayIdx off (R_SNT_NPSTAT 0) 0x20 4, arrayIdx off (R_SNT_ALIVE 0) 4 2 with
  | some k, _ =>
    let p := s.np k
    some (packWord [(b1 p.blockLock, 0, 1), (b1 p.fecLock, 1, 1), (b1 (s.npPowered k), 2, 1),
      (sumList (p.fifo.map (·.bytes.length)) / 1024, 8, 10)])
  | _, some 0 => some (alive s.snt.alive0)
  | _, some _ => some (alive s.snt.alive1)
  | _, _ => none

def State.viewFlw (s : State) (off : Nat) : Option Nat :=
  if off = R_FLW_FREECNT then some (8192 - s.flowsUsed.length)
  else match arrayIdx off (R_FLW_STATECNT 0) 4 5 with
    | some st => some (s.stateCount st)
    | none => none

/-- Code of a thread's state (07_chisel_machine.md Table CHS-1). -/
def State.threadCode (s : State) (k : Nat) : Nat :=
  let t := s.thread k
  match t.run with
  | some _ => if (s.ready k).isSome then 2 else 3
  | none => match t.rest with
    | .gated => 0
    | .idle => 1
    | .off => 4

def State.viewChs (s : State) (off : Nat) : Option Nat :=
  match arrayIdx off (R_CHS_ENGSTAT 0) 4 24 with
  | some e =>
    let c := fun t => s.threadCode (4 * e + t)
    some (packWord ([(c 0, 0, 3), (c 1, 4, 3), (c 2, 8, 3), (c 3, 12, 3), (b1 ([0, 1, 2, 3].all fun t => c t == 0), 16, 1),
      (b1 ([0, 1, 2, 3].all fun t => c t == 4), 17, 1)] ++
      (List.range 4).map (fun t => (b1 (s.thread (4 * e + t)).ahead.isSome, 18 + t, 1))))
  | none => none

def State.viewAln (s : State) (off : Nat) : Option Nat :=
  if off = R_ALN_FREE then some s.freeSlots
  else if off = R_ALN_DEEPSTAT then
    some (packWord [(s.usedDeep.length, 0, 25), (b1 s.aln.spilling, 25, 1), (b1 s.spillOff, 26, 1)])
  else if 0x60400 ≤ off then none
  else
    let d := (off - 0x60000) / 0x40
    let x := s.dom d
    match (off - 0x60000) % 0x40 with
    | 0x14 => some (packWord [(x.pend.length, 0, 11), (x.lastCause, 12, 3), (b1 x.lastPartial, 15, 1),
        (b1 (s.glb.mode == .standby && x.started), 16, 1)])
    | 0x18 => some (x.cursor / nsPerSec)
    | 0x1C => some (x.cursor % nsPerSec)
    | 0x20 => some (s.domSlots d)
    | 0x24 => some (x.pend.flatMap (fun p => p.recs.flatMap (·.deep))).length
    | 0x28 => some (packWord [((s.members d).length, 0, 14), (x.waited, 16, 14)])
    | 0x2C => some (min x.lastDelay 0xFFFFFFFF)
    | _ => none

def State.viewRcv (s : State) (off : Nat) : Option Nat :=
  if 0x70400 ≤ off then none
  else
    let l := (off - 0x70000) / 0x40
    let x := s.lane l
    match (off - 0x70000) % 0x40 with
    | 0x10 => some (packWord [(x.bank, 0, 6), ((match x.fade with | some f => f.target | none => 0), 8, 6), (b1 x.fade.isSome, 14, 1),
        (b1 x.pending.isSome, 15, 1), ((match x.pending with | some p => p.1 | none => 0), 16, 6),
        (b1 (!s.laneRuns l), 22, 1), (b1 x.shed, 23, 1)])
    | 0x14 => some (s.served l).length
    | 0x18 => some (s.laneSlots l).length
    | 0x1C => some (match x.fade with | some f => gridPt (s.rateOf (s.RCV_LCFG_DOMAIN l)) f.gs / nsPerSec | none => 0)
    | 0x20 => some (match x.fade with | some f => gridPt (s.rateOf (s.RCV_LCFG_DOMAIN l)) f.gs % nsPerSec | none => 0)
    | _ => none

def State.viewAna (s : State) (off : Nat) : Option Nat :=
  if off = R_ANA_ISLSTAT then some (sumList ((List.range 32).map (fun a => b1 (s.islanded a) * 2 ^ a)))
  else if off = R_ANA_QSTAT then some s.ana.queue.length
  else if off = R_ANA_TCSTATE then some s.tcState
  else match arrayIdx off (R_ANA_AREAF 0) 4 32 with
    | some a => some (s.areaFreq a)
    | none => none

def State.viewCap (s : State) (off : Nat) : Option Nat :=
  if off = R_CAP_SUMSTAT then some (packWord [(s.cap.count, 0, 9), (s.cap.unflushed, 16, 5)])
  else if off = R_CAP_SUMNEWEST then some s.cap.newest
  else if 0x90400 ≤ off then none
  else
    let x := s.group ((off - 0x90000) / 0x40)
    match (off - 0x90000) % 0x40 with
    | 0x14 => some (packWord [(x.state, 0, 3), (x.ring.length, 4, 12), (x.slot, 16, 16)])
    | 0x18 => some x.newest
    | 0x1C => some x.oldest
    | 0x24 => some x.missed
    | _ => none

def State.viewEgr (s : State) (off : Nat) : Option Nat :=
  let held := fun h => if s.EGR_HQCFG_DMA h = 1 then [] else (s.hq h).entries
  match arrayIdx off (R_EGR_HQSTAT 0) 0x40 16, arrayIdx off (R_EGR_LVSTAT 0) 0x10 96, arrayIdx off (R_EGR_ALSTAT 0) 4 4 with
  | some h, _, _ => some (packWord [((held h).length, 0, 16), ((match held h with | e :: _ => e.seq | [] => 0), 16, 16)])
  | _, some n, _ => some (s.stage n).slots.length
  | _, _, some p =>
    some (packWord [(b1 (bitOf s.ana.request p), 0, 1), (b1 (s.pin p).asserted, 1, 1), (b1 (s.glb.failLevels.getLsbD p), 2, 1),
      (b1 (s.pin p).holding, 3, 1)])
  | _, _, _ =>
    if 0xA8000 ≤ off && off < 0xA8400 && decide (0x20 ≤ off % 0x40) then
      match held ((off - 0xA8000) / 0x40) with
      | [] => some 0
      | e :: _ => if off % 0x40 = 0x20 then some e.word0 else some (e.words.getD ((off % 0x40 - 0x24) / 4) 0)
    else none

def State.viewArm (s : State) (off : Nat) : Option Nat :=
  if off = R_ARM_ID then (if s.glb.mode = .plinth then some 0 else none)
  else if off = R_ARM_STAT then
    some (match s.arm.active with
      | some k => packWord [(k, 0, 3), (1, 3, 1)]
      | none => 0)
  else if 0xB0200 ≤ off then none
  else
    let k := (off - 0xB0000) / 0x40
    let x := s.link k
    match (off - 0xB0000) % 0x40 with
    | 0x08 => some (packWord [(x.state, 0, 3), (b1 x.blockLock, 3, 1), (x.cause, 4, 4), (x.neighId, 8, 14), (b1 x.neighSide, 22, 1),
        (b1 x.neighActive, 23, 1), (x.neighRole, 24, 2),
        (if x.blockLock then (Config.ebFill k s.tim.ticks).toNat else 0, 26, 5), (b1 (s.arm.active == some k), 31, 1)])
    | 0x0C => some (match x.delay with | some d => min d 0xFFFFFFFF | none => 0xFFFFFFFF)
    | 0x10 => some (wrapI 32 x.theta)
    | 0x14 => some (packWord [(x.neighMode, 0, 3), (x.neighShed, 4, 3), (x.neighQuality, 8, 4)])
    | _ => none

def State.viewPbr (s : State) (off : Nat) : Option Nat :=
  if off = R_PBR_STAT then
    some (packWord [((if !s.peerRuns then 0 else if !s.pbr.up then 1 else if s.pbr.lanes = 3 then 2 else 3), 0, 2),
      (s.pbr.lanes, 2, 2), (b1 s.glb.side, 4, 1), (b1 s.pbr.claimLine, 5, 1), (b1 s.pbr.faultLine, 6, 1),
      (b1 (s.pbr.peerVer != 0 && s.pbr.peerVer == s.cfg.runVer), 7, 1), (s.pbr.peerMode, 8, 3), (b1 s.pbr.peerActive, 11, 1),
      ((if s.glb.mode = .standby then s.pbr.sync else 0), 12, 2), (s.pbr.cause, 14, 2), (min 255 s.pbr.missed, 16, 8)])
  else if off = R_PBR_PEER then some s.pbr.peerEpoch
  else if off = R_PBR_PEERVER then some s.pbr.peerVer
  else none

def State.viewCfg (s : State) (off : Nat) : Option Nat :=
  let c := s.cfg
  if off = R_CFG_STAT then
    some (packWord [((if c.applying then 2 else if c.waiting.isSome then 1 else if c.window.isSome then 3 else 0), 0, 2),
      (b1 (c.slotB.state == 2), 2, 1), (b1 (c.slotA.state == 2 || c.slotB.state == 2), 3, 1), (c.slotA.state, 4, 2),
      (c.slotB.state, 6, 2), (c.bootSrc, 8, 2), (b1 (c.retVer != 0), 10, 1),
      ((match c.window with | some t => ((t - s.tim.ticks) * 4 + nsPerSec - 1) / nsPerSec | none => 0), 12, 12)])
  else if off = R_CFG_RUNVER then some c.runVer
  else if off = R_CFG_PREVVER then
    let act := if c.slotA.state = 2 then c.slotA.version else if c.slotB.state = 2 then c.slotB.version else 0
    some (if c.window.isSome then c.prevVer else if act = c.runVer then 0 else act)
  else if off = R_CFG_SLOTVER 0 then some c.slotA.version
  else if off = R_CFG_SLOTVER 1 then some c.slotB.version
  else if off = R_CFG_RETVER then some c.retVer
  else if off = R_CFG_MAQVER then some s.maqVer
  else if off = R_CFG_JSEQ then some c.jseq
  else none

def State.viewPwr (s : State) (off : Nat) : Option Nat :=
  if off = R_PWR_STATUS then
    some (packWord [(s.pinLevel, 0, 3), (s.railLevel, 3, 3), (s.pwr.floor, 6, 3), (s.pwr.required, 9, 3), (s.worstRail, 12, 3),
      ((match s.pwr.backStart with | some t => tickMs (s.tim.ticks - t) | none => 0), 16, 16)])
  else none

/-- The registers that show typed state, as master m reads them. -/
def State.view (s : State) (m off : Nat) : Option Nat :=
  match off / 0x10000 with
  | 0 => s.viewGlb m off
  | 1 => s.viewTim off
  | 2 => s.viewSer off
  | 3 => s.viewSnt off
  | 4 => s.viewFlw off
  | 5 => s.viewChs off
  | 6 => s.viewAln off
  | 7 => s.viewRcv off
  | 8 => s.viewAna off
  | 9 => s.viewCap off
  | 10 => s.viewEgr off
  | 11 => s.viewArm off
  | 12 => if off = R_HST_INFLIGHT then some s.inFlight else none
  | 13 => s.viewPbr off
  | 14 => s.viewCfg off
  | 16 => s.viewPwr off
  | _ => none

/-- A named register word as master m reads it. One whose store word has an uncorrectable error reads 0x0BAD_0ECC
(18_protection_integrity.md Table PRT-5). -/
def State.readWord (s : State) (m off : Nat) : Nat :=
  if s.isBad 13 (off / 8) then 0x0BAD0ECC
  else match s.view m off with
    | some v => v % 2 ^ 32
    | none => (s.reg off).toNat

end Sys2Proof.Machine
end

