-- ==== Sys2Proof/Machine/Peer.lean ====
section
/-! DEFINITION. The peer link's sending side (16_peer_bridge_twin.md): packets and their order (R331, R332, R337), heartbeats
(R343), mirrors (R341), near accesses and their endings (R333 to R336), locks (R338, R339), and the twin's pins (R344). -/

namespace Sys2Proof.Machine

def State.modPbr (s : State) (f : Pbr → Pbr) : State := { s with pbr := f s.pbr }

/-- PBR_GCNT (Table PBR-4). -/
def State.pCount (s : State) (c : Nat) : State := s.count (R_PBR_GCNT c)

/-- Header of a packet (Table PBR-1). -/
def Packet.header (p : Packet) (seq : Nat) : Bytes :=
  [BitVec.ofNat 8 (16 + p.typ), BitVec.ofNat 8 (b1 p.locked * 128 + b1 p.lockEnd * 64 + b1 p.poll * 32),
    BitVec.ofNat 8 p.size, BitVec.ofNat 8 p.tag] ++ beBytes 2 p.epoch ++
    [BitVec.ofNat 8 p.status, BitVec.ofNat 8 (p.origin % 16)] ++ beBytes 2 p.key ++ beBytes 2 seq ++ beBytes 4 p.addr

/-- The packet's bytes with its fold trailer (R332). -/
def State.packetBytes (s : State) (p : Packet) (seq : Nat) : Bytes :=
  let bs := p.header seq ++ p.payload
  bs ++ beBytes 4 (foldCrc s.ARM_ID_DEVICE_ID p.key seq bs)

/-- A packet leaves (R332, R337): SEQ counts per TYPE from 0 at link up, and is 0 before. -/
def State.packetLeaves (s : State) (p : Packet) : State :=
  let (s, lost) := s.useEntry 11 (s.now * 8 + 1024)
  if lost then s.pCount 2 else
  let seq := if s.pbr.up then s.pbr.txSeq.at 0 p.typ else 0
  let bs := s.packetBytes p seq
  let s1 := ((s.when s.pbr.up fun s => s.snoop 7 0 bs none (foldPrefix s.ARM_ID_DEVICE_ID p.key seq)).emit (.packet bs)).pCount 1
  let s2 := if s.pbr.up then s1.modPbr fun b => { b with txSeq := b.txSeq.put 0 p.typ ((seq + 1) % 65536) } else s1
  if p.typ = 3 then s2.modPbr fun b => { b with mirLeft := b.mirLeft.put 0 p.key (beNat p.payload) }
  else if p.typ ≤ 1 || p.typ = 6 then
    s2.modPbr fun b => { b with nears := b.nears.map (fun n => if n.tag = p.tag && p.typ != 0 && !p.lockEnd then { n with left := true } else n) }
  else s2

/-- Bytes a packet occupies in a buffer. -/
def Packet.len (p : Packet) : Nat := 20 + p.payload.length

/-! Heartbeats and mirrors. -/

/-- Mirror word w (Table PBR-2). -/
def State.mirrorWord (s : State) (w : Nat) : Nat :=
  if w < 16 then (s.dom w).cursor / nsPerSec % 2 ^ 32 * 2 ^ 32 + (s.dom w).cursor % nsPerSec
  else if w = 16 then
    packWord [(s.glb.mode.code, 0, 3), (s.glb.shed, 4, 3), (b1 s.glb.active, 7, 1), (s.glb.haltCause, 8, 4),
      ((if s.glb.mode = .standby then s.pbr.sync else 0), 12, 2), (s.glb.epoch.toNat, 16, 16), (s.cfg.runVer, 32, 32)]
  else if w = 17 then
    packWord [(s.tim.quality, 0, 4), (b1 s.tim.locked, 4, 1), (s.tim.source, 5, 3), (s.tim.step.toNat, 8, 8), (s.boundWord, 32, 32)]
  else if w < 32 then 0
  else (s.reg (R_PBR_MIRUSER (w - 32) 0)).toNat + 2 ^ 32 * (s.reg (R_PBR_MIRUSER (w - 32) 1)).toNat

/-- Queue mirror word w: a later change replaces an unsent one (R341). -/
def State.queueMirror (s : State) (w : Nat) : State :=
  let v := s.mirrorWord w
  s.modPbr fun b => { b with
    mirSent := b.mirSent.put 0 w v,
    mirQ := b.mirQ.filter (fun p => p.key != w) ++
      [{ typ := 3, size := 3, epoch := s.glb.epoch.toNat, key := w, payload := beBytes 8 v }] }

/-- MIRROR_SEND: the words changed since they were last queued (R341). -/
def State.sendMirrors (s : State) : State :=
  if s.peerRuns && s.pbr.up then
    s.forEach ((List.range 64).filter (fun w => s.mirrorWord w != s.pbr.mirSent.at 0 w)) State.queueMirror
  else s

/-- Payload of a heartbeat, 16 bytes (R343). Its contents are the rule's and those R330 judges; their places are the
model's (log entry 96). -/
def State.heartbeat (s : State) (handover request : Bool) : Bytes :=
  [BitVec.ofNat 8 (s.glb.mode.code + 16 * s.glb.shed),
    BitVec.ofNat 8 (b1 s.glb.active + 2 * b1 handover + 4 * b1 request + 16 * (if s.glb.mode = .standby then s.pbr.sync else 0) +
      128 * b1 s.glb.side)] ++
    beBytes 2 s.glb.epoch.toNat ++ [BitVec.ofNat 8 s.PBR_CFG_PERIOD_US, 0] ++ beBytes 2 s.ARM_ID_DEVICE_ID ++
    beBytes 4 s.cfg.runVer ++ beBytes 4 s.pbr.hbCount

/-- Queue a heartbeat, and with it every mirror word (R341, R343). -/
def State.queueHeartbeat (s : State) (handover request : Bool) : State :=
  if s.peerRuns then
    let s1 := s.modPbr fun b => { b with
      hbCount := (b.hbCount + 1) % 2 ^ 32,
      hbQ := b.hbQ ++ [{ typ := 4, epoch := s.glb.epoch.toNat, payload := s.heartbeat handover request }] }
    if s1.pbr.up then s1.forEach (List.range 64) State.queueMirror else s1
  else s

/-! The order of the link (R337) and the histogram copy (R349). -/

/-- The SYNC packet of part p for flow f (R349). -/
def State.syncPart (s : State) (f p : Nat) : Packet :=
  let hist := fun (a n : Nat) => (List.range n).flatMap (fun k => beBytes 4 (s.bin f (a + k)))
  let pay := if p = 0 then
      [BitVec.ofNat 8 (s.fState f)] ++ beBytes 2 (s.fLearn f) ++ [BitVec.ofNat 8 (s.fHalfLife f)] ++ beBytes 4 (s.fLq f) ++ hist 0 14
    else if p = 1 then hist 14 16 else hist 30 2
  { typ := 5, epoch := s.glb.epoch.toNat, key := f, addr := p, payload := pay }

/-- The stream record of stream i (R275, R349). -/
def State.streamRecord (s : State) (i : Nat) : Packet :=
  let t := (s.outStream i).rels.headD 0
  { typ := 5, epoch := s.glb.epoch.toNat, key := i, addr := 3,
    payload := beBytes 4 (s.reg (R_EGR_SSEQ i)).toNat ++ beBytes 8 (dev64 t) }

/-- STREAM_RECORD_SEND: the records of every enabled SET stream (R275). -/
def State.queueRecords (s : State) : State :=
  s.modPbr fun b => { b with syncQ := b.syncQ ++ (s.streamsOf 0).map s.streamRecord }

/-- The next flow of a running copy: its three packets, then the stream records (R349). -/
def State.copyNext (s : State) : State :=
  match s.pbr.copy with
  | none => s
  | some n =>
    match s.flowsUsed.find? (fun f => decide (n ≤ f)) with
    | some f => s.modPbr fun b => { b with copy := some (f + 1), syncQ := b.syncQ ++ [0, 1, 2].map (s.syncPart f) }
    | none => (s.modPbr fun b => { b with copy := none }).queueRecords

/-- The transmitter sends the next waiting packet in the order of R337. Before the link is up only heartbeats leave. -/
def State.sendNextPacket (s : State) : State :=
  if !s.peerRuns || s.pbr.lanes = 0 then s
  else match s.pbr.hbQ with
    | p :: r => (s.modPbr fun b => { b with hbQ := r }).packetLeaves p
    | [] =>
      if !s.pbr.up then s
      else match s.pbr.mirQ, s.pbr.respQ, s.pbr.reqQ with
        | p :: r, _, _ => (s.modPbr fun b => { b with mirQ := r }).packetLeaves p
        | [], p :: r, _ => (s.modPbr fun b => { b with respQ := r }).packetLeaves p
        | [], [], p :: r => (s.modPbr fun b => { b with reqQ := r }).packetLeaves p
        | [], [], [] =>
          let s1 := if s.pbr.syncQ = [] then s.copyNext else s
          match s1.pbr.syncQ with
          | p :: r => (s1.modPbr fun b => { b with syncQ := r }).packetLeaves p
          | [] => s1

/-! Near accesses (R333 to R336). -/

/-- Data a failed read returns (R336). -/
def failedRead (status len : Nat) : Bytes :=
  if status = 3 then ((List.range 16).flatMap (fun _ => leBytes 4 0x0BAD0ACC)).take len else List.replicate len 0

/-- A near access ends with a status other than OK (R336). -/
def State.nearFails (s : State) (status master addr len : Nat) (write : Bool) : State :=
  let s1 := s.setReg R_PBR_NEARERR (BitVec.ofNat 32 (packWord [(status, 0, 8), (master, 8, 4), (b1 write, 12, 1)]))
  let s2 := (s1.setReg R_PBR_NEARADDR (BitVec.ofNat 32 (addr % 2 ^ 21))).pbrFlag 8
  if write then s2 else s2.emit (.readData master (failedRead status len))

/-- SIZE code of a length. -/
def sizeCode (len : Nat) : Nat := if len = 1 then 0 else if len = 2 then 1 else if len = 4 then 2 else if len = 8 then 3 else 4

/-- Sizes and alignments that the bridge carries (R334). -/
def sizeOk (addr len : Nat) : Bool := (len == 1 || len == 2 || len == 4 || len == 8 || len == 64) && addr % len == 0

/-- A write to this far address is non-posted: the first enabled range with NONPOSTED decides (R335). -/
def State.isNonPosted (s : State) (addr : Nat) : Bool :=
  (List.range 8).any fun i =>
    s.PBR_RANGE_ENABLE i == 1 && s.PBR_RANGE_NONPOSTED i == 1 && decide (s.PBR_RANGE_BASE i ≤ addr / 4096) &&
      decide (addr / 4096 ≤ s.PBR_RANGE_LIMIT i)

/-- Bytes waiting in the request buffer of a class: posted 32 KiB, non-posted 16 KiB (R337). -/
def State.requestRoom (s : State) (posted : Bool) (len : Nat) : Bool :=
  let held := sumList ((s.pbr.reqQ.filter (fun p => (p.typ == 0) == posted)).map Packet.len)
  decide (held + 20 + len ≤ if posted then 32768 else 16384)

/-- The master waits behind an access of its own (R335). -/
def State.masterHeld (s : State) (m : Nat) : Bool := s.pbr.nears.any fun n => n.master == m && !n.poll && !n.lock

/-- Hold an access until its master or block is free. -/
def State.holdBus (s : State) (x : BusOp) : State := s.modPbr fun b => { b with waitBus := b.waitBus ++ [x] }

/-- Queue a request with its epoch, and for a write its alive counter (Table PBR-1, R118). -/
def State.queueRequest (s : State) (p : Packet) (write : Bool) : State :=
  let al := (s.pbr.alive + 1) % 256
  let s1 := if write then s.modPbr fun b => { b with alive := al } else s
  s1.modPbr fun b => { b with reqQ := b.reqQ ++ [{ p with epoch := b.peerEpoch, status := if write then al else 0 }] }

/-- The block of the open sequence is the target, and the master is the one that opened it (R338). -/
def State.lockMine (s : State) (x : BusOp) : Bool := s.pbr.lockMaster == some x.master && x.off / 0x10000 == s.PBR_LOCK_BLOCK

/-- The status with which a near access to far BAR0 offset `x.off` ends at once; none: it is sent (R331, R333, R334, R338). -/
def State.bridgeStatus (s : State) (x : BusOp) : Option Nat :=
  if !sizeOk x.off x.len then some 0x0D
  else if s.glb.mode = .halt then some 1
  else if !(s.peerRuns && s.pbr.up) then some 9
  else if s.lockMine x && s.PBR_LOCK_STATE == 4 then some 0x0C
  else none

/-- A write that takes no response (R335). -/
def State.isPosted (s : State) (x : BusOp) : Bool := x.write && !s.isNonPosted x.off

/-- The buffer that this access needs has no room: it holds its master (R337). -/
def State.bridgeFull (s : State) (x : BusOp) : Bool :=
  (s.bridgeStatus x).isNone && !s.requestRoom (s.isPosted x) (if x.write then x.len else 0)

/-- A near master's access to far BAR0 offset `x.off` (BRIDGE_WINDOW_ACCESS, R333 to R338), the access table passed and its buffer not full. -/
def State.bridgeAccess (s : State) (x : BusOp) : State :=
  match s.bridgeStatus x with
  | some st => (s.when (st == 0x0D) fun s => s.pCount 7).nearFails st x.master x.off x.len x.write
  | none =>
    let p : Packet := { typ := if s.isPosted x then 0 else 1, locked := s.lockMine x && s.PBR_LOCK_STATE == 2, size := sizeCode x.len,
                        tag := s.pbr.nextTag, origin := x.master, addr := x.off, payload := if x.write then x.data else [] }
    let s1 := (s.queueRequest p x.write).modPbr fun b => { b with nextTag := (b.nextTag + 1) % 256 }
    if s.isPosted x then s1
    else s1.modPbr fun b => { b with nears := b.nears ++ [⟨p.tag, x.master, x.off, x.len, x.write, false, false, false⟩] }

/-- FAR_INT_POLL: a POLL read of the partner's summary (R340); with no room in the non-posted buffer this poll is left out (R337). -/
def State.pollFar (s : State) : State :=
  if s.live && s.hasPeer && s.pbr.up && s.requestRoom false 0 then
    let t := s.pbr.nextTag
    (s.queueRequest { typ := 1, poll := true, size := 2, tag := t, addr := R_GLB_INTSUM } false).modPbr fun b =>
      { b with nextTag := (t + 1) % 256, nears := b.nears ++ [⟨t, 0, R_GLB_INTSUM, 4, false, true, false, false⟩] }
  else s

/-! Locked sequences (R338, R339). -/

/-- PBR_LOCK.STATE. -/
def State.setLockState (s : State) (v : Nat) : State := s.setFld R_PBR_LOCK 10 3 v

/-- Send the LOCK request of the open sequence. -/
def State.sendLock (s : State) : State :=
  let t := s.pbr.nextTag
  let a := s.PBR_LOCK_BLOCK * 0x10000
  ((s.queueRequest { typ := 6, tag := t, origin := s.pbr.lockMaster.getD 0, addr := a } false).modPbr fun b =>
    { b with nextTag := (t + 1) % 256, nears := b.nears ++ [⟨t, 0, a, 0, false, false, true, false⟩] }).setLockState 1

/-- LOCK_START: ignored while a sequence is open, and in HALT, where the device issues no bridge request of its own (R331). With the link down the
request ends at once with TIMEOUT, as every near access does (log entry 97). -/
def State.lockStart (s : State) (master block : Nat) : State :=
  if s.PBR_LOCK_STATE ≠ 0 ∨ s.glb.mode = .halt then s
  else if !(s.peerRuns && s.pbr.up) then (s.setFld R_PBR_LOCK 0 5 block).nearFails 9 master (block * 0x10000) 0 true
  else ((s.setFld R_PBR_LOCK 0 5 block).modPbr fun b => { b with lockMaster := some master }).sendLock

/-- LOCK_END: the bridge sends LOCK_END after the accesses already issued; the sequence closes. -/
def State.lockEnd (s : State) : State :=
  if s.PBR_LOCK_STATE = 0 then s
  else
    let s1 := if s.PBR_LOCK_STATE = 2 then
        s.queueRequest { typ := 6, lockEnd := true, origin := s.pbr.lockMaster.getD 0, addr := s.PBR_LOCK_BLOCK * 0x10000 } false
      else s
    (s1.modPbr fun b => { b with
      lockMaster := none, nears := b.nears.filter (fun n => !n.lock),
      reqQ := b.reqQ.filter (fun p => p.typ != 6 || p.lockEnd) }).setLockState 0

/-- LOCK_RETRY arrives (R339). -/
def State.lockRetry (s : State) : State := ((s.pCount 8).pbrFlag 9).setLockState 3

/-- The lock sequence and every waiting packet are dropped: link loss or HALT. -/
def State.dropBridge (s : State) : State :=
  let ns := s.pbr.nears
  let s1 := s.modPbr fun b => { b with nears := [], reqQ := [], respQ := [], syncQ := [], mirQ := [], lockMaster := none, farLock := none,
                                       copy := none, syncParts := none, mirSent := [], mirLeft := [] }
  let s2 := s1.setLockState 0
  ns.foldl (fun s n => if n.poll || n.lock then s else (s.pCount 5).nearFails 9 n.master n.addr n.len n.write) s2

/-! Pins (R344). -/

/-- Hold or release ACTIVE_CLAIM. -/
def State.claimPin (s : State) (v : Bool) : State :=
  if s.glb.active = v then s else ({ s with glb := { s.glb with active := v } }).emit (.claimPin v)

/-- Drive PEER_FAULT low or release it. -/
def State.faultPin (s : State) (v : Bool) : State :=
  if s.pbr.faultDriven = v then s else (s.modPbr fun b => { b with faultDriven := v }).emit (.faultPin v)

end Sys2Proof.Machine
end

