-- ==== Sys2Proof/Machine/Bus.lean ====
section
/-! DEFINITION. Accesses to BAR0 and BAR2: the judging order absent unit, access table, own rules (18_protection_integrity.md
R371), the action of each register's access code (R377, 19_register_map.md R380 to R386), the paged window (R383 to R385), the
host interface's registers (15_host_interface.md R314, R316, R328) and BAR2 (12_event_capture.md R270). -/

namespace Sys2Proof.Machine

/-! Absent units (00_scope.md R5). -/

/-- Source index 0 to 95 serial port, 96 to 99 network port, 100 to 107 Armature link. -/
def State.hasSource (s : State) (i : Nat) : Bool :=
  if i < 96 then s.hasPort i else if i < 100 then s.hasNp (i - 96) else s.hasLink (i - 100)

/-- The word at a BAR0 offset below 0x11_0000 belongs to an absent unit. The words of PRT_AT[24] to PRT_AT[31] on the IXM-48E are no
registers of the DDR (18_protection_integrity.md gives targets 24 to 31 to R5): they stay readable (DESIGN CHOICE, log entry 122). -/
def State.absentAt (s : State) (off : Nat) : Bool :=
  let o := off % 0x10000
  match off / 0x10000 with
  | 2 => if o < 0x3000 then !s.hasPort (o / 0x80) else if o < 0x3100 then !s.hasBank ((o - 0x3000) / 0x20) else false
  | 3 =>
    if o < 0x180 then !s.hasPort (o / 4)
    else if 0x200 ≤ o && o < 0x280 then !s.hasNp ((o - 0x200) / 0x20)
    else if 0x1000 ≤ o && o < 0x2900 then !s.hasSource ((o - 0x1000) / 0x40)
    else false
  | 4 => decide (o < 0x1B0) && !s.hasSource (o / 4)
  | 8 => !s.hasAnalysis
  | 9 => !s.hasCapture
  | 10 =>
    if 0x8400 ≤ o && o < 0x8410 then !s.hasNp ((o - 0x8400) / 4)
    else if 0x9000 ≤ o && o < 0x9600 then !s.hasPort ((o - 0x9000) / 0x10)
    else if 0xA000 ≤ o && o < 0xA600 then !s.hasPort ((o - 0xA000) / 0x10)
    else false
  | 11 =>
    if o < 0x200 then !s.hasLink (o / 0x40)
    else if 0x1000 ≤ o && o < 0x1400 then !s.hasLink ((o - 0x1000) / 0x80)
    else false
  | 13 => !s.hasPeer
  | 15 => decide (o < 0x44) && !s.hasDdr
  | _ => false

/-! The own rules of registers. -/

/-- The window page of a master (R383). -/
def State.pageOf (s : State) (m : Nat) : Nat := if m = 0 then s.glb.page0 else if m = 1 then s.glb.page1 else if m = 4 then s.glb.page4 else 0

/-- WINDOW_PAGE_WRITE: the writing master's own copy only (R383). -/
def State.setPage (s : State) (m v : Nat) : State :=
  { s with glb :=
    if m = 0 then { s.glb with page0 := v % 512 }
    else if m = 1 then { s.glb with page1 := v % 512 }
    else if m = 4 then { s.glb with page4 := v % 512 }
    else s.glb }

/-- The doorbell HST_CRTAIL (R316): a value more than 256 ahead of HEAD, or behind it, is ignored and sets DOORBELL_ERR. -/
def State.doorbell (s : State) (v : Nat) : State :=
  if (v + 65536 - s.HST_CRHEAD_HEAD) % 65536 ≤ 256 then s.setFld R_HST_CRTAIL 0 16 v else s.hstFlag 0

/-- A write of the command ring's base: dropped while the ring is enabled (R316). -/
def State.ringBase (s : State) (off v : Nat) : State :=
  if s.HST_CTL_CR_EN = 1 then s.hstFlag 5 else s.setReg off (BitVec.ofNat 32 v)

/-- Completions written and not consumed (R320). -/
def State.unconsumed (s : State) : Nat := (s.HST_KRTAIL_TAIL + 65536 - s.HST_KRHEAD_HEAD) % 65536

/-- HQ_READ_OFFSET_WRITE (R328): beyond WR or behind the previous RD is ignored. -/
def State.hqReadOffset (s : State) (h v : Nat) : State :=
  let wr := s.HST_HQWR_WR h
  let rd := s.HST_HQRD_RD h
  if (v + 2 ^ 32 - rd) % 2 ^ 32 ≤ (wr + 2 ^ 32 - rd) % 2 ^ 32 then
    let s1 := s.setReg (R_HST_HQRD h) (BitVec.ofNat 32 v)
    if v % 2 ^ 32 = wr then s1 else s1.raiseVector (hqVector h)
  else s.hstFlag 5

/-- FLAG_CLEAR: a write-1-to-clear. One that leaves a flag of the block set raises its vector again (R327, R377). -/
def State.clearFlags (s : State) (off mask v : Nat) : State :=
  let hit := v &&& mask
  let s1 := s.setReg off (BitVec.ofNat 32 ((s.reg off).toNat - ((s.reg off).toNat &&& hit)))
  if hit ≠ 0 ∧ s1.blockFlagged (off / 0x10000) then s1.raiseVector (blockVector (off / 0x10000)) else s1

/-- The plain access codes of a register (00_scope.md, R377). -/
def State.plainWrite (s : State) (r : RegRow) (off v : Nat) : State :=
  match r.cls with
  | .flags => s.clearFlags off r.w1c v
  | .counter => (s.clearBad 13 (off / 8)).setReg off 0
  | .rw => (s.clearBad 13 (off / 8)).setReg off (BitVec.ofNat 32 (((s.reg off).toNat - ((s.reg off).toNat &&& r.rw)) + (v &&& r.rw)))
  | .ro => s
  | .action => s

/-- A write of PBR_LOCK (R338). -/
def State.writeLock (s : State) (m v : Nat) : State :=
  let s1 := if s.PBR_LOCK_STATE = 0 then s.setFld R_PBR_LOCK 0 5 v else s
  let s2 := if bitOf v 8 then s1.lockStart m (v % 32) else s1
  if bitOf v 9 then s2.lockEnd else s2

/-- A write of a named register word by master m: its action, or its access code. -/
def State.writeWord (s : State) (m : Nat) (r : RegRow) (off v : Nat) : State :=
  match off / 0x10000 with
  | 0 => if off = R_GLB_WINPAGE then s.setPage m v else s.plainWrite r off v
  | 1 => if off = R_TIM_SNAP then (if bitOf v 0 then s.snap else s) else s.plainWrite r off v
  | 6 => if off = R_ALN_FREEMIN then s.setReg off (BitVec.ofNat 32 s.freeSlots) else s.plainWrite r off v
  | 7 =>
    match arrayIdx off (R_RCV_LSWAP 0) 0x40 16 with
    | some l =>
      let s1 := s.setFld off 0 6 v
      if bitOf v 8 then s1.swapRequest l (v % 64) else s1
    | none => s.plainWrite r off v
  | 8 =>
    if off = R_ANA_RSEL then s.latchResult (BitVec.ofNat 32 v)
    else if off = R_ANA_PSEL then s.latchPair (BitVec.ofNat 32 v)
    else s.plainWrite r off v
  | 9 =>
    match arrayIdx off (R_CAP_GACK 0) 0x40 16 with
    | some g => s.ackGroup g v
    | none => s.plainWrite r off v
  | 10 =>
    match arrayIdx off (R_EGR_HQACK 0) 0x40 16 with
    | some h => s.hqAck h (v % 65536)
    | none => s.plainWrite r off v
  | 12 =>
    if off = R_HST_CRTAIL then s.doorbell (v % 65536)
    else if off = R_HST_CTL then { s.plainWrite r off v with hst := { s.hst with fetchStopped := false } }
    else if off = R_HST_CRBASEL ∨ off = R_HST_CRBASEH then s.ringBase off v
    else match arrayIdx off (R_HST_HQRD 0) 0x20 16 with
      | some h => s.hqReadOffset h v
      | none => s.plainWrite r off v
  | 13 => if off = R_PBR_LOCK then s.writeLock m v else s.plainWrite r off v
  | 14 => if (off = R_CFG_HOSTRAML ∨ off = R_CFG_HOSTRAMH) ∧ s.hasDdr then s else s.plainWrite r off v
  | _ => s.plainWrite r off v

/-! One access, judged (R371). -/

/-- What an access came to: status of Table HST-6 and the data of a read. -/
structure BusRes where
  state : State
  status : Nat := 0
  data : Bytes := []

/-- The 4-byte words of an access. -/
def wordOffs (off len : Nat) : List Nat := (List.range (len / 4)).map (fun i => off + 4 * i)

/-- The word of write data for the i-th word. -/
def dataWord (bs : Bytes) (i : Nat) : Nat := leNat ((bs.drop (4 * i)).take 4)

/-- An access that touches a word with no register sets RESERVED_HIT, once (R381). -/
def State.reservedHit (s : State) (offs : List Nat) : State := s.when (offs.any fun o => (regRow o).isNone) fun s => s.glbFlag 1

/-- Read words whose own rule is known, in one CCLK (R314). -/
def State.readWords (s : State) (m : Nat) (offs : List Nat) : BusRes :=
  { state := s.reservedHit offs
    data := offs.flatMap fun o => if (regRow o).isSome then leBytes 4 (s.readWord m o) else [0, 0, 0, 0] }

/-- Write words in ascending order (R314); a word with no register ignores it. -/
def State.writeWords (s : State) (m : Nat) : List Nat → Bytes → Nat → State
  | [], _, _ => s
  | o :: r, bs, i =>
    let s1 := match regRow o with
      | some row => s.writeWord m row o (dataWord bs i)
      | none => s
    State.writeWords s1 m r bs (i + 1)

/-- An access to a target that its table refuses (R373). -/
def State.deny (s : State) (m target addr : Nat) (write : Bool) (len : Nat) : BusRes :=
  ⟨s.violation m target addr (b1 write), 3, if write then [] else failedRead 3 len⟩

/-- The answer to an access whose words all belong to absent units (R5): a read answers zero and sets ABSENT_HIT, a write is ignored. -/
def State.absentAccess (s : State) (len : Nat) (write : Bool) : BusRes :=
  if write then ⟨s, 2, []⟩ else ⟨s.glbFlag 0, 2, List.replicate len 0⟩

/-- An access to a register block by master m. A word of an absent unit beside one of a present unit follows R5 by itself. -/
def State.blockAccess (s : State) (m off len : Nat) (write : Bool) (data : Bytes) : BusRes :=
  let b := off / 0x10000
  let offs := wordOffs off len
  let here := offs.filter (fun o => !s.absentAt o)
  if here = [] then s.absentAccess len write
  else if here ≠ offs then
    let s0 := if write then s else s.glbFlag 0
    if !(here.all fun o => s.granted b m (if write then 17 else 16) (o % 0x10000) 4) then s0.deny m b (off % 0x10000) write len
    else if m = 1 && write && s.glb.mode == .halt then ⟨s, 1, []⟩
    else if write then ⟨here.foldl (fun t o => t.writeWords m [o] ((data.drop (o - off)).take 4) 0) (s.reservedHit here), 0, []⟩
    else
      let r := s0.readWords m here
      ⟨r.state, 0, offs.flatMap fun o => if s.absentAt o then [0, 0, 0, 0] else (s0.readWords m [o]).data⟩
  else if !s.granted b m (if write then 17 else 16) (off % 0x10000) len then s.deny m b (off % 0x10000) write len
  else if m = 1 && write && s.glb.mode == .halt then ⟨s, 1, []⟩
  else if write then ⟨(s.reservedHit offs).writeWords m offs data 0, 0, []⟩
  else s.readWords m offs

/-- A page of the window (Table MAP-3): target, address compared for byte 0, bytes before the reserved range. -/
def pageTarget (page : Nat) : Option (Nat × Nat × Nat) :=
  if page < 8 then some (17, page * 0x80000, 0x80000)
  else if page = 8 then some (17, 0x400000, 0x80000)
  else if page = 0x10 then some (18, 0, 0x40000)
  else if 0x11 ≤ page && page ≤ 0x13 then some (20, (page - 0x11) * 0x80000, 0x80000)
  else if page = 0x20 ∨ page = 0x21 then some (19, (page - 0x20) * 0x80000, 0x80000)
  else if page = 0x22 then some (19, 0x100000, 0x1000)
  else if page = 0x30 then some (10, 0x10000, 0x10000)
  else if page = 0x31 then some (10, 0x90000, 0x8000)
  else if 0x40 ≤ page && page ≤ 0x4F then some (10, 0x10000 + (page - 0x30) * 0x80000, 0x80000)
  else none

/-- Bytes that a page shows from byte x on (R384): flow store, key table, program store, local spaces, coefficient store, egress
block table and templates, head data of a host queue. -/
def State.pageRead (s : State) (page x n : Nat) : Bytes :=
  if page < 8 then s.flw.ctx.bytes 0 (page * 0x80000 + x) n
  else if page = 8 then s.flw.keys.bytes 0 x n
  else if page = 0x10 then
    ((List.range n).map fun i => BitVec.ofNat 8 ((s.chs.prog.at 0 ((x + i) / 4)).toNat / 256 ^ ((x + i) % 4)))
  else if page ≤ 0x13 then s.chs.loc.bytes 0 ((page - 0x11) * 0x80000 + x) n
  else if page ≤ 0x21 then s.rcl.coef.bytes 0 ((page - 0x20) * 0x80000 + x) n
  else if page = 0x22 then s.rcl.coef.bytes 0 (0x100000 + x) n
  else if page = 0x30 then s.egr.blocks.bytes 0 x n
  else if page = 0x31 then s.egr.tmpl.bytes 0 x n
  else
    let h := page - 0x40
    match (s.hq h).entries, s.EGR_HQCFG_DMA h with
    | e :: _, 0 => (List.range n).map fun i => e.data.getD (x + i) 0
    | _, _ => List.replicate n 0

/-- WINDOW_WRITE of 4 or 8 bytes, one access (15_host_interface.md R314): a flow counter clears (R133), anything else is dropped with
WIN_REFUSED. -/
def State.pageWrite (s : State) (page x len : Nat) : State :=
  if page < 8 ∧ 0xE0 ≤ x % 512 ∧ x % 512 < 0x120 then
    s.forEach (wordOffs x len) fun s o => s.setFctx (page * 1024 + o / 512) (o % 512) 4 0
  else if page ≤ 8 then s.flwFlag 5
  else if page ≤ 0x13 then s.chsFlag 4
  else if page ≤ 0x22 then s.rcvFlag 7
  else s.egrFlag 7

/-- An access of a master through its window, but for the partner's pages (R384, R385). -/
def State.pageAccess (s : State) (m x len : Nat) (write : Bool) : BusRes :=
  match pageTarget (s.pageOf m) with
  | none =>
    if m = 1 && write && s.glb.mode == .halt then ⟨s, 1, []⟩ else ⟨s.glbFlag 1, 0, if write then [] else List.replicate len 0⟩
  | some (t, base, top) =>
    if !s.granted t m (if write then 17 else 16) (base + x) len then s.deny m t (base + x) write len
    else if m = 1 && write && s.glb.mode == .halt then ⟨s, 1, []⟩
    else if top ≤ x then ⟨s.glbFlag 1, 0, if write then [] else List.replicate len 0⟩
    else if write then ⟨s.pageWrite (s.pageOf m) x len, 0, []⟩
    else ⟨s, 0, s.pageRead (s.pageOf m) x len⟩

/-- The page is one of the partner's (R333). -/
def State.farPage (s : State) (m : Nat) : Bool := decide (0x80 ≤ s.pageOf m ∧ s.pageOf m ≤ 0x83)

/-- An access of 4 or 8 bytes to BAR0 that ends at once: register block, gap or window. -/
def State.busNow (s : State) (m off len : Nat) (write : Bool) (data : Bytes) : BusRes :=
  if off < 0x110000 then s.blockAccess m off len write data
  else if off < 0x180000 then
    if m = 1 && write && s.glb.mode == .halt then ⟨s, 1, []⟩ else ⟨s.glbFlag 1, 0, if write then [] else List.replicate len 0⟩
  else s.pageAccess m (off - 0x180000) len write

/-- An access of M1 (R333, R334): 1 and 2 bytes are not for register blocks, a burst is sixteen ascending writes, and the
partner's own bridge pages are refused, a violation of their target that the error log shows (R335, R373). -/
def State.farAccess (s : State) (off len : Nat) (write : Bool) (data : Bytes) : BusRes :=
  if 0x180000 ≤ off ∧ s.farPage 1 then s.deny 1 22 ((s.pageOf 1 - 0x80) * 0x80000 + (off - 0x180000)) write len
  else if len < 4 then ⟨s, 0x0D, if write then [] else List.replicate len 0⟩
  else if len = 64 ∧ write then
    let r := (List.range 16).foldl (fun (a : BusRes) i =>
      let b := a.state.busNow 1 (off + 4 * i) 4 true ((data.drop (4 * i)).take 4)
      ⟨b.state, if a.status ≠ 0 then a.status else b.status, []⟩) ⟨s, 0, []⟩
    r
  else s.busNow 1 off len write data

/-! Accesses of the near masters M0 and M4. -/

/-- The partner's block is locked for M1 here: other masters' accesses to it wait (R338). -/
def State.blockHeld (s : State) (off : Nat) : Bool := s.pbr.farLock == some (off / 0x10000)

/-- A write that acts as ascending 4-byte writes (R314). -/
def longWrite (off len : Nat) : Bool := decide (8 < len ∧ len ≤ 256 ∧ len % 4 = 0 ∧ off % 4 = 0)

/-- Sizes and alignments that BAR0 accepts (R314). -/
def busSizeOk (x : BusOp) : Bool := (x.len == 4 || x.len == 8) && x.off % x.len == 0

/-- The far BAR0 offset that a master's access through its window reaches (R333). -/
def State.farOffset (s : State) (x : BusOp) : Nat := (s.pageOf x.master - 0x80) * 0x80000 + (x.off - 0x180000)

/-- The access goes to the partner's BAR0 as one request: a size that R314 or R334 lets its master send, through pages 0x080 to 0x083. -/
def State.toBridge (s : State) (x : BusOp) : Bool :=
  decide (0x180000 ≤ x.off) && s.farPage x.master && (busSizeOk x || x.master == 4 || (x.write && x.len == 64 && x.off % 64 == 0))

/-- A near access to the partner through pages 0x080 to 0x083 (R333). -/
def State.bridgeWindow (s : State) (x : BusOp) : State :=
  let far := s.farOffset x
  if !s.hasPeer then
    let r := s.absentAccess x.len x.write
    if x.write then r.state else r.state.emit (.readData x.master r.data)
  else if !s.granted 22 x.master (if x.write then 17 else 16) far x.len then
    (s.violation x.master 22 far (b1 x.write)).nearFails 3 x.master far x.len x.write
  else s.bridgeAccess { x with off := far }

/-- The accesses that one access of a near master makes: a longer write is ascending 4-byte writes, but a burst to the partner is one (R314,
R334). -/
def State.pieces (s : State) (x : BusOp) : List BusOp :=
  if !s.toBridge x && x.write && longWrite x.off x.len then
    (List.range (x.len / 4)).map fun i => { x with off := x.off + 4 * i, len := 4, data := (x.data.drop (4 * i)).take 4 }
  else [x]

/-- A write of PBR_LOCK that makes the bridge send LOCK or LOCK_END, for which the non-posted buffer has no room (R337). -/
def State.lockFull (s : State) (x : BusOp) : Bool :=
  x.write && !s.requestRoom false 0 && (wordOffs x.off x.len).zipIdx.any fun o =>
    o.1 == R_PBR_LOCK && ((bitOf (dataWord x.data o.2) 8 && s.PBR_LOCK_STATE == 0) || (bitOf (dataWord x.data o.2) 9 && s.PBR_LOCK_STATE == 2))

/-- The access must wait: its master is held, its block is locked for the partner, or it finds its request buffer full (R335, R337, R338). -/
def State.busHeld (s : State) (x : BusOp) : Bool :=
  s.masterHeld x.master || s.blockHeld x.off || s.lockFull x ||
    (s.toBridge x && s.hasPeer && s.granted 22 x.master (if x.write then 17 else 16) (s.farOffset x) x.len &&
      s.bridgeFull { x with off := s.farOffset x })

/-- One piece of an access of a near master, not held. -/
def State.busOne (s : State) (x : BusOp) : State :=
  if s.toBridge x then s.bridgeWindow x
  else if busSizeOk x then
    let r := s.busNow x.master x.off x.len x.write x.data
    if x.write then r.state else r.state.emit (.readData x.master r.data)
  else
    let s1 := s.hstFlag 5
    if x.write then s1 else s1.emit (.readData x.master (List.replicate x.len 0))

/-- The pieces of an access act in order; one that must wait holds those behind it, ahead of what its master issued later (R335). -/
def State.busPieces : List BusOp → State → State
  | [], s => s
  | y :: r, s => if s.busHeld y then s.modPbr fun b => { b with waitBus := (y :: r) ++ b.waitBus } else State.busPieces r (s.busOne y)

/-- One access of a near master that nothing holds. -/
def State.busDo (s : State) (x : BusOp) : State := s.busPieces (s.pieces x)

/-- The access must wait: an earlier one of its master waits, or what it or its first piece needs is held. -/
def State.busWaits (s : State) (x : BusOp) : Bool :=
  s.pbr.waitBus.any (fun y => y.master == x.master) || s.busHeld ((s.pieces x).headD x)

/-- An access of a near master (R314, R335). In RESET the endpoint answers no request (R313). -/
def State.busAccess (s : State) (x : BusOp) : State :=
  if s.glb.mode = .reset then s
  else if s.busWaits x then s.holdBus x
  else s.busDo x

/-- Take the first waiting access that may go now; the accesses of one master go in the order issued. -/
def takeWaiting (s : State) : List BusOp → List BusOp → Option (BusOp × List BusOp)
  | _, [] => none
  | done, x :: r =>
    if done.any (fun y => y.master == x.master) || s.busHeld ((s.pieces x).headD x) then takeWaiting s (done ++ [x]) r
    else some (x, done ++ r)

/-- Let waiting accesses go, as many as may. -/
def State.pumpBus : Nat → State → State
  | 0, s => s
  | fuel + 1, s =>
    match takeWaiting s [] s.pbr.waitBus with
    | none => s
    | some (x, rest) => State.pumpBus fuel ((s.modPbr fun b => { b with waitBus := rest }).busDo x)

/-- Release what no longer waits: an access has at most 64 pieces (R314). -/
def State.pump (s : State) : State := s.pumpBus (64 * s.pbr.waitBus.length)

/-- A write of a 4-byte word by the host. -/
def hostWord (off v : Nat) : BusOp := ⟨0, off, 4, true, leBytes 4 v⟩

/-! BAR2 (R7, R270) and DDR regions (18_protection_integrity.md R374). -/

/-- The DDR region that holds a byte: region 0 at its reset size is clipped to the DDR fitted less the image areas. -/
def State.ddrRegion (s : State) (a : Nat) : Option Nat :=
  (List.range 8).find? fun r =>
    let lo := s.PRT_DDRREG0_BASE_MIB r * 0x100000
    let hi := lo + s.PRT_DDRREG1_SIZE_MIB r * 0x100000
    decide (lo ≤ a) && decide (a < hi) && (s.PRT_DDRREG1_SIZE_MIB r != 0x4000 || decide (a < s.maqBase))

/-- BAR2_READ of `n` bytes at window offset `x`. -/
def State.bar2Read (s : State) (x n : Nat) : State :=
  let a := s.CAP_WINBASE_BASE * 4096 + x
  let zero := List.replicate n (0 : Byte)
  if !s.hasDdr then (s.glbFlag 0).emit (.readData 0 zero)
  else if !s.ddrUsable then (s.capFlag 7).emit (.readData 0 zero)
  else
    match s.ddrRegion a with
    | none => (s.violation 0 23 a 0).emit (.readData 0 (failedRead 3 n))
    | some r =>
      if !s.granted (24 + r) 0 16 a n then (s.violation 0 (24 + r) a 0).emit (.readData 0 (failedRead 3 n))
      else s.emit (.readData 0 ((List.range n).map fun i =>
        if s.isBad 12 ((a + i) / 8) then BitVec.ofNat 8 (0x0BAD0ECC / 256 ^ ((a + i) % 4)) else (s.ddrRead (a + i) 1).headD 0))

/-- BAR2_WRITE: dropped with WIN_REFUSED (12_event_capture.md R270), and ignored where the unit is absent (R5). -/
def State.bar2Write (s : State) : State := if s.hasCapture then s.capFlag 8 else s

end Sys2Proof.Machine
end

