-- ==== Sys2Proof/Machine/Complete.lean ====
section
/-! DEFINITION. Completions (15_host_interface.md R320, R321, Table HST-4), mode changes with their records
(02_modes.md R32, 18_protection_integrity.md Table PRT-6), and the removal of a command from those in flight. -/

namespace Sys2Proof.Machine

def State.modHst (s : State) (f : Hst → Hst) : State := { s with hst := f s.hst }
def State.modGlb (s : State) (f : Glb → Glb) : State := { s with glb := f s.glb }
def State.modPwr (s : State) (f : Pwr → Pwr) : State := { s with pwr := f s.pwr }

/-- HST_GCNT (Table HST-8). -/
def State.hCount (s : State) (c : Nat) : State := s.count (R_HST_GCNT c)

/-- The 16 bytes of a completion entry (Table HST-4). -/
def Cpl.bytes (c : Cpl) (phase : Bool) : Bytes :=
  [BitVec.ofNat 8 c.tag, BitVec.ofNat 8 c.status] ++ leBytes 2 c.epoch ++
    [BitVec.ofNat 8 c.slot, BitVec.ofNat 8 (c.kind + 128 * b1 phase)] ++ leBytes 2 c.source ++ leBytes 8 c.result

/-- Address of the completion ring: 8 KiB aligned. -/
def State.krBase (s : State) : Nat := ((s.reg R_HST_KRBASEH).toNat * 2 ^ 32 + (s.reg R_HST_KRBASEL).toNat) / 8192 * 8192

/-- Write one completion into the ring and advance HST_KRTAIL; KR_FULL when that fills the ring, and vector 0 when HST_KCOAL.COUNT are unconsumed
(R320, R327). -/
def State.writeCpl (s : State) (c : Cpl) : State :=
  let n := s.HST_KRTAIL_TAIL
  let s1 := s.emit (.hostWrite (s.krBase + 16 * (n % 512)) (c.bytes (n / 512 % 2 == 0)))
  let s2 := ((s1.setFld R_HST_KRTAIL 0 16 ((n + 1) % 65536)).hCount 1)
  let s2 := s2.when (decide (512 ≤ s2.unconsumed)) fun s => s.hstFlag 6
  if max 1 s2.HST_KCOAL_COUNT ≤ s2.unconsumed then s2.raiseVector 0 else s2

/-- The ring takes a completion now: KR_EN is 1 and there is room (R320). -/
def State.krOpen (s : State) : Bool := s.HST_CTL_KR_EN == 1 && decide (s.unconsumed < 512)

/-- A completion goes to the ring, or is held on chip behind those held already (R320); one that finds the ring full sets KR_FULL again. -/
def State.postCpl (s : State) (c : Cpl) : State :=
  if s.krOpen ∧ s.hst.held = [] then s.writeCpl c
  else
    let s1 := s.modHst fun h => { h with held := h.held ++ [c] }
    if s1.HST_CTL_KR_EN = 1 ∧ 512 ≤ s1.unconsumed then s1.hstFlag 6 else s1

/-- The completion entry of a COMMAND cell returns to the device that sent it (14_armature_links.md R308). -/
def State.answerCell (s : State) (dev : Nat) (c : Cpl) : State :=
  match s.codeLink dev with
  | some k =>
    s.sendSteered k (s.newCell 3 dev ((1 : Byte) :: { c with kind := 2, source := s.ARM_ID_DEVICE_ID }.bytes false))
  | none => s

/-- A command completes with a status and a RESULT under the present epoch (R320, R321): a command of M0 on the completion
ring, one that a COMMAND cell brought by a cell. -/
def State.answer (s : State) (cmd : HostCmd) (status result : Nat) : State :=
  let c : Cpl := ⟨cmd.tag.toNat, status, s.glb.epoch.toNat, cmd.slot.toNat, 0, 0, if status = 5 then s.glb.epoch.toNat else result⟩
  match cmd.src with
  | none => s.postCpl c
  | some dev => s.answerCell dev.toNat c

/-- The command in flight under key k. -/
def State.flight (s : State) (k : Nat) : Option Flight := s.hst.flights.find? (fun f => f.key == k)

/-- Change the command in flight under key k. -/
def State.modFlight (s : State) (k : Nat) (f : Flight → Flight) : State :=
  s.modHst fun h => { h with flights := h.flights.map (fun x => if x.key = k then f x else x) }

/-- The command in flight under key k completes. -/
def State.complete (s : State) (k status result : Nat) : State :=
  match s.flight k with
  | none => s
  | some f => (s.modHst fun h => { h with flights := h.flights.filter (fun x => x.key != k) }).answer f.cmd status result

/-- Complete where a key is known. -/
def State.completeOpt (s : State) (k : Option Nat) (status result : Nat) : State :=
  match k with
  | some k => s.complete k status result
  | none => s

/-- The mode changes: PREV_MODE, MODE_CHANGE, a MODE log entry and vector 1 (02_modes.md Table MOD-8, Table MOD-11, Table
PRT-6, Table HST-7). -/
def State.changeMode (s : State) (m : Mode) : State :=
  if s.glb.mode = m then s
  else
    let old := s.glb.mode
    let s1 := s.modGlb fun g => { g with mode := m, prevMode := old, shed := if m = .shed then g.shed else 0 }
    ((s1.pwrFlag 5).logEvent 2 m.code [(old.code, 1), (s.glb.haltCause, 1)]).raiseVector 1

/-- The next value of GLB_EPOCH (R36): 0xFFFF wraps to 0x0001. -/
def nextEpoch (e : BitVec 16) : BitVec 16 := if e = 0xFFFF then 1 else e + 1

/-- The EPOCH_BREAK record (R36, R320). -/
def State.epochBreak (s : State) (old : BitVec 16) (left : Mode) (cause discarded : Nat) : State :=
  let r := packWord [(old.toNat, 0, 16), (s.glb.epoch.toNat, 16, 16), (left.code, 32, 3), (cause, 36, 4), (discarded, 48, 9)]
  ((s.postCpl ⟨0, Config.breakStatus.val, s.glb.epoch.toNat, Config.breakSlot.toNat, 1, 0, r⟩).hCount 7).raiseVector 1

end Sys2Proof.Machine
end

