-- ==== Sys2Proof/Machine/Modes.lean ====
section
/-! DEFINITION. Mode transitions (02_modes.md R32 to R37, R44 to R48): entry to HALT, RESET, RUN and STANDBY, the shed levels,
the power-fail sequence and the watchdog pin actions (16_peer_bridge_twin.md R346). -/

namespace Sys2Proof.Machine

/-- The handover boundary (R38), computed once, when the wait for it begins: a time step or a commit that comes while it is awaited does not
move it (DESIGN CHOICE, log entry 126). -/
def State.handoverAt (s : State) : Nat :=
  match domList.find? (fun d => s.ALN_DCFG_ENABLE d == 1) with
  | some d => gridPt (s.rateOf d) (gridFloor (s.rateOf d) s.now + 1)
  | none => (s.tsec + 1) * nsPerSec

/-- NPk loses its lock as its lane goes down. -/
def State.npDown (s : State) (k : Nat) : State :=
  if (s.np k).blockLock then (s.setNp k { s.np k with blockLock := false, fecLock := false }).sntFlag 9 else s

/-! HALT (R36). -/

/-- Capture groups stop at once; an open record stays with CLOSED = 0 (12_event_capture.md R265). -/
def State.haltCapture (s : State) : State :=
  s.forEach s.capGroups fun s g => s.modGroup g fun y => { y with state := 0, staged := [], flushing := none }

/-- What the units and pins do in HALT: serial TX at mark, network streams stopped, ALARM_OUT at the fail state, links off,
stores discarded, ACTIVE_CLAIM released and PEER_FAULT driven (Table MOD-1, Sequence MOD-2). -/
def State.haltUnits (s : State) : State :=
  let s1 := (s.portsHalt.abandonAll s.allPorts).forEach [0, 1, 2, 3] State.npDown
  let s2 := s1.dropJobs.followAlarms.linksOff.clearStore.clearLanes.haltAnalysis.haltCapture.quietPps
  let s3 := (s2.claimPin false).faultPin true
  s3.modPbr fun b => { b with claimFor := 0, silentAt := none, handReq := none, sync := 0 }

/-- Entry to HALT (R36): commands, runs and bridge transactions are discarded, GLB_EPOCH increments, EPOCH_BREAK is written. -/
def State.enterHalt (s : State) (cause : Nat) : State :=
  if s.glb.mode = .reset ∨ s.glb.mode = .halt then s
  else
    let n := s.hst.fetched.length + s.hst.flights.length
    let s1 := (s.modHst fun h => { h with fetched := [], flights := [] }).countN (R_HST_GCNT 4) n
    let s2 := s1.haltEngines.dropBridge.modCfg fun c =>
      { c with waiting := none, applying := false, window := none, job := none, toActivate := none }
    let s3 := (s2.modGlb fun g => { g with epoch := nextEpoch g.epoch, haltCause := cause }).aliveUnset
    let s4 := (s3.changeMode .halt).updateQuality.modPwr fun p => { p with backStart := none }
    (s4.epochBreak s.glb.epoch s.glb.mode cause n).haltUnits

/-! RESET (R32, R34, R36, R37). -/

/-- A device in RESET: what no supply or store outside it keeps is at its reset value. The pins it senses, the kept fail
levels and the epoch stay (R32, R36, Table MOD-7). -/
def State.enterReset (s : State) (pin reboot : Bool) : State :=
  let t : State :=
    { glb := { variant := s.glb.variant, mode := .reset, epoch := s.glb.epoch, failLevels := s.glb.failLevels,
               resetPin := pin, auxUp := s.glb.auxUp, rebootPending := reboot }
      pwr := { warn := s.pwr.warn, rail0 := s.pwr.rail0, rail1 := s.pwr.rail1, rail2 := s.pwr.rail2, pfail := s.pwr.pfail }
      pbr := { claimLine := s.pbr.claimLine, faultLine := s.pbr.faultLine, faultDriven := s.pbr.faultDriven }
      egr := { pins := s.egr.pins }
      flash := s.flash, out := s.out, fresh := s.fresh, pending := s.pending }
  let t1 := (t.modTim fun m => { m with ppsOut := s.tim.ppsOut }).quietPps
  t1.followAlarms.faultPin true

/-- RESET# is asserted: through HALT into RESET, with no flash write (R34). -/
def State.assertReset (s : State) : State :=
  if s.glb.mode = .reset then s.modGlb fun g => { g with resetPin := g.auxUp, rebootPending := false }
  else (s.enterHalt 5).enterReset true false

/-- RESET# is released: GLB_EPOCH increments and the internal reset sequence runs (R36). -/
def State.releaseReset (s : State) : State :=
  if s.glb.mode = .reset ∧ s.glb.resetPin ∧ s.glb.auxUp then
    s.modGlb fun g => { g with resetPin := false, epoch := nextEpoch g.epoch }
  else s

/-- REBOOT has completed, its completion is written, and 1 µs has passed (R37). -/
def State.rebootReset (s : State) : State :=
  if s.glb.mode = .halt ∧ s.glb.rebootPending ∧ s.hst.held = [] then s.enterReset false true else s

/-- VDD_AUX goes: the epoch and the kept fail levels are lost, no pin is driven (R32, R36). -/
def State.auxRemove (s : State) : State :=
  let t := (s.claimPin false).enterReset true false
  let t1 := t.modGlb fun g => { g with epoch := 0, failLevels := 0, auxUp := false }
  (t1.forEach [0, 1, 2, 3] fun s p => s.drivePin p ⟨false, false, none⟩).faultPin false

/-- VDD_AUX comes into range: every ALARM_OUT low, PEER_FAULT driven low, GLB_EPOCH 0 (R32, R36, 20_electrical.md R389). -/
def State.auxUp (s : State) : State :=
  if s.glb.auxUp then s
  else
    let s1 := s.modGlb fun g => { g with mode := .reset, epoch := 0, failLevels := 0, auxUp := true, resetPin := true }
    s1.followAlarms.faultPin true

/-! Shedding (R44 to R46, Table MOD-5). -/

/-- Entry to SHED1. -/
def State.shedEntry1 (s : State) : State :=
  (s.forEach ((List.range 8).map (8 + ·)) State.shedLane).shedBands.deliver

/-- NPk is shed: its lock falls and its flows go SILENT. -/
def State.shedNp (s : State) (k : Nat) : State :=
  let s1 := s.npDown k
  (s1.setNp k { s1.np k with shed := true }).silenceSource 1 k

/-- Bank b is shed (04_serial_ports.md R92). -/
def State.shedBank (s : State) (b : Nat) : State :=
  let s1 := s.abandonAll ((bankPorts b).filter (fun n => s.portEnabled n))
  let s2 := (s1.bankHold b).setBank b { s1.bank b with shed := true }
  s2.forEach (bankPorts b) fun s n => (s.clearStage n).silenceSource 0 n

/-- Entry to SHED2. -/
def State.shedEntry2 (s : State) : State :=
  let nps := (List.range 4).filter (fun k => s.hasNp k && s.SNT_NPCFG_ENABLE k == 1 && s.SNT_NPCFG_SHEDDABLE k == 1)
  let banks := (List.range 8).filter (fun b => s.hasBank b && s.SER_BANK_SHEDDABLE b == 1)
  ((s.forEach nps State.shedNp).forEach banks State.shedBank).shedLinks

/-- Entry to SHED3. -/
def State.shedEntry3 (s : State) : State :=
  let s1 := (s.forEach domList State.shed3Domain).deliver
  s1.shedCapture.modGlb fun g => { g with ddrSelfRefresh := s1.hasDdr && g.ddrTrained }

/-- Carry out the entry of one level (R45). -/
def State.shedEntry (s : State) (l : Nat) : State :=
  let s1 := if s.glb.mode = .run then s.changeMode .shed else s
  let s2 := (s1.modGlb fun g => { g with shed := l }).pwrFlag 0
  match l with
  | 1 => s2.shedEntry1
  | 2 => s2.shedEntry2
  | 3 => s2.shedEntry3
  | _ => s2.shedEngines

/-- Carry out the entries down to a level, in turn. -/
def State.shedTo (s : State) (l : Nat) : State :=
  s.forEach ((List.range 4).map (1 + ·)) fun s k => if s.glb.shed < k ∧ k ≤ l then s.shedEntry k else s

/-- The units of SHED2 return. -/
def State.returnFrom2 (s : State) : State :=
  let s1 := s.forEach ((List.range 4).filter (fun k => (s.np k).shed)) fun s k => s.setNp k { s.np k with shed := false }
  let s2 := s1.forEach ((List.range 8).filter (fun b => (s1.bank b).shed)) fun s b =>
    let t := s.setBank b { s.bank b with shed := false }
    if (t.bank b).fault then t else t.bankReturn b
  s2.unshedLinks

/-- One level is left (R45): SHED4 gives back CE8 to CE23, SHED3 lets DDR leave self-refresh (DDR_SELF_REFRESH_EXIT), SHED2
and SHED1 return their units. -/
def State.shedBack (s : State) : State :=
  let l := s.glb.shed
  let s1 := (s.modGlb fun g => { g with shed := l - 1 }).pwrFlag 1
  let s2 := match l with
    | 4 => s1.enginesOn 8
    | 3 => s1
    | 2 => s1.returnFrom2
    | _ => (s1.forEach ((List.range 8).map (8 + ·)) State.returnLane).changeMode .run |>.startCapture
  s2.modPwr fun p => { p with backStart := if p.required < l - 1 then some s.tim.ticks else none }

/-- The effective required level changes (R44, R45, R46). -/
def State.qualifyLevel (s : State) : State :=
  let r := s.requiredNow
  let old := s.pwr.required
  if r = old then s
  else
    let s1 := s.modPwr fun p => { p with required := r }
    if s.glb.mode = .run ∨ s.glb.mode = .shed then
      if s.glb.shed < r then (s1.modPwr fun p => { p with backStart := none }).shedTo r
      else if r = s.glb.shed then s1.modPwr fun p => { p with backStart := none }
      else s1.modPwr fun p => { p with backStart := if p.backStart.isNone ∨ old < r then some s.tim.ticks else p.backStart }
    else s1

/-- The required level has stayed below the present one for 50 ms (R45). -/
def State.stepBack (s : State) : State :=
  if s.glb.mode = .shed ∧ s.pwr.backStart.isSome ∧ s.pwr.required < s.glb.shed then s.shedBack else s

/-! RUN and STANDBY. -/

/-- Put the SER_PCFG and SNT_PCFG words of the committed image into the ports (04_serial_ports.md R87). -/
def State.imagePorts (s : State) : State :=
  let s1 := s.forEach s.allPorts fun s n =>
    let old := s.reg (R_SER_PCFG n)
    let a := R_SER_PCFG n
    let b := R_SNT_PCFG n
    ((s.setReg a ((s.cfg.held.at none a).getD (regReset a))).setReg b ((s.cfg.held.at none b).getD (regReset b))).portConfig n old
  s1.modCfg fun c => { c with held := [], boot := [] }

/-- Entry to RUN from PLINTH (R33, R39, R42, 07_chisel_machine.md R161, 09_alignment.md R196, 14_armature_links.md R311,
12_event_capture.md R265, 16_peer_bridge_twin.md R344, R345). -/
def State.enterRun (s : State) : State :=
  let s1 := (s.changeMode .run).imagePorts
  let s2 := ((s1.enginesOn 0).timersFromNow.forEach domList State.startDomain).startLinks.startCapture.listSources
  let s3 := (s2.faultPin false).followAlarms
  let s4 := (if s3.tim.source = 0 then s3.enterHoldover else s3).updateQuality
  (s4.modPbr fun b => { b with claimFor := if s4.PBR_CFG_TWIN = 1 then 1 else 0 }).shedTo s4.pwr.required

/-- Entry to STANDBY: outputs silent, the claim released, the sync state started (R33, Table MOD-1, 04_serial_ports.md R91,
16_peer_bridge_twin.md R349). -/
def State.enterStandby (s : State) : State :=
  let s1 := ((s.changeMode .standby).claimPin false).portsStandby.egressStandby.linksStandby.quietPps.startCapture
  s1.modPbr fun b => { b with sync := if b.up then 1 else 0, copied := [], standbyAt := s.tim.ticks, claimFor := 0, silentAt := none, handReq := none }

/-- The claim is taken at takeover: RUN, released from the mirrored cursor, with the shed level that is required (R46,
09_alignment.md R204, 16_peer_bridge_twin.md R347). -/
def State.takeOver (s : State) : State :=
  let unsynced := decide (s.pbr.sync ≠ 3)
  let s1 := ((s.forEach domList State.sendFragments).claimPin true).changeMode .run
  let s2 := (s1.modPbr fun b => { b with sync := 0, claimFor := 0 }).pbrFlag 4
  let s3 := if unsynced then s2.pbrFlag 5 else s2
  let s4 := ((s3.resendPending.forEach domList State.evalDomain).deliver).startCapture.modAna (fun a => { a with unseen := true }) |>.followAlarms
  s4.shedTo s4.pwr.required

/-! Power failure and the watchdog (R46, R47, 16_peer_bridge_twin.md R346, 20_electrical.md R396, R405). -/

/-- The pin actions of R346. -/
def State.watchdogPins (s : State) : State :=
  if s.glb.mode = .reset then s
  else ((s.claimPin false).faultPin true).modGlb fun g => { g with silenced := true }

/-- The pin actions, then HALT with cause fatal fault where the fabric still runs. -/
def State.fatalPins (s : State) (fabricRuns : Bool) : State :=
  let s1 := s.watchdogPins
  if fabricRuns then s1.enterHalt 4 else s1

/-- A fatal fault. -/
def State.fatal (s : State) : State := s.enterHalt 4

end Sys2Proof.Machine
end

