-- ==== Sys2Proof/Machine/Power.lean ====
section
/-! DEFINITION. The commands of the power, reset and mode family (02_modes.md, 20_electrical.md): what a supply, a pin, a
monitor or a unit's completion does to the mode. -/

namespace Sys2Proof.Machine

/-- VDD_AUX comes into range (VDD_AUX_UP, R32). -/
def execVddAuxUp (s : State) : Res := .next s.auxUp

/-- VDD_AUX is removed (VDD_AUX_REMOVE, R36). -/
def execVddAuxRemove (s : State) : Res := .next s.auxRemove

/-- RESET# is asserted (RESET_ASSERT, R34). -/
def execResetAssert (s : State) : Res := .next s.assertReset

/-- RESET# is released (RESET_RELEASE, R36). -/
def execResetRelease (s : State) : Res := .next s.releaseReset

/-- 1 µs after the REBOOT completion (REBOOT_RESET, R37). -/
def execRebootReset (s : State) : Res := .next s.rebootReset

/-- DDR training completes (DDR_TRAINING_DONE, R39): it had been started by a boot. -/
def execDdrTrainingDone (s : State) : Res := .next <|
  if s.hasDdr ∧ s.cfg.training ∧ s.glb.mode ≠ .reset then
    (s.modCfg fun c => { c with training := false }).modGlb fun g => { g with ddrTrained := true }
  else s

/-- A SerDes lane the image uses completes calibration (LANE_CALIBRATION_DONE, R39): 0 to 3 NP, 4 to 11 AL, 12 and 13 the
peer lanes. -/
def execLaneCalibrationDone (lane : Fin 14) (s : State) : Res := .next <|
  if s.cfg.committed ∧ s.lanesUsed.contains lane.val ∧ s.glb.mode ≠ .reset ∧ bitOf s.glb.lanesReady lane.val = false then
    s.modGlb fun g => { g with lanesReady := g.lanesReady + 2 ^ lane.val }
  else s

/-- The auto-run flag, once the conditions of R39 hold (PLINTH_TO_RUN). -/
def execPlinthToRun (s : State) : Res := .next <|
  if s.glb.mode = .plinth ∧ s.cfg.autoRun ∧ s.runReady then s.enterRun else s

/-- PWR_WARN[1:0] changes (PWR_WARN_CHANGE, R44). -/
def execPwrWarnChange (v : BitVec 2) (s : State) : Res := .next (s.modPwr fun p => { p with warn := v.toNat })

/-- A monitored rail crosses a shed threshold and stands at a level (RAIL_THRESHOLD_CROSS, R391): 0 VDD_CORE, 1 VDD_MEM, 2
VDDA_SD. -/
def execRailThresholdCross (rail : Fin 3) (level : Fin 5) (s : State) : Res := .next <|
  s.modPwr fun p =>
    match rail with
    | 0 => { p with rail0 := level }
    | 1 => { p with rail1 := level }
    | 2 => { p with rail2 := level }

/-- The required level has held for 10 µs (SHED_LEVEL_QUALIFIED, R44). -/
def execShedLevelQualified (s : State) : Res := .next <| if s.glb.mode = .reset then s else s.qualifyLevel

/-- The step-back timer of 50 ms ends (SHED_STEP_BACK, R45). -/
def execShedStepBack (s : State) : Res := .next s.stepBack

/-- DDR has left self-refresh once SHED3 is left (DDR_SELF_REFRESH_EXIT, 12_event_capture.md R265). -/
def execDdrSelfRefreshExit (s : State) : Res := .next <|
  if s.glb.ddrSelfRefresh ∧ s.glb.shed < 3 ∧ s.glb.mode ≠ .reset then
    let s1 := s.modGlb fun g => { g with ddrSelfRefresh := false }
    if s.live then s1.restartCapture else s1
  else s

/-- PFAIL# in the cycle in which the minimum-rail monitor entered HALT: HALT_CAUSE reads PFAIL (R392). -/
def State.bothCauses (s : State) : State :=
  s.when (s.glb.mode == .halt && s.glb.haltCause == 3 && s.pwr.minrailAt == some s.tim.ticks) fun s =>
    s.modGlb fun g => { g with haltCause := 2 }

/-- PFAIL# is asserted (PFAIL_ASSERT, R46, Sequence MOD-2); whether the flash takes the summaries. -/
def execPfailAssert (flashOk : Bool) (s : State) : Res := .next <|
  let s1 := s.modPwr fun p => { p with pfail := true }
  if s.glb.mode = .reset then s1 else ((s1.pwrFlag 2).bothCauses.enterHalt 2).flushSummaries flashOk

/-- A rail has been below its minimum for 1 µs (MINRAIL_TRIP, R46, R391). -/
def execMinrailTrip (flashOk : Bool) (s : State) : Res := .next <|
  if s.glb.mode = .reset then s
  else
    let s1 := s.modPwr fun p => { p with minrailAt := if s.glb.mode = .halt then p.minrailAt else some s.tim.ticks }
    (((s1.pwrFlag 3).logEvent 8 2 []).enterHalt 3).flushSummaries flashOk

/-- PFAIL# is released (PFAIL_RELEASE, Sequence MOD-2). -/
def execPfailRelease (s : State) : Res := .next <|
  let s1 := s.modPwr fun p => { p with pfail := false }
  if s.pwr.pfail ∧ s.glb.mode = .halt then (s1.pwrFlag 4).logEvent 8 1 [] else s1

/-- A reference or PLL is lost (LOSS_OF_CLOCK, R396): whether the fabric still runs. -/
def execLossOfClock (fabricRuns : Bool) (s : State) : Res := .next (s.fatalPins fabricRuns)

/-- A die sensor trips (THERMAL_TRIP, R405). -/
def execThermalTrip (s : State) : Res := .next (s.fatalPins true)

/-- The heartbeat watchdog (HEARTBEAT_WATCHDOG, 16_peer_bridge_twin.md R346): whether the fabric still runs. -/
def execHeartbeatWatchdog (fabricRuns : Bool) (s : State) : Res := .next <|
  if s.glb.active then s.fatalPins fabricRuns else s

end Sys2Proof.Machine
end

