-- ==== Sys2Proof/Machine/Image.lean ====
section
/-! DEFINITION. Images as bytes and the checks of a load (17_configuration.md R350 to R352, Tables CFG-1 and CFG-2): header,
trailer, capabilities, section table, register pairs, and the rules of every chapter that refuse an image. -/

namespace Sys2Proof.Machine

/-- Bytes of a flash slot (R362). -/
def State.slotBytes (s : State) : Nat := s.CFG_FLASHGEO_SLOT_64K * 0x10000

/-- Flash offset of slot i. -/
def State.slotBase (s : State) (i : Nat) : Nat := 0x10000 + i * s.slotBytes

/-- Read `n` bytes at offset `a` of an image's source. -/
def State.srcRead (s : State) (src : ImgSrc) (a n : Nat) : Bytes :=
  match src with
  | .maquette => s.areaRead a n
  | .retained => s.areaRead (areaBytes + a) n
  | .slot i => s.flashRead (s.slotBase i + a) n

/-- The source can be read: an area that has been filled since reset, or the flash (R353). -/
def State.srcUp (s : State) (src : ImgSrc) : Bool :=
  match src with
  | .maquette => s.cfg.maqUsed && s.areasUp
  | .retained => s.cfg.retVer != 0 && s.areasUp
  | .slot _ => true

/-- A word of an area in DDR holds an uncorrectable error (18_protection_integrity.md Table PRT-5 store 12). -/
def State.srcBad (s : State) (src : ImgSrc) (len : Nat) : Bool :=
  let bad := fun (lo : Nat) => s.hasDdr && s.eccBad.any (fun x => x.1 == 12 && decide (lo ≤ 8 * x.2 + 7) && decide (8 * x.2 < lo + len))
  match src with
  | .maquette => bad s.maqBase
  | .retained => bad (s.maqBase + areaBytes)
  | .slot _ => false

/-- Why an image is refused: status, section index (0xFF header or trailer), image byte, RESULT of the command. -/
structure LoadErr where
  status : Nat
  sect : Nat
  ofs : Nat
  result : Nat := 0
  deriving DecidableEq, Repr

/-- A section table entry (Table CFG-2) with its content. -/
structure Sect where
  idx : Nat
  typ : Nat
  flags : Nat
  ofs : Nat
  size : Nat
  dest : Nat
  deriving DecidableEq, Repr

/-- An image that passed its checks: the registers and stores it sets, in a state of its own, and what the header says. -/
structure Cand where
  st : State
  /-- the bytes of the image -/
  img : Bytes
  version : Nat
  length : Nat
  confirmS : Nat
  autoRun : Bool
  twin : Bool
  /-- flows of FLOW sections with PROG = 1 (R358) -/
  progFlows : List Nat
  /-- contents of the TABLE and LOCAL sections (07_chisel_machine.md R150, R160) -/
  table : Bytes
  localSec : Bytes

/-- What a load comes to. -/
inductive LoadRes where
  | refused (e : LoadErr)
  | good (c : Cand)

/-! Steps 1 to 4: header, trailer, capabilities, section table. -/

def le (bs : Bytes) (o n : Nat) : Nat := leNat ((bs.drop o).take n)

/-- The header is one (R352 step 1). -/
def headerGood (h : Bytes) : Bool :=
  le h 0 4 == 0x494D5849 && le h 4 2 == 1 && decide (512 ≤ le h 12 4) && decide (le h 12 4 ≤ areaBytes) &&
    le h 19 1 == 0 && le h 22 1 / 4 == 0 && le h 23 1 == 0 && ((h.drop 68).take 188).all (· == 0) &&
    le h 8 4 != 0 && decide (le h 20 2 ≤ 3600)

/-- Sections of an image. -/
def sectsOf (img : Bytes) : List Sect :=
  (List.range (le img 6 2)).map fun i =>
    let e := img.drop (256 + 16 * i)
    ⟨i, le e 0 2, le e 2 2, le e 4 4, le e 8 4, le e 12 4⟩

/-- Bytes of one item of a section, and how many items its target takes (Table CFG-2). -/
def sectUnit (typ : Nat) : Option (Nat × Nat) :=
  match typ with
  | 0x01 => some (8, 0)
  | 0x02 => some (512, 8192)
  | 0x03 => some (32, 16384)
  | 0x10 => some (4, 65536)
  | 0x11 => some (4, 65536)
  | 0x12 => some (1, 49152)
  | 0x13 => some (8, 0)
  | 0x20 => some (16448, 64)
  | 0x21 => some (8, 8192)
  | 0x22 => some (128, 256)
  | _ => none

/-- A section is well placed: a known type, its FLAGS, bounds within the image, DEST and SIZE within the target (R352 step 4). -/
def sectGood (img : Bytes) (x : Sect) : Bool :=
  match sectUnit x.typ with
  | none => false
  | some (unit, limit) =>
    (x.flags == 0 || (x.typ == 2 && x.flags == 1)) && x.ofs % 8 == 0 && decide (256 + 16 * le img 6 2 ≤ x.ofs) &&
      decide (x.ofs + x.size ≤ img.length - 4) && x.size % unit == 0 &&
      (if limit = 0 ∨ (0x10 ≤ x.typ ∧ x.typ ≤ 0x12) then x.dest == 0 else true) &&
      (limit == 0 || decide (x.dest + x.size / unit ≤ limit))

/-- Two sections write the same location of a store (R351). -/
def sectsMeet (x y : Sect) : Bool :=
  match sectUnit x.typ with
  | some (unit, limit) =>
    x.typ == y.typ && limit != 0 && decide (x.dest < y.dest + y.size / unit) && decide (y.dest < x.dest + x.size / unit)
  | none => false

/-- The first section that is badly placed or meets an earlier one. -/
def badSect (img : Bytes) : List Sect → List Sect → Option Sect
  | _, [] => none
  | done, x :: r => if !sectGood img x || done.any (sectsMeet x) then some x else badSect img (x :: done) r

/-! Step 5: register pairs. -/

/-- A pair of a REG or CHSCFG section: section, image byte, BAR0 offset, value. -/
structure Pair where
  sect : Nat
  ofs : Nat
  chs : Bool
  reg : Nat
  val : Nat

def pairsOf (img : Bytes) (l : List Sect) : List Pair :=
  (l.filter (fun x => x.typ == 0x01 || x.typ == 0x13)).flatMap fun x =>
    (List.range (x.size / 8)).map fun i =>
      let o := x.ofs + 8 * i
      ⟨x.idx, o, x.typ == 0x13, le (img.drop o) 0 4, le (img.drop o) 4 4⟩

/-- A word of a fixed access-table entry (18_protection_integrity.md R370). -/
def fixedEntry (off : Nat) : Bool :=
  0xF1000 ≤ off && off < 0xF3000 &&
    ((off - 0xF1000) % 0x100 / 0x10 == 15 || ((off - 0xF1000) / 0x100 == 21 && (off - 0xF1000) % 0x100 / 0x10 == 14))

/-- A pair names an image register, sets no reserved bit, and stays in its block (R352 step 5). -/
def pairGood (p : Pair) : Bool :=
  match regRow p.reg with
  | some r => r.img != 0 && (p.val &&& r.img) == p.val && !fixedEntry p.reg && (!p.chs || p.reg / 0x10000 == 5)
  | none => false

/-- The first pair that is bad, or that another section has written (R351). -/
def badPair : List Pair → List Pair → Option Pair
  | _, [] => none
  | done, p :: r => if !pairGood p || done.any (fun q => q.reg == p.reg && q.sect != p.sect) then some p else badPair (p :: done) r

/-! The candidate: registers and stores as the image sets them (R351). -/

/-- Image fields of a register word return to their reset value; what an image only may write stays (R351, 03_time_base.md
R53). -/
def State.imageReset (s : State) : State :=
  s.forEach (s.regs.map (·.1)) fun s o =>
    match regRow o with
    | some r =>
      if r.img = 0 ∨ o = R_TIM_UTC ∨ o = R_TIM_LEAPAT then s
      else
        let v := (s.reg o).toNat
        s.setReg o (BitVec.ofNat 32 (v - (v &&& r.img) + ((regReset o).toNat &&& r.img)))
    | none => s

/-- Write one pair; a register of an absent unit takes nothing (00_scope.md R5). -/
def State.putPair (s : State) (p : Pair) : State :=
  match regRow p.reg with
  | some r =>
    if s.absentAt p.reg then s
    else
      let v := (s.reg p.reg).toNat
      s.setReg p.reg (BitVec.ofNat 32 (v - (v &&& r.img) + p.val))
  | none => s

/-- Little-endian words of a section. -/
def wordsOf : Nat → Bytes → List Nat
  | 0, _ => []
  | n + 1, bs => leNat (bs.take 4) :: wordsOf n (bs.drop 4)

/-- Put program words from index a on. -/
def putWords (m : SMap (BitVec 32)) (a : Nat) : List Nat → SMap (BitVec 32)
  | [] => m
  | w :: r => putWords (m.put 0 a (BitVec.ofNat 32 w)) (a + 1) r

/-- Write one section into the candidate's stores. -/
def State.putSect (s : State) (img : Bytes) (x : Sect) : State :=
  let bs := (img.drop x.ofs).take x.size
  match x.typ with
  | 0x02 => { s with flw := { s.flw with ctx := s.flw.ctx.setBytes 0 (512 * x.dest) bs } }
  | 0x03 => { s with flw := { s.flw with keys := s.flw.keys.setBytes 0 (32 * x.dest) bs } }
  | 0x10 => { s with chs := { s.chs with prog := putWords s.chs.prog 0 (wordsOf (x.size / 4) bs) } }
  | 0x11 => { s with chs := { s.chs with prog := putWords s.chs.prog s.CHS_PTABLE_TABLE_BASE (wordsOf (x.size / 4) bs) } }
  | 0x20 =>
    let n := x.size / 16448
    let m := s.rcl.coef.setBytes 0 (0x4000 * x.dest) (bs.take (16384 * n))
    { s with rcl := { s.rcl with coef := m.setBytes 0 (0x100000 + 64 * x.dest) (bs.drop (16384 * n)) } }
  | 0x21 => { s with egr := { s.egr with blocks := s.egr.blocks.setBytes 0 (8 * x.dest) bs } }
  | 0x22 => { s with egr := { s.egr with tmpl := s.egr.tmpl.setBytes 0 (128 * x.dest) bs } }
  | _ => s

/-- Bytes of the sections of one type. -/
def sectBytes (img : Bytes) (l : List Sect) (typ : Nat) : Bytes :=
  (l.filter (fun x => x.typ == typ)).flatMap fun x => (img.drop x.ofs).take x.size

/-- The candidate state of an image: its registers first, then its stores, each empty but for what the image names. -/
def State.candidate (s : State) (img : Bytes) : State :=
  let l := sectsOf img
  let t := (pairsOf img l).foldl State.putPair s.imageReset
  let t1 : State := { t with
    flw := { t.flw with ctx := [], keys := [] }, chs := { t.chs with prog := [] }, rcl := { t.rcl with coef := [] },
    egr := { t.egr with blocks := [], tmpl := [] } }
  l.foldl (fun s x => s.putSect img x) t1

/-! Step 6: the rules of the chapters. -/

/-- Serial ports (04_serial_ports.md R73, R76, R82, R88, 05_sentences_checks.md R95). -/
def State.serRefuses (s : State) : Bool :=
  s.allPorts.any fun n =>
    (s.SER_PCFG_ENABLE n == 1 && decide (s.SER_PCFG_DIV n < 2)) || decide (s.SER_PCFG_DBITS n < 5) || decide (9 < s.SER_PCFG_DBITS n) ||
      decide (4 < s.SER_PCFG_PAR n) || s.SER_PCFG_STOP n == 3 || decide (64 < s.SER_PCTL_HWM n) ||
      decide (s.SER_PCTL_HWM n ≤ s.SER_PCTL_LWM n) || (s.SER_PCFG_IR n != 0 && decide (s.SER_PCFG_DIV n < 80)) ||
      ((s.SNT_PCFG_MODE n == 1 || s.SNT_PCFG_MODE n == 2) && s.SER_PCFG_DBITS n != 8)

/-- Buckets of the key table that are listed. -/
def State.keyBuckets (s : State) : List Nat := ((s.flw.keys.map (fun x => x.1 / 32)).eraseDups).filter (fun j => bitOf (s.bucketEntry j) 15)

/-- Two equal keys (06_flows.md R121). -/
def State.keysRefuse (s : State) : Bool :=
  let l := s.keyBuckets
  l.any fun i => l.any fun j => i != j && (s.bucket i).take 30 == (s.bucket j).take 30

/-- Units that the image needs by what it holds, as GLB_CAP bits: banks of absent serial ports that listener groups name (06_flows.md
R131), and DDR where ALN_DEEPSIZE is not zero (09_alignment.md R188). -/
def State.unitsMissing (s : State) : Nat :=
  let named := fun (n : Nat) => (List.range 1024).any fun g => bitOf (s.groupWord g (n / 32)) (n % 32)
  b1 (s.ALN_DEEPSIZE_SIZE_MIB != 0 && !s.hasDdr) * 2 ^ 20 + sumList ((List.range 8).map fun b => b1 (!s.hasBank b && (bankPorts b).any named) * 2 ^ b)

/-- Chisel engines (07_chisel_machine.md R140, R143, R155, R159, Table CHS-13); sizes of the PROG and TABLE sections in
words. -/
def State.chsRefuses (s : State) (prog table : Nat) : Bool :=
  let ce := s.CHS_PCODE_CODE_END
  let tb := s.CHS_PTABLE_TABLE_BASE
  let timers := (List.range 16).filter (fun k => s.CHS_TIMER0_ENABLE k == 1)
  (List.range 8).any (fun p => s.CHS_PRIENG_ENGINES p == 0 || (decide (p < 3) && s.CHS_PRIENG_ENGINES p % 256 == 0)) ||
    s.CHS_CFG_RUN_LIMIT_US == 0 || decide (tb < ce) ||
    s.flowsUsed.any (fun f => decide (ce ≤ s.fEntryPc f)) ||
    (List.range 16).any (fun k => decide (ce ≤ s.CHS_TIMER0_ENTRY_PC k)) || timers.any (fun k => !s.fUsed (s.CHS_TIMER0_FLOW k)) ||
    decide (65536 < tb + s.CHS_LAYOUT_BASE + 32 * s.CHS_LAYOUT_COUNT) || decide (ce < prog) || decide (65536 - tb < table)

/-- Alignment domains (09_alignment.md R187, R206). -/
def State.alnRefuses (s : State) : Bool :=
  let lo := s.ALN_DEEPBASE_BASE_MIB * 2 ^ 20
  let hi := lo + s.ALN_DEEPSIZE_SIZE_MIB * 2 ^ 20
  let on := domList.filter (fun d => s.ALN_DCFG_ENABLE d == 1)
  on.any (fun d =>
    decide (8 < s.ALN_DCFG_RATE d) || s.ALN_DWMAX_W_MAX_MS d == 0 || decide (10000 < s.ALN_DWMAX_W_MAX_MS d) ||
      decide (s.ALN_DWMAX_W_MAX_MS d * 1000 < s.ALN_DWMIN_W_MIN_US d) || decide (s.ALN_DWMAX_W_MAX_MS d * 1000 < s.ALN_DMARGIN_M_US d) ||
      s.ALN_DTAIL_TAIL d == 0 || decide (10000 < s.ALN_DWMAX_H_LATE_MS d) ||
      decide (1024 * 1000 < s.rateOf d * (s.ALN_DWMAX_W_MAX_MS d + 1000))) ||
    (on != [] && s.ALN_DEEPSIZE_SIZE_MIB != 0 && (decide (s.cfg.ddrBytes < hi) || decide (2048 < s.ALN_DEEPSIZE_SIZE_MIB)))

/-- A bank with a non-zero MAGIC fails R218. -/
def State.bankRefused (s : State) (b : Nat) : Bool :=
  let p := s.bankP b
  let t := s.bankT b
  let gd := s.bankD b
  s.bankHdr b 0 4 != 0x4B4E4243 || decide (1 < s.bankHdr b 4 1) || p == 0 || decide (64 < p) || t == 0 || decide (64 < t) ||
    (if s.bankHdr b 4 1 = 0 then gd != (t - 1) * 2 ^ 15 else decide ((t - 1) * 2 ^ 16 < gd)) ||
    s.bankHdr b 7 1 != 0 || s.bankHdr b 18 2 != 0 || s.bankHdr b 48 16 != 0 ||
    (List.range 4096).any (fun i =>
      let c := s.rcl.coef.le 0 (0x4000 * b + 4 * i) 4
      if p ≤ i / 64 ∨ t ≤ i % 64 then c % 2 ^ 31 != 0 else !fFinite c)

/-- Banks that the image fills. -/
def State.banksFilled (s : State) : List Nat := (List.range 64).filter (fun b => s.bankHdr b 0 4 != 0)

/-- Rate conversion (10_rate_conversion.md R209, R218). -/
def State.rcvRefuses (s : State) : Bool :=
  let flows := s.flowsUsed.filter s.fLaneEn
  s.banksFilled.any s.bankRefused ||
    flows.any (fun f => s.RCV_LCFG_ENABLE (s.fLane f) == 0 || s.fDomain f != s.RCV_LCFG_DOMAIN (s.fLane f) || !s.fMember f ||
      s.fFormat f == 4 || s.fFormat f == 5) ||
    (List.range 16).any (fun l => decide (1024 < (s.served l).length) ||
      (s.RCV_LCFG_ENABLE l == 1 && (s.bankHdr (s.RCV_LCFG_BANK l) 0 4 == 0 || s.bankRefused (s.RCV_LCFG_BANK l) ||
        decide (s.RCV_LCFG_DEPTH l < s.bankT (s.RCV_LCFG_BANK l)))))

/-- A bank's COEF_CRC does not match (R218). -/
def State.coefRefuses (s : State) : Bool :=
  s.banksFilled.any fun b => checkOf 2 (s.rcl.coef.bytes 0 (0x4000 * b) 16384) != s.bankHdr b 24 4

/-- DDR region r of the image, as its first and last byte plus one; region 0 at its reset size is clipped (18_protection_integrity.md
R374). -/
def State.regionOf (s : State) (r : Nat) : Nat × Nat :=
  let lo := s.PRT_DDRREG0_BASE_MIB r * 2 ^ 20
  let hi := lo + s.PRT_DDRREG1_SIZE_MIB r * 2 ^ 20
  (lo, if s.PRT_DDRREG1_SIZE_MIB r = 0x4000 then min hi s.maqBase else hi)

/-- Two ranges share a byte. -/
def rangesMeet (a b : Nat × Nat) : Bool := decide (a.1 < b.2) && decide (b.1 < a.2) && decide (a.1 < a.2) && decide (b.1 < b.2)

/-- Ranges that together cover the bytes from `lo` to `hi`. -/
def covers (l : List (Nat × Nat)) (hi : Nat) : Nat → Nat → Bool
  | 0, lo => decide (hi ≤ lo)
  | fuel + 1, lo =>
    if hi ≤ lo then true
    else
      match l.find? (fun x => decide (x.1 ≤ lo) && decide (lo < x.2)) with
      | some x => covers l hi fuel x.2
      | none => false

/-- Ranges of DDR that M6 may write. -/
def State.writableByM6 (s : State) : List (Nat × Nat) :=
  (List.range 8).flatMap fun r =>
    let (lo, hi) := s.regionOf r
    (List.range 16).filterMap fun e =>
      let w0 := (s.reg (R_PRT_AT0 (24 + r) e)).toNat
      if bitOf w0 31 && bitOf w0 6 && bitOf w0 17 then
        some (max lo ((s.reg (R_PRT_AT1 (24 + r) e)).toNat * 64), min hi ((s.reg (R_PRT_AT2 (24 + r) e)).toNat * 64 + 64))
      else none

/-- DDR regions and the deep store (17_configuration.md R353, 18_protection_integrity.md R374). -/
def State.ddrRefuses (s : State) : Bool :=
  if !s.hasDdr then false
  else
    let rs := (List.range 8).map s.regionOf
    let areas := (s.maqBase, s.cfg.ddrBytes)
    let deep := (s.ALN_DEEPBASE_BASE_MIB * 2 ^ 20, (s.ALN_DEEPBASE_BASE_MIB + s.ALN_DEEPSIZE_SIZE_MIB) * 2 ^ 20)
    let cap := s.capGroups.map fun g =>
      (s.CAP_GBASE_BASE g * 4096, s.CAP_GBASE_BASE g * 4096 + s.CAP_GSIZE_RECORDS g * (s.capCfg g).slotBytes)
    let w := s.writableByM6
    (List.range 8).any (fun i => (List.range 8).any fun j => i != j && rangesMeet (rs.getD i (0, 0)) (rs.getD j (0, 0))) ||
      rs.any (fun r => rangesMeet r deep || rangesMeet r areas) || rangesMeet deep areas ||
      cap.any (fun c => rangesMeet c areas || !covers w c.2 (w.length + 1) c.1)

/-- PWR_WARNMAP (02_modes.md R419). -/
def State.pwrRefuses (s : State) : Bool :=
  [s.PWR_WARNMAP_CODE0, s.PWR_WARNMAP_CODE1, s.PWR_WARNMAP_CODE2, s.PWR_WARNMAP_CODE3].any (fun v => decide (4 < v))

/-- The first chapter rule that refuses the candidate: status and RESULT (R352 step 6), in the order of the chapters. -/
def State.chapterRefusal (s : State) (prog table : Nat) : Option (Nat × Nat) :=
  if s.pwrRefuses || s.serRefuses || s.CU_CFG_ENABLE 15 == 1 || s.keysRefuse then some (4, 0)
  else if s.unitsMissing ≠ 0 then some (10, s.unitsMissing)
  else if s.chsRefuses prog table || s.alnRefuses || s.rcvRefuses then some (4, 0)
  else if s.coefRefuses then some (7, 0)
  else if (s.hasAnalysis && s.anaRefuses) || (s.hasCapture && s.capRefuses s.cfg.ddrBytes) || s.egrRefuses || s.armRefuses then some (4, 0)
  else if s.PBR_CFG_TWIN = 1 ∧ !s.hasPeer then some (10, 2 ^ 23)
  else if s.ddrRefuses then some (4, 0)
  else none

/-! The whole check (R352). -/

/-- Check the image of a source. -/
def State.loadCheck (s : State) (src : ImgSrc) : LoadRes :=
  let h := s.srcRead src 0 256
  if !s.srcUp src || !headerGood h then .refused ⟨4, 0xFF, 0, 0⟩
  else
    let len := le h 12 4
    let img := s.srcRead src 0 len
    let req := le h 16 3
    let sects := sectsOf img
    if s.srcBad src len ∨ checkOf 2 (img.take (len - 4)) ≠ le img (len - 4) 4 then .refused ⟨7, 0xFF, len - 4, 0⟩
    else if req &&& s.units ≠ req then .refused ⟨10, 0xFF, 16, req - (req &&& s.units)⟩
    else if le h 6 2 = 0 ∨ 256 < le h 6 2 then .refused ⟨4, 0xFF, 6, 0⟩
    else
      match badSect img [] sects with
      | some x => .refused ⟨4, x.idx % 256, 256 + 16 * x.idx, 0⟩
      | none =>
        match badPair [] (pairsOf img sects) with
        | some p => .refused ⟨4, p.sect % 256, p.ofs, 0⟩
        | none =>
          let t := s.candidate img
          let prog := sectBytes img sects 0x10
          let table := sectBytes img sects 0x11
          match t.chapterRefusal (prog.length / 4) (table.length / 4) with
          | some (st, res) =>
            let n := (s.reg (R_CFG_GCNT 2)).toNat
            .refused ⟨st, (Config.refusedSection n).toNat, (Config.refusedOffset n).toNat, res⟩
          | none =>
            -- the bytes too, for the commit takes them again
            .good { st := t, img := img, version := le h 8 4, length := len, confirmS := if le h 20 2 = 0 then 60 else le h 20 2,
                    autoRun := bitOf (le h 22 1) 0, twin := bitOf (le h 22 1) 1,
                    progFlows := (sects.filter (fun x => x.typ == 2 && x.flags == 1)).flatMap fun x =>
                      (List.range (x.size / 512)).map (x.dest + ·)
                    table := table, localSec := sectBytes img sects 0x12 }

/-- CU15 verifies the trailer of an image whose header is one (05_sentences_checks.md R115, R352 step 2). -/
def State.seeTrailer (s : State) (src : ImgSrc) : State :=
  let h := s.srcRead src 0 256
  if !s.srcUp src || !headerGood h then s
  else
    let img := s.srcRead src 0 (le h 12 4)
    s.cuCompare 15 (checkOf 2 (img.take (img.length - 4))) (le img (img.length - 4) 4)

/-- The record of a refusal (R352). -/
def State.noteRefusal (s : State) (e : LoadErr) : State :=
  let s1 := (s.setReg R_CFG_LASTERR (BitVec.ofNat 32 (e.status + 256 * e.sect))).setReg R_CFG_LASTERROFS (BitVec.ofNat 32 e.ofs)
  (s1.count (R_CFG_GCNT 2)).cfgFlag 3

end Sys2Proof.Machine
end

