-- ==== Sys2Proof/Machine/Commit.lean ====
section
/-! DEFINITION. Commits (17_configuration.md R355 to R361): the instant, the writing of every target and its consequences in
each unit, the flows that are kept, confirm windows and rollbacks. -/

namespace Sys2Proof.Machine

/-! Flows (R134, R358). -/

/-- A sentence waits for dispatch as this flow's. -/
def QEntry.waitsFor (x : QEntry) (f : Nat) : Bool := x.flow == f && x.timer.isNone

/-- What the end of a flow does outside its context: its entries ahead return, its sentences not dispatched are dropped and
count CLEAR_DROP, its lane streams free their slots (R134, 07_chisel_machine.md R142, 10_rate_conversion.md R212). -/
def State.dropFlow (s : State) (f : Nat) : State :=
  let s1 := s.returnAhead fun _ r => r.entry.flow == f
  let n := ((List.range 8).flatMap s1.queue ++ s1.chs.blocked).countP (fun x => x.waitsFor f)
  let s2 := s1.forEach (List.range 8) fun s p => s.setQueue p ((s.queue p).filter (fun x => x.flow != f))
  let s3 := (s2.modChs fun c => { c with blocked := c.blocked.filter (fun x => x.flow != f) }).countN (R_FLW_GCNT 5) n
  let s4 := { s3 with flw := { s3.flw with silBase := s3.flw.silBase.put none f none } }
  s4.forEach ((List.range 16).filter (fun l => (s4.lane l).streams.any (fun x => x.1 == f))) fun s l => s.clearStream l f

/-- Remove the flow's key table entry (R134). -/
def State.removeKey (s : State) (f : Nat) : State :=
  let key := s.fbytes f 0 30
  s.forEach [(hashes key).1, (hashes key).2] fun s j =>
    if bitOf (s.bucketEntry j) 15 && s.bucketEntry j % 8192 == f && (s.bucket j).take 30 == key then
      s.setBucket j (List.replicate 32 0)
    else s

/-- The words of flow f's context hold good check bits. -/
def State.cleanFlow (s : State) (f : Nat) : State :=
  { s with eccBad := s.eccBad.filter (fun x => !(x.1 == 1 && x.2 / 64 == f)) }

/-- FLOW_CLEAR's action (R134). -/
def State.clearFlow (s : State) (f : Nat) : State :=
  (((s.dropFlow f).removeKey f).setFbytes f 0 (List.replicate 512 0)).cleanFlow f

/-- A context that the image defines anew starts NEW (R358, Table FLW-3). -/
def State.newFlow (s : State) (f : Nat) : State :=
  (((s.setFctx f 0x20 1 0).setFbytes f 0x40 (List.replicate 0xE0 0)).setFctx f 0x55 1 1).setFctx f 0x58 4 0xFFFFFFFF

/-- A flow that the image keeps: hardware fields, and program bytes unless its section has PROG = 1 (R358); one that joins a
domain starts NEW (09_alignment.md R206). -/
def State.keepFlow (s old : State) (f : Nat) (prog : Bool) : State :=
  let s1 := (s.setFctx f 0x20 1 (old.fctx f 0x20 1)).setFbytes f 0x40 (old.fbytes f 0x40 0xE0)
  let s2 := if prog then s1 else s1.setFbytes f 0x140 (old.fbytes f 0x140 0xC0)
  if s2.fMember f && (!old.fMember f || old.fDomain f != s2.fDomain f) then s2.fEnter f 0 1 else s2

/-- The image defines the same flow: number and key bytes 0 to 29 (R358). -/
def State.sameFlow (s old : State) (f : Nat) : Bool := s.fUsed f && old.fUsed f && s.fbytes f 0 30 == old.fbytes f 0 30

/-- An auto-learned flow of the running image that the image leaves room for goes on; any other is cleared (R358). -/
def State.restFlow (s old : State) (f : Nat) : State :=
  let key := old.fbytes f 0 30
  if bitOf (old.fEntry f) 14 && !s.flw.ctx.any (fun x => x.1 / 512 == f) && decide (s.FLW_AUTOPOOL_FIRST ≤ f) &&
      decide (f ≤ s.FLW_AUTOPOOL_LAST) then
    match s.freeBucket key with
    | some j => (s.setFbytes f 0 (old.fbytes f 0 512)).setBucket j (old.fbytes f 0 32)
    | none => s.dropFlow f
  else s.dropFlow f

/-- Flows at a commit (R358): s holds the image's contexts and keys, `old` the running ones. -/
def State.mergeFlows (s old : State) (prog : List Nat) : State :=
  let s1 := s.forEach s.flowsUsed fun s f => if s.sameFlow old f then s.keepFlow old f (prog.contains f) else (s.newFlow f).cleanFlow f
  s1.forEach (old.flowsUsed.filter (fun f => !s.sameFlow old f)) fun s f => s.restFlow old f

/-- A new TAIL applies to the pending sets from the commit on: L_q of the domain's flows follows it (09_alignment.md R192, R206). -/
def State.commitTails (s old : State) : State :=
  s.forEach (s.flowsUsed.filter (fun f => s.ALN_DTAIL_TAIL (s.fDomain f) != old.ALN_DTAIL_TAIL (s.fDomain f))) fun s f =>
    s.setFctx f 0x58 4 (s.quantile f)

/-! Units (R357 step 3). -/

/-- Ports: outside PLINTH each changed SER_PCFG goes to its port (04_serial_ports.md R87); in PLINTH SER_PCFG and SNT_PCFG
wait for the boundary. -/
def State.commitPorts (s old : State) : State :=
  if s.glb.mode = .plinth then
    s.forEach (s.allPorts.flatMap fun n => [R_SER_PCFG n, R_SNT_PCFG n]) fun s o =>
      let v := s.reg o
      (s.modCfg fun c => { c with held := c.held.put none o (if v = regReset o then none else some v) }).setReg o (old.reg o)
  else
    s.forEach (s.allPorts.filter (fun n => old.reg (R_SER_PCFG n) != s.reg (R_SER_PCFG n))) fun s n =>
      s.portConfig n (old.reg (R_SER_PCFG n))

/-- RTS pins whose polarity the image changes (04_serial_ports.md R82). -/
def State.commitRts (s old : State) : State :=
  s.forEach (s.allPorts.filter fun n => s.SER_PCTL2_RTS_POL n != old.SER_PCTL2_RTS_POL n) fun s n => s.showRts n

/-- A domain whose grid the image changes or which it disables: its pending sets are released with cause COMMIT under the old
settings, its late ring is cleared (09_alignment.md R206). -/
def State.endDomain (s new : State) (d : Nat) : State :=
  if (s.dom d).started && (new.ALN_DCFG_ENABLE d == 0 || new.ALN_DCFG_RATE d != s.ALN_DCFG_RATE d) then
    let s1 := s.flushDomain d 6
    s1.setDom d { s1.dom d with started := false }
  else s

/-- Enabled domains that have not started start (R196, R206). -/
def State.beginDomains (s : State) : State :=
  if s.live then s.forEach domList fun s d => if (s.dom d).started then s else s.startDomain d else s

/-- A commit changes what RST_COMMIT follows at lane l (10_rate_conversion.md Table RCV-4). -/
def State.laneChanged (s old : State) (l : Nat) : Bool :=
  let d := s.RCV_LCFG_DOMAIN l
  let x := old.lane l
  s.RCV_LCFG_BANK l != old.RCV_LCFG_BANK l || s.RCV_LCFG_DEPTH l != old.RCV_LCFG_DEPTH l || d != old.RCV_LCFG_DOMAIN l ||
    s.ALN_DCFG_RATE d != old.ALN_DCFG_RATE d ||
    x.banks.any (fun b => s.rcl.coef.bytes 0 (0x4000 * b) 0x4000 != old.rcl.coef.bytes 0 (0x4000 * b) 0x4000 ||
      s.rcl.coef.bytes 0 (0x100000 + 64 * b) 64 != old.rcl.coef.bytes 0 (0x100000 + 64 * b) 64)

/-- Lanes at a commit: reset under R221, else the streams of flows no longer served free their slots (R212). -/
def State.commitLanes (s old : State) : State :=
  s.forEach (List.range 16) fun s l =>
    if s.laneChanged old l then s.commitLane old l
    else
      let gone := ((s.lane l).streams.map (·.1)).filter (fun f => !((s.served l).contains f && s.RCV_LCFG_ENABLE l == 1))
      s.forEach gone fun s f => s.clearStream l f

/-- Discipline sources that leave the list (03_time_base.md R55). TCLK that runs from REF10 stays on it when the image clears REF10_EN, until
REF10 is lost (R61 does not say; DESIGN CHOICE, log entry 131). -/
def State.commitSources (s : State) : State :=
  if s.live then
    let s1 := if s.tim.source ≠ 0 ∧ !s.priorities.contains s.tim.source then s.loseSource (s.tim.source - 1) else s
    s1.listSources
  else s

/-- Chisel timers whose words change fire next at a later time (07_chisel_machine.md R143). -/
def State.commitTimers (s old : State) : State :=
  s.forEach ((List.range 16).filter fun k =>
    [R_CHS_TIMER0 k, R_CHS_TIMER1 k, R_CHS_TPHASE k].any (fun o => old.reg o != s.reg o)) fun s k =>
      s.modChs fun c => { c with timerLast := c.timerLast.put none k (s.timerDue k) }

/-- Network ports the image disables lose their lock (05_sentences_checks.md R105). -/
def State.commitNps (s : State) : State :=
  s.forEach ((List.range 4).filter (fun k => s.SNT_NPCFG_ENABLE k == 0)) State.npDown

/-- From SHED2 on, units that the image makes sheddable are shed, and those it no longer does return (02_modes.md R41, Table
MOD-5). -/
def State.commitShed (s : State) : State :=
  if s.glb.shed < 2 then s
  else
    let s1 := s.forEach (List.range 4) fun s k =>
      let want := s.hasNp k && s.SNT_NPCFG_ENABLE k == 1 && s.SNT_NPCFG_SHEDDABLE k == 1
      if want && !(s.np k).shed then s.shedNp k
      else if !want && (s.np k).shed then s.setNp k { s.np k with shed := false }
      else s
    let s2 := s1.forEach (List.range 8) fun s b =>
      let want := s.hasBank b && s.SER_BANK_SHEDDABLE b == 1
      if want && !(s.bank b).shed then s.shedBank b
      else if !want && (s.bank b).shed then
        let t := s.setBank b { s.bank b with shed := false }
        if (t.bank b).fault then t else t.bankReturn b
      else s
    s2.shedLinks

/-- The program store: the table area is rewritten when the TABLE section or its place changes, and kept with what runs wrote
into it otherwise; the local spaces when the LOCAL section changes (07_chisel_machine.md R150, R160). -/
def State.commitStores (s t : State) (c : Cand) : State :=
  let base := t.CHS_PTABLE_TABLE_BASE
  let keepTbl := c.table == s.cfg.tblSec && base == s.cfg.tblBase
  let prog := if keepTbl then t.chs.prog.filter (fun x => decide (x.1 < base)) ++ s.chs.prog.filter (fun x => decide (base ≤ x.1))
    else t.chs.prog
  let newLoc := c.localSec != s.cfg.locSec
  let loc := if newLoc then (List.range 24).foldl (fun (m : SMap (BitVec 8)) e => m.setBytes 0 (65536 * e) c.localSec) [] else s.chs.loc
  let u : State := { s with
    regs := t.regs, chs := { s.chs with prog := prog, loc := loc }, rcl := { s.rcl with coef := t.rcl.coef },
    egr := { s.egr with blocks := t.egr.blocks, tmpl := t.egr.tmpl }, flw := { s.flw with ctx := t.flw.ctx, keys := t.flw.keys }
    eccBad := s.eccBad.filter (fun x => !(x.1 == 2 || x.1 == 3 || x.1 == 6 || (x.1 == 4 && newLoc))) }
  u.modCfg fun g => { g with tblSec := c.table, tblBase := base, locSec := c.localSec }

/-- Every target is written from the image and the units follow (R357 steps 2 and 3). -/
def State.applyImage (s : State) (c : Cand) : State :=
  let s1 := (s.forEach domList fun s d => s.endDomain c.st d).deliver.finishSets
  let t := s1.candidate c.img
  let s2 := ((s1.commitStores t c).mergeFlows s1 c.progFlows).commitTails s1 |>.wakeLanes
  let s3 := (((((s2.commitPorts s1).commitRts s1).commitLanes s1).beginDomains.commitAnalysis s1).commitCapture s1).commitEgress s1
  let s4 := (((s3.commitLinks s1).commitTimers s1).commitNps.commitSources).commitShed
  let utc := s4.reg R_TIM_UTC != s1.reg R_TIM_UTC || s4.reg R_TIM_LEAPAT != s1.reg R_TIM_LEAPAT
  (if utc then s4.setUtc s4.TIM_UTC_OFS s4.TIM_UTC_VALID s4.TIM_UTC_PENDING s4.TIM_UTC_DIR (s4.reg R_TIM_LEAPAT).toNat else s4).deliver.quietPps

/-- The log entry of a commit, a rollback or a confirm: codes 1 to 3 (18_protection_integrity.md Table PRT-6). -/
def State.logCommit (s : State) (code new old : Nat) : State := s.logEvent 7 code [(new, 4), (old, 4)]

/-- The image is in force (R357, R359): versions, flags, counters, the confirm window, and dispatch again. No window opens for
a rollback, at boot, or where no image was running. An image that differs from the partner's sets VERSION_DIFF (16_peer_bridge_twin.md R349). -/
def State.putInForce (s : State) (c : Cand) (rollback boot : Bool) : State :=
  let old := s.cfg.runVer
  let first := boot || !s.cfg.committed
  let s1 := s.applyImage c
  let win := if rollback || first then none else some (s.cfg.instant + c.confirmS * 250000000)
  let s2 := s1.modCfg fun g => { g with
    committed := true, autoRun := c.autoRun, twinImage := c.twin, runVer := c.version, prevVer := old, confirmed := win.isNone,
    window := win, waiting := none, applying := false }
  let s3 := (s2.modChs fun h => { h with paused := false }).count (R_CFG_GCNT 0)
  let differs := s.pbr.up && s.pbr.peerVer != 0 && c.version != s.pbr.peerVer && c.version != old
  let s4 := (if rollback then ((s3.cfgFlag 0).count (R_CFG_GCNT 1)).cfgFlag 2 else s3.cfgFlag 0).when differs fun s => s.pbrFlag 12
  s4.logCommit (if rollback then 2 else 1) c.version old

/-! The instant (R356, R357, R361). -/

/-- A run is in progress. -/
def State.runsOpen (s : State) : Bool := s.chs.threads.any (fun x => x.2.run.isSome)

/-- CU15 sees the trailer at the instant where the image is read there: a rollback's, and one in host memory. A COMMIT on DDR verified it when it
started (R352, R355). -/
def State.seeAgain (s : State) (w : Waiting) : State := s.when (w.rollback || !s.hasDdr) fun s => s.seeTrailer w.src

/-- Once no run is in progress the image that waits is written and its command completes (R357). An image that no longer
passes is not written; where it was a rollback in a window, the device halts (R361). -/
def State.commitNow (s : State) (w : Waiting) : State :=
  match s.loadCheck w.src with
  | .good c =>
    let r := c.version + 2 ^ 32 * (w.at_ / nsPerSec % 2 ^ 32)
    ((s.seeAgain w).putInForce c w.rollback false).completeOpt w.cmd 0 (if w.rollback then c.version else r)
  | .refused e =>
    let s1 := ((s.seeAgain w).noteRefusal e).modCfg fun g => { g with waiting := none, applying := false }
    let s2 := s1.modChs fun h => { h with paused := false }
    if w.rollback && s.cfg.prevVer != 0 && !s.cfg.confirmed then s2.fatal else s2.completeOpt w.cmd e.status e.result

/-- The runs that a commit waits for have ended. -/
def State.commitReady (s : State) : State :=
  match s.cfg.waiting with
  | some w => if s.cfg.applying && !s.runsOpen then s.commitNow w else s
  | none => s

/-- Device time has reached the instant: dispatch pauses, entries ahead return, runs end (R357 step 1). -/
def State.commitInstant (s : State) : State :=
  match s.cfg.waiting with
  | none => s
  | some w =>
    if s.cfg.applying then s.commitReady
    else if s.now < w.at_ then s
    else
      let s1 := (s.modChs fun h => { h with paused := true }).returnAhead fun _ _ => true
      (s1.modCfg fun g => { g with applying := true, instant := s.tim.ticks }).commitReady

/-- Schedule a commit; CFG_COMMITSEC and CFG_COMMITNS show its instant. -/
def State.schedule (s : State) (w : Waiting) : State :=
  ((s.modCfg fun g => { g with waiting := some w }).setReg R_CFG_COMMITSEC (BitVec.ofNat 32 (w.at_ / nsPerSec))).setReg
    R_CFG_COMMITNS (BitVec.ofNat 32 (w.at_ % nsPerSec))

/-- The first whole TSEC at or after a time. -/
def wholeSec (t : Nat) : Nat := (t + nsPerSec - 1) / nsPerSec * nsPerSec

/-- A time is a grid point of every enabled domain (R355). -/
def State.onEveryGrid (s : State) (t : Nat) : Bool :=
  domList.all fun d => s.ALN_DCFG_ENABLE d == 0 || gridPt (s.rateOf d) (gridFloor (s.rateOf d) t) == t

/-- COMMIT starts under key k (R355): the conditions of the command, the checks of R352 on the Maquette, then the time. In PLINTH it takes
effect at once, and the time given is not judged. -/
def State.startCommit (s : State) (k : Nat) (at1 : Bool) (sec ns : Nat) : State :=
  let plinth := s.glb.mode == .plinth
  let t := sec * nsPerSec + ns
  if at1 && !plinth && (decide (nsPerSec ≤ ns) || decide (t < s.now + 100000000) || decide (s.now + 3600 * nsPerSec < t)) then
    s.complete k 4 0
  else if s.cfg.waiting.isSome || s.cfg.window.isSome then s.complete k 6 0
  else
    let s1 := s.seeTrailer .maquette
    match s.loadCheck .maquette with
    | .refused e => (s1.noteRefusal e).complete k e.status e.result
    | .good c =>
      if plinth then (s1.schedule { at_ := s.now, src := .maquette, cmd := some k }).commitInstant
      else if at1 && !(s.onEveryGrid t && c.st.onEveryGrid t) then s1.complete k 4 0
      else s1.schedule { at_ := if at1 then t else wholeSec (s.now + 100000000), src := .maquette, cmd := some k }

/-! Rollback and confirm (R359 to R361). -/

/-- The slot that is ACTIVE, if any, with its version. -/
def State.activeSlot (s : State) : Option (Nat × Nat) :=
  if s.cfg.slotA.state = 2 then some (0, s.cfg.slotA.version)
  else if s.cfg.slotB.state = 2 then some (1, s.cfg.slotB.version)
  else none

/-- A source passes its checks. -/
def State.passes (s : State) (src : ImgSrc) : Bool :=
  match s.loadCheck src with
  | .good _ => true
  | .refused _ => false

/-- Record what is wrong with a source that fails. -/
def State.tryLoad (s : State) (src : ImgSrc) : State :=
  match s.loadCheck src with
  | .good _ => s
  | .refused e => (s.seeTrailer src).noteRefusal e

/-- Reload the previous version: from the retained copy when it holds it, else from the active slot (R361). -/
def State.startRollback (s : State) (cmd : Option Nat) : State :=
  let v := s.cfg.prevVer
  let s0 := s.modCfg fun g => { g with window := none }
  let go := fun (s : State) (src : ImgSrc) => s.schedule { at_ := wholeSec s.now, src := src, rollback := true, cmd := cmd }
  let useRet := s.cfg.retVer == v && v != 0
  if useRet && s0.passes .retained then go s0 .retained
  else
    let s1 := if useRet then s0.tryLoad .retained else s0
    match s.activeSlot with
    | some (i, w) => if w = v ∧ s1.passes (.slot i) then go s1 (.slot i) else (if w = v then s1.tryLoad (.slot i) else s1).fatal
    | none => s1.fatal

/-- The confirm window has ended unconfirmed (CONFIRM_WINDOW_EXPIRY). -/
def State.windowExpiry (s : State) : State :=
  match s.cfg.window with
  | some t => if t ≤ s.tim.ticks then s.startRollback none else s
  | none => s

/-- ROLLBACK under key k (R361): in the window as its expiry does; outside one the active slot's version, where it differs from
the running one. -/
def State.rollbackCommand (s : State) (k : Nat) : State :=
  if s.cfg.window.isSome then s.startRollback (some k)
  else if s.cfg.waiting.isSome then s.complete k 6 0
  else
    match s.activeSlot with
    | some (i, v) =>
      if v = s.cfg.runVer then s.complete k 8 0
      else
        match s.loadCheck (.slot i) with
        | .good _ => s.schedule { at_ := wholeSec s.now, src := .slot i, rollback := true, cmd := some k }
        | .refused e => ((s.seeTrailer (.slot i)).noteRefusal e).complete k e.status e.result
    | none => s.complete k 8 0

end Sys2Proof.Machine
end

