-- ==== Sys2Proof/Machine/Boot.lean ====
section
/-! DEFINITION. Boot (17_configuration.md R362 to R366): the flash header and the boot map, the version journal, the load of the active slot,
and the writes of FLASH_WRITE. -/

namespace Sys2Proof.Machine

/-! The flash header (R363, Table CFG-4). -/

/-- Bytes of the header. -/
def State.flashHeader (s : State) : Bytes := s.flashRead 0 4096

/-- MAGIC and HDR_CRC hold. -/
def hdrGood (h : Bytes) : Bool := le h 0 4 == 0x48445849 && le h 4092 4 == checkOf 2 (h.take 4092)

/-- Bytes of DDR that a DDR_CFG gives, 0 when it is not used (20_electrical.md R400, Table ELE-5). -/
def ddrCapacity (c : Bytes) : Nat :=
  let b0 := le c 0 1
  let ranks := bits b0 0 2
  let width := bits b0 2 2
  let density := bits b0 4 3
  let ok := (ranks == 1 || ranks == 2) && decide (width ≤ 2) && decide (density ≤ 2) && !bitOf b0 7 &&
    decide (20 ≤ le c 1 1) && decide (le c 1 1 ≤ 24) && (le c 2 1 == 16 || le c 2 1 == 20) && decide (le c 14 1 < 4) &&
    ((c.drop 15).take 49).all (· == 0)
  let n := ranks * (64 / (4 * 2 ^ width)) * (2 ^ density * 2 ^ 29)
  if ok ∧ n ≤ 2 ^ 34 then n else 0

/-- A boot-map entry and why it is ignored: 0 kept, 1 rate above 115,200 baud, 2 absent bank, 3 no such destination (02_modes.md R43). -/
def State.bootEntry (s : State) (e : Bytes) : BootEntry × Nat :=
  let port := le e 0 1 % 128
  let div := le e 1 2
  let f := le e 3 1
  let st := le e 4 1
  let dest := le e 5 1 % 128
  let toQueue := bitOf (le e 5 1) 7
  let word := div + bits f 0 4 * 2 ^ 16 + bits f 4 3 * 2 ^ 20 + bits st 0 2 * 2 ^ 23 + 2 ^ 27 + b1 (bitOf f 7) * 2 ^ 28
  let why := if div < 80 then 1 else if !s.hasPort port then 2
    else if (if toQueue then decide (16 ≤ dest) else !s.hasPort dest) then 3 else 0
  (⟨port, BitVec.ofNat 32 word, bits st 2 2, toQueue, dest⟩, why)

/-- Put the boot map in use: ports enabled with its settings; ignored entries are logged (R43). -/
def State.readBootMap (s : State) (h : Bytes) : State :=
  s.forEach (List.range (min 96 (le h 7 1))) fun s i =>
    let e := (h.drop (128 + 8 * i)).take 8
    if !bitOf (le e 0 1) 7 then s
    else
      let (x, why) := s.bootEntry e
      if why ≠ 0 then s.logEvent 4 i [(why, 1)]
      else
        let s1 := (s.setReg (R_SER_PCFG x.port) x.ser).setFld (R_SNT_PCFG x.port) 0 2 x.mode
        let s2 := s1.setPort x.port { s1.port x.port with rxCfg := x.ser, txCfg := x.ser }
        (s2.portStart x.port).modCfg fun c => { c with boot := c.boot.filter (fun b => b.port != x.port) ++ [x] }

/-- Read the flash header: side, fail levels, geometry, DDR and the boot map; a bad one gives side A, every ALARM_OUT low, no
DDR and an empty map (R363, 02_modes.md R32). -/
def State.readHeader (s : State) : State :=
  let h := s.flashHeader
  if hdrGood h then
    let s1 := s.modGlb fun g => { g with side := bitOf (le h 4 1) 0, failLevels := BitVec.ofNat 4 (le h 5 1) }
    let s2 := s1.setReg R_CFG_FLASHGEO (BitVec.ofNat 32 (le h 8 2 + 2 ^ 16 * (le h 6 1 % 2)))
    (s2.modCfg fun c => { c with hdrOk := true, ddrBytes := if s.hasDdr then ddrCapacity ((h.drop 64).take 64) else 0 }).readBootMap h
  else (s.modGlb fun g => { g with side := false, failLevels := 0 }).cfgFlag 6

/-! The version journal (R364, Table CFG-6). -/

/-- Flash offset of journal record p, 0 to 127. -/
def journalAddr (p : Nat) : Nat := 0x1000 + 64 * p

/-- Record p is valid. -/
def State.recordGood (s : State) (p : Nat) : Bool :=
  let r := s.flashRead (journalAddr p) 64
  le r 0 4 == 0x4C4A5849 && le r 60 4 == checkOf 3 (r.take 60)

/-- The valid record with the highest SEQ. -/
def State.newestRecord (s : State) : Option Nat :=
  ((List.range 128).filter s.recordGood).foldl (fun (a : Option Nat) p =>
    match a with
    | none => some p
    | some q => if s.flashLe (journalAddr q + 4) 4 < s.flashLe (journalAddr p + 4) 4 then some p else some q) none

/-- Read the journal: the state of both slots. -/
def State.readJournal (s : State) : State :=
  match s.newestRecord with
  | none => s.cfgFlag 7
  | some p =>
    let r := s.flashRead (journalAddr p) 64
    let slot := fun (o st : Nat) => (⟨st, le r o 4, le r (o + 4) 4, le r (o + 8) 4⟩ : Slot)
    s.modCfg fun c => { c with
      jseq := le r 4 4, jpos := some p, slotA := slot 16 (le r 8 1 % 4), slotB := slot 28 (le r 8 1 / 4 % 4) }

/-- The bytes of a record that states both slots. -/
def State.recordBytes (s : State) (seq cause : Nat) : Bytes :=
  let slot := fun (x : Slot) => leBytes 4 x.version ++ leBytes 4 x.length ++ leBytes 4 x.crc
  let b := leBytes 4 0x4C4A5849 ++ leBytes 4 seq ++ [BitVec.ofNat 8 (s.cfg.slotA.state + 4 * s.cfg.slotB.state), BitVec.ofNat 8 cause] ++
    List.replicate 6 0 ++ slot s.cfg.slotA ++ slot s.cfg.slotB ++ List.replicate 20 0
  b ++ leBytes 4 (checkOf 3 b)

/-- The place of the next record, and whether its sector must be erased first: the current sector is full (R364). A place that is not erased,
as a record torn by a loss of power leaves it, is passed over. -/
def State.nextRecord (s : State) : Nat × Bool :=
  match s.cfg.jpos with
  | none => (0, s.flashRead 0x1000 4096 != List.replicate 4096 0xFF)
  | some p =>
    match ((List.range (63 - p % 64)).map (p + 1 + ·)).find? (fun q => s.flashRead (journalAddr q) 64 == List.replicate 64 0xFF) with
    | some q => (q, false)
    | none => ((p / 64 + 1) % 2 * 64, true)

/-- Write the next record, its place being erased. -/
def State.writeRecord (s : State) (cause : Nat) : State :=
  let p := s.nextRecord.1
  let n := s.cfg.jseq + 1
  ((s.flashProgram (journalAddr p) (s.recordBytes n cause)).modCfg fun c => { c with jseq := n, jpos := some p }).count (R_CFG_GCNT 4)

/-- Change slot i's entry. -/
def State.setSlot (s : State) (i : Nat) (x : Slot) : State :=
  s.modCfg fun c => if i = 0 then { c with slotA := x } else { c with slotB := x }

/-- Slot i's entry. -/
def State.slot (s : State) (i : Nat) : Slot := if i = 0 then s.cfg.slotA else s.cfg.slotB

/-! Boot (R366). -/

/-- DDR training starts: after a commit, or from DDR_CFG when no image loads. -/
def State.startTraining (s : State) : State := s.modCfg fun c => { c with training := c.ddrBytes != 0 }

/-- No slot can be loaded. -/
def State.noImage (s : State) : State := ((s.modCfg fun c => { c with booting := none }).cfgFlag 5).startTraining

/-- The slot whose journal entry has a state. -/
def State.slotIn (s : State) (st : Nat) : Option Nat :=
  if s.cfg.slotA.state = st then some 0 else if s.cfg.slotB.state = st then some 1 else none

/-- The internal reset sequence ends: header, journal and summaries are read and PLINTH is entered; the active slot is to be loaded
(R353, R363 to R366, 02_modes.md R32, R36, R43). The change from RESET to PLINTH sets PWR_FLAGS.MODE_CHANGE and writes a MODE entry like any
other; State.reset, where the flag reads its reset value 0, holds neither (DESIGN CHOICE, log entry 125). -/
def State.endSequence (s : State) : State :=
  let g := if s.glb.rebootPending then nextEpoch s.glb.epoch else s.glb.epoch
  let s1 := (s.modGlb fun x => { x with epoch := g, rebootPending := false, haltCause := 0 }).readHeader
  let s2 := s1.readJournal.bootSummaries
  let s3 := (s2.changeMode .plinth).followAlarms
  let s4 := match s3.cfg.hdrOk, s3.slotIn 2 with
    | true, some i => s3.modCfg fun c => { c with booting := some (i, false) }
    | _, _ => s3.noImage
  if s4.pwr.pfail then ((s4.pwrFlag 2).enterHalt 2).flushSummaries true else s4

/-- RESET_SEQUENCE_END. -/
def execResetSequenceEnd (s : State) : Res := .next <|
  if s.glb.mode = .reset ∧ s.glb.auxUp ∧ !s.glb.resetPin then s.endSequence else s

/-- The image read at boot has been checked: it is committed at once, or the next slot is read (BOOT_IMAGE_LOAD_DONE, R366). -/
def State.bootLoaded (s : State) : State :=
  match s.cfg.booting with
  | none => s
  | some (i, fallback) =>
    let src := ImgSrc.slot i
    let s0 := s.seeTrailer src
    match s.loadCheck src with
    | .good c =>
      let s1 := s0.modCfg fun g => { g with booting := none, bootSrc := if fallback then 2 else 1, instant := s.tim.ticks }
      ((if fallback then s1.cfgFlag 4 else s1).putInForce c false true).startTraining
    | .refused e =>
      let s1 := s0.noteRefusal e
      match fallback, s.slotIn 1 with
      | false, some j => s1.modCfg fun g => { g with booting := some (j, true) }
      | _, _ => s1.noImage

/-- BOOT_IMAGE_LOAD_DONE. -/
def execBootImageLoadDone (s : State) : Res := .next <| if s.glb.mode = .plinth then s.bootLoaded else s

/-! FLASH_WRITE (R365). -/

/-- Bytes leave for host memory, in writes of at most 256 bytes that cross no 4 KiB boundary (15_host_interface.md R326). -/
def State.hostWrites : Nat → State → Nat → Bytes → State
  | 0, s, _, _ => s
  | fuel + 1, s, a, bs =>
    if bs = [] then s
    else
      let n := min 256 (4096 - a % 4096)
      State.hostWrites fuel (s.emit (.hostWrite a (bs.take n))) (a + n) (bs.drop n)

/-- A source holds an image of a version: its header is one and names it. -/
def State.holdsVersion (s : State) (src : ImgSrc) (v : Nat) : Bool :=
  let h := s.srcRead src 0 256
  s.srcUp src && headerGood h && le h 8 4 == v

/-- Begin a stage that ends in a journal record. -/
def State.recordStage (s : State) (j : FlashJob) (stage : Nat) : State :=
  s.modCfg fun c => { c with job := some { j with stage := stage, idx := 0, erasing := s.nextRecord.2 } }

/-- FLASH_WRITE starts under key k: slot i, version v. -/
def State.startFlash (s : State) (k i v : Nat) : State :=
  let src := if s.holdsVersion .maquette v then some ImgSrc.maquette else if s.holdsVersion .retained v then some .retained else none
  match src with
  | none => s.complete k 4 0
  | some src =>
    let len := leNat (s.srcRead src 12 4)
    if s.slotBytes < len then s.complete k 8 0
    else if (s.slot i).state = 2 then s.complete k 3 0
    else s.recordStage { slot := i, version := v, src := src, length := len, crc := leNat (s.srcRead src (len - 4) 4), cmd := some k } 0

/-- The job ends; an activation that a CONFIRM asked for follows. -/
def State.endJob (s : State) : State :=
  let s1 := s.modCfg fun c => { c with job := none, toActivate := none }
  match s.cfg.toActivate with
  | some i => s1.recordStage { slot := i, version := (s.slot i).version, src := .slot i, length := 0, crc := 0 } 4
  | none => s1

/-- The job's command completes and the job ends. -/
def State.finishJob (s : State) (j : FlashJob) (status result : Nat) : State := s.endJob.completeOpt j.cmd status result

/-- Slot i becomes ACTIVE and the former active slot WRITTEN. -/
def State.activate (s : State) (i : Nat) : State :=
  let o := s.slot (1 - i)
  (s.setSlot (1 - i) { o with state := if o.state = 2 then 1 else o.state }).setSlot i { s.slot i with state := 2 }

/-- An erase or a page program of the running job completes (R364, R365). -/
def State.flashAdvance (s : State) (j : FlashJob) : State :=
  let put := fun (s : State) (x : FlashJob) => s.modCfg fun c => { c with job := some x }
  if j.erasing then
    put ((s.flashErase (journalAddr s.nextRecord.1)).count (R_CFG_GCNT 5)) { j with erasing := false }
  else
    match j.stage with
    | 0 => put ((s.setSlot j.slot {}).writeRecord 1) { j with stage := 1, idx := 0 }
    | 1 =>
      let s1 := (s.flashErase (s.slotBase j.slot + 4096 * j.idx)).count (R_CFG_GCNT 5)
      if s.slotBytes ≤ 4096 * (j.idx + 1) then put s1 { j with stage := 2, idx := 0 } else put s1 { j with idx := j.idx + 1 }
    | 2 =>
      let n := min 256 (j.length - 256 * j.idx)
      let s1 := s.flashProgram (s.slotBase j.slot + 256 * j.idx) (s.srcRead j.src (256 * j.idx) n)
      if 256 * (j.idx + 1) < j.length then put s1 { j with idx := j.idx + 1 }
      else
        let crc := checkOf 2 (s1.flashRead (s1.slotBase j.slot) (j.length - 4))
        let s2 := s1.cuCompare 15 crc j.crc
        if crc = j.crc then s2.recordStage j 3 else s2.finishJob j 7 0
    | 3 =>
      let s1 := ((s.setSlot j.slot ⟨1, j.version, j.length, j.crc⟩).writeRecord 2).count (R_CFG_GCNT 3)
      if s1.cfg.runVer = j.version ∧ s1.cfg.confirmed then s1.recordStage j 4 else s1.finishJob j 0 j.crc
    | _ => ((s.activate j.slot).writeRecord 3).finishJob j 0 j.crc

/-- FLASH_OPERATION_DONE: whether the flash took the erase or program. A failure sets FLASH_ERR and ends the command with
CHECK_FAIL. -/
def execFlashOperationDone (ok : Bool) (s : State) : Res := .next <|
  match s.cfg.job, ok with
  | some j, true => s.flashAdvance j
  | some j, false => (s.cfgFlag 8).finishJob j 7 0
  | none, _ => s

/-! CONFIRM (R360). -/

/-- CONFIRM of version v under key k: the Maquette is checked again and becomes the retained copy; a slot that holds the version
becomes ACTIVE (R365 step 5). -/
def State.confirm (s : State) (k v : Nat) : State :=
  let open' := match s.cfg.window with
    | some t => decide (s.tim.ticks < t)
    | none => false
  if !open' || v != s.cfg.runVer then s.complete k 4 0
  else
    let h := s.srcRead .maquette 0 256
    let len := le h 12 4
    let img := s.srcRead .maquette 0 len
    let s1 := s.seeTrailer .maquette
    if !s.holdsVersion .maquette v || s.srcBad .maquette len || checkOf 2 (img.take (len - 4)) != le img (len - 4) 4 then s1.complete k 7 0
    else
      let s2 := s1.areaWrite areaBytes img
      let base := ((s.reg R_CFG_HOSTRAMH).toNat * 2 ^ 32 + (s.reg R_CFG_HOSTRAML).toNat) / 2 ^ 27 * 2 ^ 27
      let s3 := if s.hasDdr then s2 else s2.hostWrites (len / 256 + 2) (base + areaBytes) img
      let s4 := s3.modCfg fun c => { c with retVer := v, retLen := len, window := none, confirmed := true }
      let s5 := ((s4.cfgFlag 1).logCommit 3 v s.cfg.prevVer).complete k 0 0
      match (List.range 2).find? (fun i => (s.slot i).state == 1 && (s.slot i).version == v) with
      | none => s5
      | some i =>
        if s5.cfg.job.isSome then s5.modCfg fun c => { c with toActivate := some i }
        else s5.recordStage { slot := i, version := v, src := .slot i, length := 0, crc := 0 } 4

end Sys2Proof.Machine
end

