-- ==== Sys2Proof/Machine/ChiselArith.lean ====
section
/-! DEFINITION. Chisel arithmetic and logic, opcodes 0x00 to 0x09, and the float unit (08_chisel_instructions.md R170,
R171, Tables CHX-2 and CHX-3). -/

namespace Sys2Proof.Machine

/-- An instruction of format CA, opcode 0x00: `g` sets the flags and the result from RA and RB. -/
def State.alu (s : State) (h : Thr) (x : OpsCA) (fn : Nat) (legal : Bool) (g : Thread → Nat → Nat → Thread) : State :=
  s.issueT h (wordCA 0 x fn) legal fun t => g t (t.gr x.ra.toNat) (t.gr x.rb.toNat)

/-- An instruction of format CA whose result `v` sets Z and N. -/
def State.aluZn (s : State) (h : Thr) (x : OpsCA) (fn : Nat) (legal : Bool) (v : Nat → Nat → Nat) : State :=
  s.alu h x fn legal fun t a b => (t.zn (v a b)).setG x.rd.toNat (v a b)

/-- An addition of RA, an operand and a carry. -/
def Thread.addTo (t : Thread) (rd a b c : Nat) : Thread := (t.addFlags a b c).setG rd (sum32 a b c)

/-- Shift left by n: result and last bit out. -/
def shlPair (a n : Nat) : Nat × Bool := (a * 2 ^ n % 2 ^ 32, bitOf a (32 - n))
/-- Shift right by n. -/
def shrPair (a n : Nat) : Nat × Bool := (a / 2 ^ n, bitOf a (n - 1))
/-- Arithmetic shift right by n. -/
def sarPair (a n : Nat) : Nat × Bool := (wrapI 32 (sxt 32 a / (2 ^ n : Nat)), bitOf a (n - 1))

/-- A shift by a count 0 to 31 (R170). -/
def Thread.shift (t : Thread) (rd : Nat) (p : Nat × Bool) (n : Nat) : Thread := ((t.zn p.1).shiftC n p.2).setG rd p.1

/-- Leading zeros of 32 bits; 32 for zero (R170). -/
def clz32 (a : Nat) : Nat := if a = 0 then 32 else 31 - Nat.log2 a

/-- Byte reversal of 32 bits. -/
def bswap32 (a : Nat) : Nat := beNat (leBytes 4 a)

/-- Signed 32-bit order. -/
def slt (a b : Nat) : Bool := decide (sxt 32 a < sxt 32 b)

def execAdd (h : Thr) (x : OpsCA) (s : State) : Res := .next <| s.alu h x 0 true fun t a b => t.addTo x.rd.toNat a b 0
def execSub (h : Thr) (x : OpsCA) (s : State) : Res := .next <| s.alu h x 1 true fun t a b => t.addTo x.rd.toNat a (not32 b) 1
def execAnd (h : Thr) (x : OpsCA) (s : State) : Res := .next <| s.aluZn h x 2 true fun a b => a &&& b
def execOr (h : Thr) (x : OpsCA) (s : State) : Res := .next <| s.aluZn h x 3 true fun a b => a ||| b
def execXor (h : Thr) (x : OpsCA) (s : State) : Res := .next <| s.aluZn h x 4 true fun a b => a ^^^ b
def execAndn (h : Thr) (x : OpsCA) (s : State) : Res := .next <| s.aluZn h x 18 true fun a b => a &&& not32 b
def execShl (h : Thr) (x : OpsCA) (s : State) : Res := .next <|
  s.alu h x 5 true fun t a b => t.shift x.rd.toNat (shlPair a (b % 32)) (b % 32)
def execShr (h : Thr) (x : OpsCA) (s : State) : Res := .next <|
  s.alu h x 6 true fun t a b => t.shift x.rd.toNat (shrPair a (b % 32)) (b % 32)
def execSar (h : Thr) (x : OpsCA) (s : State) : Res := .next <|
  s.alu h x 7 true fun t a b => t.shift x.rd.toNat (sarPair a (b % 32)) (b % 32)
def execMul (h : Thr) (x : OpsCA) (s : State) : Res := .next <| s.aluZn h x 8 true fun a b => a * b % 2 ^ 32
def execMulhu (h : Thr) (x : OpsCA) (s : State) : Res := .next <| s.aluZn h x 9 true fun a b => a * b / 2 ^ 32
def execMulhs (h : Thr) (x : OpsCA) (s : State) : Res := .next <|
  s.aluZn h x 10 true fun a b => wrapI 32 (sxt 32 a * sxt 32 b / (2 ^ 32 : Nat))
/-- cmp: RD must be 0 (Table CHX-2). -/
def execCmp (h : Thr) (x : OpsCA) (s : State) : Res := .next <|
  s.alu h x 11 (x.rd == 0) fun t a b => t.addFlags a (not32 b) 1
def execMin (h : Thr) (x : OpsCA) (s : State) : Res := .next <| s.aluZn h x 12 true fun a b => if slt b a then b else a
def execMax (h : Thr) (x : OpsCA) (s : State) : Res := .next <| s.aluZn h x 13 true fun a b => if slt a b then b else a
def execMinu (h : Thr) (x : OpsCA) (s : State) : Res := .next <| s.aluZn h x 14 true fun a b => min a b
def execMaxu (h : Thr) (x : OpsCA) (s : State) : Res := .next <| s.aluZn h x 15 true fun a b => max a b
def execAdc (h : Thr) (x : OpsCA) (s : State) : Res := .next <| s.alu h x 16 true fun t a b => t.addTo x.rd.toNat a b (b1 t.c)
def execSbc (h : Thr) (x : OpsCA) (s : State) : Res := .next <|
  s.alu h x 17 true fun t a b => t.addTo x.rd.toNat a (not32 b) (b1 t.c)
/-- clz: RB must be 0. -/
def execClz (h : Thr) (x : OpsCA) (s : State) : Res := .next <| s.aluZn h x 19 (x.rb == 0) fun a _ => clz32 a
/-- bswap: RB must be 0. -/
def execBswap (h : Thr) (x : OpsCA) (s : State) : Res := .next <| s.aluZn h x 20 (x.rb == 0) fun a _ => bswap32 a

/-- Sign-extended 16-bit immediate as 32 bits (R170). -/
def imm32 (i : BitVec 16) : Nat := wrapI 32 (sxt 16 i.toNat)

/-- An instruction of format CB: `g` sets the flags and the result from RA. -/
def State.aluI (s : State) (h : Thr) (op fn : Nat) (x : OpsCB) (legal : Bool) (g : Thread → Nat → Thread) : State :=
  s.issueT h (wordCB op x fn) legal fun t => g t (t.gr x.ra.toNat)

/-- addi: FN is reserved (Table CHX-2). -/
def execAddi (h : Thr) (x : OpsCB) (fn : BitVec 2) (s : State) : Res := .next <|
  s.aluI h 0x01 fn.toNat x (fn == 0) fun t a => t.addTo x.rd.toNat a (imm32 x.imm) 0
/-- A logic operation with a zero-extended immediate. -/
def State.logicI (s : State) (h : Thr) (op : Nat) (x : OpsCB) (fn : BitVec 2) (f : Nat → Nat → Nat) : State :=
  s.aluI h op fn.toNat x (fn == 0) fun t a => (t.zn (f a x.imm.toNat)).setG x.rd.toNat (f a x.imm.toNat)
def execAndi (h : Thr) (x : OpsCB) (fn : BitVec 2) (s : State) : Res := .next <| s.logicI h 0x02 x fn fun a b => a &&& b
def execOri (h : Thr) (x : OpsCB) (fn : BitVec 2) (s : State) : Res := .next <| s.logicI h 0x03 x fn fun a b => a ||| b
def execXori (h : Thr) (x : OpsCB) (fn : BitVec 2) (s : State) : Res := .next <| s.logicI h 0x04 x fn fun a b => a ^^^ b
/-- A shift by IMM16[4:0]; IMM16[15:5] must be 0. -/
def State.shiftI (s : State) (h : Thr) (fn : Nat) (x : OpsCB) (f : Nat → Nat → Nat × Bool) : State :=
  s.aluI h 0x05 fn x (decide (x.imm.toNat < 32)) fun t a => t.shift x.rd.toNat (f a (x.imm.toNat % 32)) (x.imm.toNat % 32)
def execShli (h : Thr) (x : OpsCB) (s : State) : Res := .next <| s.shiftI h 0 x shlPair
def execShri (h : Thr) (x : OpsCB) (s : State) : Res := .next <| s.shiftI h 1 x shrPair
def execSari (h : Thr) (x : OpsCB) (s : State) : Res := .next <| s.shiftI h 2 x sarPair
/-- cmpi: sign-extended immediate; RD must be 0. -/
def execCmpi (h : Thr) (x : OpsCB) (s : State) : Res := .next <|
  s.aluI h 0x06 0 x (x.rd == 0) fun t a => t.addFlags a (not32 (imm32 x.imm)) 1
/-- cmpi.u: zero-extended immediate; RD must be 0. -/
def execCmpiU (h : Thr) (x : OpsCB) (s : State) : Res := .next <|
  s.aluI h 0x06 1 x (x.rd == 0) fun t a => t.addFlags a (not32 x.imm.toNat) 1
/-- lui: RA must be 0. -/
def execLui (h : Thr) (x : OpsCB) (fn : BitVec 2) (s : State) : Res := .next <|
  s.aluI h 0x07 fn.toNat x (fn == 0 && x.ra == 0) fun t _ => t.setG x.rd.toNat (x.imm.toNat * 2 ^ 16)
/-- movc: FN is the condition; 15 and above are illegal. -/
def execMovc (h : Thr) (x : OpsCA) (fn : BitVec 14) (s : State) : Res := .next <|
  s.issueT h (wordCA 0x09 x fn.toNat) (decide (fn.toNat < 15)) fun t =>
    t.setG x.rd.toNat (if t.cond fn.toNat then t.gr x.ra.toNat else t.gr x.rb.toNat)

/-- A float instruction (Table CHX-3): the result from RD, RA and RB. -/
def State.fpu (s : State) (h : Thr) (x : OpsCA) (fn : Nat) (legal : Bool) (v : Nat → Nat → Nat → Nat) : State :=
  s.issueT h (wordCA 0x08 x fn) legal fun t =>
    t.setG x.rd.toNat (v (t.gr x.rd.toNat) (t.gr x.ra.toNat) (t.gr x.rb.toNat))
def execFadd (h : Thr) (x : OpsCA) (s : State) : Res := .next <| s.fpu h x 0 true fun _ a b => fAdd a b
def execFsub (h : Thr) (x : OpsCA) (s : State) : Res := .next <| s.fpu h x 1 true fun _ a b => fSub a b
def execFmul (h : Thr) (x : OpsCA) (s : State) : Res := .next <| s.fpu h x 2 true fun _ a b => fMul a b
def execFmac (h : Thr) (x : OpsCA) (s : State) : Res := .next <| s.fpu h x 3 true fun d a b => fMac a b d
/-- fcmp: RD must be 0. -/
def execFcmp (h : Thr) (x : OpsCA) (s : State) : Res := .next <|
  s.issueT h (wordCA 0x08 x 4) (x.rd == 0) fun t =>
    let p := fCompare (t.gr x.ra.toNat) (t.gr x.rb.toNat)
    { t with z := p.1, n := p.2.1, c := p.2.2.1, v := p.2.2.2 }
def execFmin (h : Thr) (x : OpsCA) (s : State) : Res := .next <|
  s.fpu h x 5 true fun _ a b => fMinMax false (Config.zeroPick false (BitVec.ofNat 32 a) (BitVec.ofNat 32 b)) a b
def execFmax (h : Thr) (x : OpsCA) (s : State) : Res := .next <|
  s.fpu h x 6 true fun _ a b => fMinMax true (Config.zeroPick true (BitVec.ofNat 32 a) (BitVec.ofNat 32 b)) a b
/-- i2f, u2f, f2i, fabs, fneg: RB must be 0. -/
def execI2f (h : Thr) (x : OpsCA) (s : State) : Res := .next <|
  s.fpu h x 7 (x.rb == 0) fun _ a _ => fOfInt (sxt 32 a) 0 false
def execU2f (h : Thr) (x : OpsCA) (s : State) : Res := .next <| s.fpu h x 8 (x.rb == 0) fun _ a _ => fOfInt a 0 false
def execF2i (h : Thr) (x : OpsCA) (s : State) : Res := .next <| s.fpu h x 9 (x.rb == 0) fun _ a _ => fToInt a
def execFabs (h : Thr) (x : OpsCA) (s : State) : Res := .next <| s.fpu h x 10 (x.rb == 0) fun _ a _ => a % 2 ^ 31
def execFneg (h : Thr) (x : OpsCA) (s : State) : Res := .next <| s.fpu h x 11 (x.rb == 0) fun _ a _ => fNegate a

end Sys2Proof.Machine
end

