-- ==== Sys2Proof/Machine/ChiselField.lean ====
section
/-! DEFINITION. Chisel field, cursor, parse, format and check instructions (08_chisel_instructions.md R173, R174, R176,
Tables CHX-5, CHX-6 and CHX-8). -/

namespace Sys2Proof.Machine

/-- WIDTH 1 to 32, OFS + WIDTH at most 32, OFS[7:5] zero. -/
def fieldOk (x : OpsCC) : Bool :=
  decide (1 ≤ x.width.toNat) && decide (x.ofs.toNat + x.width.toNat ≤ 32) && decide (x.ofs.toNat < 32)

/-- A field instruction of opcode 0x18: the result sets Z and N. -/
def State.fieldI (s : State) (h : Thr) (fn : Nat) (x : OpsCC) (v : Nat → Nat → Nat) : State :=
  s.issueT h (wordCC 0x18 x fn) (fieldOk x) fun t =>
    let r := v (t.gr x.rd.toNat) (t.gr x.ra.toNat)
    (t.zn r).setG x.rd.toNat r

def execFextU (h : Thr) (x : OpsCC) (s : State) : Res := .next <|
  s.fieldI h 0 x fun _ a => bits a x.ofs.toNat x.width.toNat
def execFextS (h : Thr) (x : OpsCC) (s : State) : Res := .next <|
  s.fieldI h 1 x fun _ a => wrapI 32 (sxt x.width.toNat (bits a x.ofs.toNat x.width.toNat))
def execFins (h : Thr) (x : OpsCC) (s : State) : Res := .next <|
  s.fieldI h 2 x fun d a =>
    d - bits d x.ofs.toNat x.width.toNat * 2 ^ x.ofs.toNat + a % 2 ^ x.width.toNat * 2 ^ x.ofs.toNat

/-- The cursor moves to a place 0 to 4,096, or SENT_RANGE (R173). -/
def moveFc (s : State) (t : Thread) (p : Int) : Eff :=
  if p < 0 ∨ 4096 < p then .fault s 3 (wrapI 32 p) 0 else .next s { t with fc := p.toNat }

def execFset (h : Thr) (x : OpsCC) (s : State) : Res := .next <|
  s.issue h (wordCC 0x19 x 0) (x.width == 0) fun s t _ => moveFc s t (sxt 32 (t.gr x.ra.toNat) + x.ofs.toNat)
def execFadv (h : Thr) (x : OpsCC) (s : State) : Res := .next <|
  s.issue h (wordCC 0x19 x 1) (x.width == 0) fun s t _ =>
    moveFc s t ((t.fc : Int) + sxt 32 (t.gr x.ra.toNat) + x.ofs.toNat)

/-- scan for the byte OFS from FC (Table CHX-5). -/
def execScan (h : Thr) (x : OpsCC) (s : State) : Res := .next <|
  s.issue h (wordCC 0x19 x 2) (x.width == 0) fun s t r =>
    match (r.sent.drop t.fc).findIdx? (fun b => b.toNat == x.ofs.toNat) with
    | some i => .next s ({ t with fc := t.fc + i + 1, z := false, n := false }.setG x.rd.toNat i)
    | none =>
      .next s ({ t with fc := r.sent.length, z := true, n := false }.setG x.rd.toNat
        (wrapI 32 ((r.sent.length : Int) - t.fc)))

def execFget (h : Thr) (x : OpsCC) (s : State) : Res := .next <|
  s.issueT h (wordCC 0x19 x 3) (x.width == 0 && x.ofs == 0) fun t => t.setG x.rd.toNat t.fc

/-- The longest length a run may give its sentence: the free room of its last cell plus 512 bytes, at most 4,096 (R148). -/
def Run.cap (r : Run) : Nat := min 4096 ((r.entry.sent.data.length + 255) / 256 * 256 + 512)

/-- setlen: RB and RD must be 0 (Table CHX-5). -/
def execSetlen (h : Thr) (x : OpsCA) (s : State) : Res := .next <|
  s.issue h (wordCA 0x1D x 0) (x.rb == 0 && x.rd == 0) fun s t r =>
    let n := t.gr x.ra.toNat
    if r.cap < n then .fault s 3 n 0
    else .next s ((t.modRun fun r => { r with sent := padTo n r.sent }).setG 1 n)

/-- getlen: RA and RB must be 0. -/
def execGetlen (h : Thr) (x : OpsCA) (s : State) : Res := .next <|
  s.issue h (wordCA 0x1D x 1) (x.ra == 0 && x.rb == 0) fun s t r => .next s (t.setG x.rd.toNat r.sent.length)

/-! Parsing (R174). -/

/-- The characters a parse may read: from FC, at most OFS. -/
def window (r : Run) (t : Thread) (x : OpsCC) : List Nat := ((r.sent.drop t.fc).take x.ofs.toNat).map (·.toNat)

def isDigit (c : Nat) : Bool := decide (48 ≤ c ∧ c ≤ 57)

/-- A run of digits and what follows it. -/
def spanDigits (l : List Nat) : List Nat × List Nat := (l.takeWhile isDigit, l.dropWhile isDigit)

/-- Value of decimal digits. -/
def decDigits (l : List Nat) : Nat := l.foldl (fun a c => 10 * a + (c - 48)) 0

/-- A sign: negative, characters consumed, the rest. -/
def spanSign (l : List Nat) : Bool × Nat × List Nat :=
  match l with
  | 43 :: r => (false, 1, r)
  | 45 :: r => (true, 1, r)
  | _ => (false, 0, l)

/-- A number as read: negative, digits before and after the point, characters consumed, the rest. -/
structure Num where
  neg : Bool
  whole : List Nat
  frac : List Nat
  used : Nat
  rest : List Nat

/-- Optional sign, digits, and with `pt` an optional point and digits. -/
def readNum (sign pt : Bool) (l : List Nat) : Num :=
  let sg := if sign then spanSign l else (false, 0, l)
  let d := spanDigits sg.2.2
  match pt, d.2 with
  | true, 46 :: r =>
    let f := spanDigits r
    ⟨sg.1, d.1, f.1, sg.2.1 + d.1.length + 1 + f.1.length, f.2⟩
  | _, _ => ⟨sg.1, d.1, [], sg.2.1 + d.1.length, d.2⟩

/-- No digit was consumed: result 0, FC unchanged (R174). -/
def Thread.noNumber (t : Thread) (rd : Nat) : Thread :=
  { t with z := true, n := false, c := false, v := true }.setG rd 0

/-- A parsed integer, saturated to a range. -/
def Thread.parsed (t : Thread) (rd used : Nat) (v lo hi : Int) : Thread :=
  let w := max lo (min hi v)
  { t with fc := t.fc + used, z := decide (w = 0), n := decide (w < 0), c := decide (w ≠ v), v := false }.setG rd (wrapI 32 w)

/-- An integer parse of opcode 0x1A. -/
def State.parseI (s : State) (h : Thr) (op fn : Nat) (x : OpsCC) (legal : Bool) (f : Thread → List Nat → Thread) : State :=
  s.issue h (wordCC op x fn) legal fun s t r => .next s (f t (window r t x))

def execPdecU (h : Thr) (x : OpsCC) (s : State) : Res := .next <|
  s.parseI h 0x1A 0 x (x.ofs != 0 && x.width == 0) fun t l =>
    let n := readNum false false l
    if n.whole = [] then t.noNumber x.rd.toNat else t.parsed x.rd.toNat n.used (decDigits n.whole) 0 0xFFFFFFFF

/-- A value with its sign. -/
def signed (neg : Bool) (v : Nat) : Int := if neg then -(v : Int) else v

def execPdecS (h : Thr) (x : OpsCC) (s : State) : Res := .next <|
  s.parseI h 0x1A 1 x (x.ofs != 0 && x.width == 0) fun t l =>
    let n := readNum true false l
    if n.whole = [] then t.noNumber x.rd.toNat
    else t.parsed x.rd.toNat n.used (signed n.neg (decDigits n.whole)) (-0x80000000) 0x7FFFFFFF

/-- pfix: value × 10^WIDTH; further digits are consumed and truncated, missing ones count as 0. -/
def execPfix (h : Thr) (x : OpsCC) (s : State) : Res := .next <|
  s.parseI h 0x1A 2 x (x.ofs != 0 && decide (x.width.toNat ≤ 9)) fun t l =>
    let n := readNum true true l
    let w := x.width.toNat
    if n.whole = [] ∧ n.frac = [] then t.noNumber x.rd.toNat
    else
      let f := n.frac.take w
      t.parsed x.rd.toNat n.used
        (signed n.neg (decDigits n.whole * 10 ^ w + decDigits f * 10 ^ (w - f.length))) (-0x80000000) 0x7FFFFFFF

/-- A decimal exponent: its value and the characters consumed; an E without an exponent digit is not consumed. -/
def readExp (l : List Nat) : Int × Nat :=
  match l with
  | c :: r =>
    if c = 69 ∨ c = 101 then
      let sg := spanSign r
      let d := spanDigits sg.2.2
      if d.1 = [] then (0, 0) else (signed sg.1 (decDigits d.1), 1 + sg.2.1 + d.1.length)
    else (0, 0)
  | [] => (0, 0)

/-- Binary32 nearest to m × 10^e; beyond 10^60 and below 10^-400 of at most 255 digits the result is already decided. -/
def fOfDec (neg : Bool) (m : Nat) (e : Int) : Nat :=
  let e' := max (-400) (min 60 e)
  if e' ≥ 0 then fRound neg (m * 10 ^ e'.toNat) 1 else fRound neg m (10 ^ (-e').toNat)

def execPflt (h : Thr) (x : OpsCC) (s : State) : Res := .next <|
  s.parseI h 0x1A 3 x (x.ofs != 0 && x.width == 0) fun t l =>
    let n := readNum true true l
    if n.whole = [] ∧ n.frac = [] then t.noNumber x.rd.toNat
    else
      let e := readExp n.rest
      let v := fOfDec n.neg (decDigits (n.whole ++ n.frac)) (e.1 - n.frac.length)
      { t with fc := t.fc + n.used + e.2, z := fIsZero v, n := fNeg v && !fIsZero v, c := fIsInf v, v := false }.setG
        x.rd.toNat v

/-- phex: at most 8 digits. -/
def execPhex (h : Thr) (x : OpsCC) (s : State) : Res := .next <|
  s.parseI h 0x1B 0 x (x.ofs != 0 && decide (x.ofs.toNat ≤ 8) && x.width == 0) fun t l =>
    let d := l.takeWhile (fun c => (hexVal c).isSome)
    if d = [] then t.noNumber x.rd.toNat
    else t.parsed x.rd.toNat d.length (d.foldl (fun a c => 16 * a + (hexVal c).getD 0) 0 : Nat) 0 0xFFFFFFFF

/-- The n low-order digits of v in a base, most significant first. -/
def digitsOf (base : Nat) : Nat → Nat → List Nat
  | 0, _ => []
  | n + 1, v => digitsOf base n (v / base) ++ [hexChar (v % base)]

/-- A format instruction: writes the characters at FC, or SENT_RANGE (R174). -/
def State.formatI (s : State) (h : Thr) (fn : Nat) (x : OpsCC) (legal : Bool) (chars : Nat → List Nat) (cOf : Nat → Bool) :
    State :=
  s.issue h (wordCC 0x1C x fn) (legal && x.ofs != 0 && x.rd == 0) fun s t r =>
    if r.sent.length < t.fc + x.ofs.toNat then .fault s 3 t.fc 0
    else
      let v := t.gr x.ra.toNat
      .next s ({ t with fc := t.fc + x.ofs.toNat, z := v == 0, c := cOf v }.modRun fun r =>
        { r with sent := splice r.sent t.fc ((chars v).map (BitVec.ofNat 8)) })

def execFmtU (h : Thr) (x : OpsCC) (s : State) : Res := .next <|
  s.formatI h 0 x true (fun v => digitsOf 10 x.ofs.toNat v) fun v => decide (10 ^ x.ofs.toNat ≤ v)
/-- fmt.s: a negative value has − in place of its first pad character; one that leaves none is written as its low-order digits. -/
def execFmtS (h : Thr) (x : OpsCC) (s : State) : Res := .next <|
  let w := x.ofs.toNat
  s.formatI h 1 x true
    (fun v =>
      if bitOf v 31 then
        (if 2 ^ 32 - v < 10 ^ (w - 1) then 45 :: digitsOf 10 (w - 1) (2 ^ 32 - v) else digitsOf 10 w (2 ^ 32 - v))
      else digitsOf 10 w v)
    fun v => if bitOf v 31 then decide (10 ^ (w - 1) ≤ 2 ^ 32 - v) else decide (10 ^ w ≤ v)
def execFmtX (h : Thr) (x : OpsCC) (s : State) : Res := .next <|
  s.formatI h 2 x (decide (x.ofs.toNat ≤ 8)) (fun v => digitsOf 16 x.ofs.toNat v) fun v => decide (16 ^ x.ofs.toNat ≤ v)

/-! Checks (R176). -/

/-- A state in the register form of its algorithm. -/
def stateForm (alg v : Nat) : Nat := v % 2 ^ (8 * checkBytes alg)

/-- cinit: FN and IMM16[15:4] are reserved; the fold prefix is legal for ALG 3 only. -/
def execCinit (h : Thr) (x : OpsCB) (fn : BitVec 2) (s : State) : Res := .next <|
  let alg := x.imm.toNat % 8
  let pre := bitOf x.imm.toNat 3
  s.issue h (wordCB 0x28 x fn.toNat)
    (fn == 0 && decide (x.imm.toNat < 16) && decide (alg ≤ 4) && (!pre || alg == 3)) fun s t _ =>
    let a := t.gr x.ra.toNat
    let dev := s.ARM_ID_DEVICE_ID
    let c := if pre then checkRun alg (checkInit alg) (foldPrefix dev (bits a 16 13) (a % 65536)) else checkInit alg
    .next s (t.setG x.rd.toNat c)

/-- cfold: FN[2:0] ALG, FN[3] local space. -/
def execCfold (h : Thr) (x : OpsCA) (fn : BitVec 14) (s : State) : Res := .next <|
  let alg := fn.toNat % 8
  s.issue h (wordCA 0x29 x fn.toNat) (decide (fn.toNat < 16) && decide (alg ≤ 4)) fun s t r =>
    let a := t.gr x.ra.toNat
    let n := t.gr x.rb.toNat
    let loc := bitOf fn.toNat 3
    if n = 0 then .next s t
    else if (if loc then 65536 else 4096) < a + n then .fault s (if loc then 5 else 3) a 0
    else
      let bad := if loc then s.localBad h.e.val a n else []
      if bad ≠ [] then .fault (s.localRepair bad) 12 a 0xECC
      else
        let bs := s.spaceBytes h.e.val r (if loc then 2 else 0) a n
        .next s (t.setG x.rd.toNat (checkRun alg (stateForm alg (t.gr x.rd.toNat)) bs))

/-- cfin: FN[2:0] ALG. -/
def execCfin (h : Thr) (x : OpsCA) (fn : BitVec 14) (s : State) : Res := .next <|
  let alg := fn.toNat % 8
  s.issueT h (wordCA 0x2A x fn.toNat) (decide (fn.toNat < 8) && decide (alg ≤ 4)) fun t =>
    t.setG x.rd.toNat (checkFin alg (stateForm alg (t.gr x.ra.toNat)))

/-- cver: compared big-endian, little-endian (FN[3]) or as two hex digits (FN[4], ALG 4 only). -/
def execCver (h : Thr) (x : OpsCA) (fn : BitVec 14) (s : State) : Res := .next <|
  let alg := fn.toNat % 8
  let hex := bitOf fn.toNat 4
  s.issue h (wordCA 0x2B x fn.toNat) (decide (fn.toNat < 32) && decide (alg ≤ 4) && (!hex || alg == 4)) fun s t r =>
    let v := checkFin alg (stateForm alg (t.gr x.ra.toNat))
    let a := t.gr x.rb.toNat
    let n := if hex then 2 else checkBytes alg
    if 4096 < a + n then .fault s 3 a 0
    else
      let bs := s.spaceBytes h.e.val r 0 a n
      let f := if hex then hex2 bs else some (if bitOf fn.toNat 3 then leNat bs else beNat bs)
      .next s ({ t with z := f == some v, v := f.isNone }.setG x.rd.toNat v)

end Sys2Proof.Machine
end

