-- ==== Sys2Proof/Machine/ChiselMem.lean ====
section
/-! DEFINITION. Chisel loads, stores, atomics and counters (08_chisel_instructions.md R172, R182, Tables CHX-4 and
CHX-13). -/

namespace Sys2Proof.Machine

/-- Bytes of a SIZE code (07_chisel_machine.md Table CHS-7). -/
def sizeBytes (c : BitVec 2) : Nat := 2 ^ c.toNat

/-- SPACE is not reserved, and an 8-byte access has an even RD (R172). -/
def plainOk (x : OpsCE) : Bool := x.space != 3 && (x.size != 3 || x.rd.toNat % 2 == 0)

/-- The result of a load of RD. -/
def Thread.loaded (t : Thread) (x : OpsCE) (v : Nat) : Thread :=
  if x.size = 3 then t.setPair x.rd.toNat v else t.setG x.rd.toNat v

/-- A load (R172): `v` gives the thread from the bytes. -/
def State.loadI (s : State) (h : Thr) (op : Nat) (x : OpsCE) (legal : Bool) (v : Thread → Bytes → Thread) : State :=
  s.issue h (wordCE op x) legal fun s t r =>
    s.loading h r x.space.toNat (addrOf14 t x) (sizeBytes x.size) fun bs => .next s (v t bs)

/-- A store (R172): `v` gives the bytes. -/
def State.storeI (s : State) (h : Thr) (op : Nat) (x : OpsCE) (legal : Bool) (v : Thread → Bytes) : State :=
  s.issue h (wordCE op x) legal fun s t r => s.storing h t r x.space.toNat (addrOf14 t x) (v t)

/-- The value stored: RD, or the pair. -/
def Thread.stored (t : Thread) (x : OpsCE) : Nat := if x.size = 3 then t.pair x.rd.toNat else t.gr x.rd.toNat

/-- A big-endian pair: G[RD] the more significant word (R172). -/
def swapWords (v : Nat) : Nat := v % 2 ^ 32 * 2 ^ 32 + v / 2 ^ 32 % 2 ^ 32

def execLd (h : Thr) (x : OpsCE) (s : State) : Res := .next <|
  s.loadI h 0x10 x (plainOk x) fun t bs => t.loaded x (leNat bs)
/-- lds: SIZE 2 and 3 are illegal. -/
def execLds (h : Thr) (x : OpsCE) (s : State) : Res := .next <|
  s.loadI h 0x11 x (x.space != 3 && decide (x.size.toNat < 2)) fun t bs =>
    t.setG x.rd.toNat (wrapI 32 (sxt (8 * sizeBytes x.size) (leNat bs)))
def execSt (h : Thr) (x : OpsCE) (s : State) : Res := .next <|
  s.storeI h 0x12 x (plainOk x) fun t => leBytes (sizeBytes x.size) (t.stored x)
def execLdbe (h : Thr) (x : OpsCE) (s : State) : Res := .next <|
  s.loadI h 0x13 x (plainOk x) fun t bs => t.loaded x (if x.size = 3 then swapWords (beNat bs) else beNat bs)
def execStbe (h : Thr) (x : OpsCE) (s : State) : Res := .next <|
  s.storeI h 0x14 x (plainOk x) fun t =>
    beBytes (sizeBytes x.size) (if x.size = 3 then swapWords (t.stored x) else t.stored x)
/-- SIZE must be 3 and RD[3:2] zero for ldt and stt. -/
def timeOk (x : OpsCE) : Bool := x.space != 3 && x.size == 3 && decide (x.rd.toNat < 4)
def execLdt (h : Thr) (x : OpsCE) (s : State) : Res := .next <|
  s.loadI h 0x15 x (timeOk x) fun t bs => t.setT x.rd.toNat (leNat bs)
def execStt (h : Thr) (x : OpsCE) (s : State) : Res := .next <|
  s.storeI h 0x16 x (timeOk x) fun t => leBytes 8 (t.tr x.rd.toNat)

/-- An atomic of n bytes of local space at `a` (R182): `g` gives the thread from the old value and `v` the new value. -/
def State.atomic (s : State) (h : Thr) (r : Run) (a : Int) (n : Nat) (v : Nat → Nat) (g : Nat → Thread) : Eff :=
  s.loading h r 2 a n fun bs => s.storing h (g (leNat bs)) r 2 a (leBytes n (v (leNat bs)))

/-- SPACE 2, SIZE 2 or 3, an even RD for 8 bytes. -/
def atomOk (x : OpsCE) : Bool := x.space == 2 && decide (2 ≤ x.size.toNat) && plainOk x

def execLadd (h : Thr) (x : OpsCE) (s : State) : Res := .next <|
  s.issue h (wordCE 0x38 x) (atomOk x) fun s t r =>
    s.atomic h r (addrOf14 t x) (sizeBytes x.size) (fun m => m + t.stored x) fun m => t.loaded x m
def execLswap (h : Thr) (x : OpsCE) (s : State) : Res := .next <|
  s.issue h (wordCE 0x39 x) (atomOk x) fun s t r =>
    s.atomic h r (addrOf14 t x) (sizeBytes x.size) (fun _ => t.stored x) fun m => t.loaded x m
/-- lcas.w: SPACE 2, SIZE 2, RD even. -/
def execLcasW (h : Thr) (x : OpsCE) (s : State) : Res := .next <|
  s.issue h (wordCE 0x3A x) (x.space == 2 && x.size == 2 && x.rd.toNat % 2 == 0) fun s t r =>
    s.atomic h r (addrOf14 t x) 4 (fun m => if m = t.gr x.rd.toNat then t.gr (x.rd.toNat + 1) else m)
      fun m => t.setG x.rd.toNat m

/-- A counter instruction on the local word at G[RA] (R182). -/
def State.counterI (s : State) (h : Thr) (fn : Nat) (x : OpsCB) (v : Nat → Nat) : State :=
  s.issue h (wordCB 0x3B x fn) true fun s t r =>
    s.atomic h r (t.gr x.ra.toNat) 4 v fun m => t.setG x.rd.toNat (v m)
def execCntS (h : Thr) (x : OpsCB) (s : State) : Res := .next <|
  s.counterI h 0 x fun m => min 0xFFFFFFFF (m + x.imm.toNat)
def execCntW (h : Thr) (x : OpsCB) (s : State) : Res := .next <|
  s.counterI h 1 x fun m => (m + x.imm.toNat) % 2 ^ 32

end Sys2Proof.Machine
end

