-- ==== Sys2Proof/Machine/ChiselTime.lean ====
section
/-! DEFINITION. Chisel time instructions and time submissions (08_chisel_instructions.md R177 to R179, Tables CHX-9 and
CHX-10). -/

namespace Sys2Proof.Machine

/-- A 64-bit device time of a count of ns that may lie outside the range of TSEC. -/
def devWrap (ns : Int) : Nat := dev64 (ns % (2 ^ 32 * nsPerSec : Nat)).toNat

/-- An instruction of format CF that changes its thread only. -/
def State.timeI (s : State) (h : Thr) (op fn : Nat) (x : OpsCF) (legal : Bool) (g : State → Thread → Thread) : State :=
  s.issue h (wordCF op x fn) legal fun s t _ => .next s (g s t)

def execTnow (h : Thr) (x : OpsCF) (s : State) : Res := .next <|
  s.timeI h 0x2C 0 x (x.ta == 0 && x.ra == 0 && x.imm == 0) fun s t => t.setT x.td.toNat (dev64 s.now)
def execTmov (h : Thr) (x : OpsCF) (s : State) : Res := .next <|
  s.timeI h 0x2C 1 x (x.ra == 0 && x.imm == 0) fun _ t => t.setT x.td.toNat (t.tr x.ta.toNat)
def execTadd (h : Thr) (x : OpsCF) (s : State) : Res := .next <|
  s.timeI h 0x2C 2 x (x.imm == 0) fun _ t => t.setT x.td.toNat (devWrap (t.tns x.ta.toNat + sxt 32 (t.gr x.ra.toNat)))
/-- tdiff saturates. -/
def execTdiff (h : Thr) (x : OpsCF) (s : State) : Res := .next <|
  s.timeI h 0x2C 3 x (x.imm == 0) fun _ t =>
    let d := (t.tns x.td.toNat : Int) - t.tns x.ta.toNat
    t.setG x.ra.toNat (wrapI 32 (max (-(2 ^ 31)) (min (2 ^ 31 - 1) d)))
def execTgets (h : Thr) (x : OpsCF) (s : State) : Res := .next <|
  s.timeI h 0x2C 4 x (x.td == 0 && x.imm == 0) fun _ t => t.setG x.ra.toNat (t.tr x.ta.toNat / 2 ^ 32)
def execTgetns (h : Thr) (x : OpsCF) (s : State) : Res := .next <|
  s.timeI h 0x2C 5 x (x.td == 0 && x.imm == 0) fun _ t => t.setG x.ra.toNat (t.tns x.ta.toNat % nsPerSec)
def execTsets (h : Thr) (x : OpsCF) (s : State) : Res := .next <|
  s.timeI h 0x2C 6 x (x.ta == 0 && x.imm == 0) fun _ t => t.setT x.td.toNat (t.gr x.ra.toNat * 2 ^ 32)
/-- tgrid: IMM12[11:4] is reserved. -/
def execTgrid (h : Thr) (x : OpsCF) (s : State) : Res := .next <|
  s.timeI h 0x2C 7 x (decide (x.imm.toNat < 16)) fun s t =>
    let r := s.rateOf x.imm.toNat
    let m := t.tns x.ta.toNat
    let p := gridPt r (gridNear r m)
    (t.setT x.td.toNat (devWrap p)).setG x.ra.toNat (wrapI 32 ((m : Int) - p))

/-- Device time in ns of a C37.118 time (R178, 03_time_base.md R53). -/
def State.fromC37 (s : State) (soc fracsec tb stamp : Nat) : Int :=
  let leapSoc : Int := (s.reg R_TIM_LEAPAT).toNat - (sxt 16 s.TIM_UTC_OFS + 1)
  let sec : Int :=
    if s.TIM_UTC_VALID = 1 ∧ s.TIM_UTC_PENDING = 1 ∧ s.TIM_UTC_DIR = 0 ∧ (soc : Int) = leapSoc then
      (s.reg R_TIM_LEAPAT).toNat - (if bitOf fracsec 29 then 0 else 1)
    else soc + s.offsetAt stamp
  sec * nsPerSec + roundUp (fracsec % 2 ^ 24 * nsPerSec) tb

/-- c37tod: RA above 13 is illegal. -/
def execC37tod (h : Thr) (x : OpsCF) (s : State) : Res := .next <|
  s.timeI h 0x2D 0 x (decide (x.ra.toNat ≤ 13) && x.imm == 0) fun s t =>
    let a := x.ra.toNat
    t.setT x.td.toNat (devWrap (s.fromC37 (t.gr a) (t.gr (a + 1)) (t.gr (a + 2)) (t.tns x.ta.toNat)))
/-- todc37: RA above 13 is illegal. -/
def execTodc37 (h : Thr) (x : OpsCF) (s : State) : Res := .next <|
  s.timeI h 0x2D 1 x (decide (x.ra.toNat ≤ 13) && x.td == 0 && x.imm == 0) fun s t =>
    let a := x.ra.toNat
    let m := t.tns x.ta.toNat
    let p := s.socOf m (t.gr (a + 2))
    (t.setG a p.1).setG (a + 1) (s.timeQualityByte m s.tim.quality * 2 ^ 24 + p.2 % 2 ^ 24)

/-- A submission: its status goes to G[RA] (R179). -/
def State.submit (s : State) (h : Thr) (fn : Nat) (x : OpsCF) (legal : Bool) (f : State → Thread → Run → State × Nat) : State :=
  s.issue h (wordCF 0x2E x fn) (legal && x.td == 0 && x.imm == 0) fun s t r =>
    let p := f s t r
    .next p.1 (t.setG x.ra.toNat p.2)

def execPpslabel (h : Thr) (x : OpsCF) (s : State) : Res := .next <|
  s.submit h 0 x true fun s t r => s.labelEdge r.entry.flow (t.tns x.ta.toNat)
/-- ptpsample: RA = 15 would need a G16. -/
def execPtpsample (h : Thr) (x : OpsCF) (s : State) : Res := .next <|
  s.submit h 1 x (x.ta == 0 && x.ra != 15) fun s t _ =>
    (s.ptpSample (sxt 32 (t.gr x.ra.toNat)) (t.gr (x.ra.toNat + 1)), 0)
def execPtpadj (h : Thr) (x : OpsCF) (s : State) : Res := .next <|
  s.submit h 2 x (x.ta == 0) fun s t _ =>
    if s.tim.source = 1 then (s.correct (sxt 32 (t.gr x.ra.toNat)) 2, 0) else (s, 2)
def execPtpstep (h : Thr) (x : OpsCF) (s : State) : Res := .next <|
  s.submit h 3 x true fun s t _ =>
    if s.tim.source = 1 then (s.stepTime ((t.tns x.ta.toNat : Int) - s.now) 2, 0) else (s, 2)
def execPtpfreq (h : Thr) (x : OpsCF) (s : State) : Res := .next <|
  s.submit h 4 x (x.ta == 0) fun s t _ =>
    if s.tim.source = 1 then (s.ptpFreq (sxt 32 (t.gr x.ra.toNat)), 0) else (s, 2)
def execUtcset (h : Thr) (x : OpsCF) (s : State) : Res := .next <|
  s.submit h 5 x true fun s t _ =>
    let v := t.gr x.ra.toNat
    (s.setUtc (v % 65536) (bits v 16 1) (bits v 17 1) (bits v 18 1) (t.tr x.ta.toNat / 2 ^ 32), 0)

end Sys2Proof.Machine
end

