-- ==== Sys2Proof/Machine/Judge.lean ====
section
/-! DEFINITION. Host commands before they run: entries of the command ring and of COMMAND cells, the judgement of R40
(02_modes.md R40, R41, 15_host_interface.md R317 to R324, 18_protection_integrity.md R372), remote commands, and the order in which
fetched commands start (R317). -/

namespace Sys2Proof.Machine

/-! Entries (Table HST-3). -/

/-- The OPCODE and the rest of a 64-byte entry. -/
def parseEntry (bs : Bytes) (slot : Nat) (src : Option (BitVec 14)) : Nat × HostCmd :=
  let flags := byteAt bs 5
  (byteAt bs 0,
   { tag := bs.getD 1 0, epoch := BitVec.ofNat 16 (le bs 2 2), alive := bs.getD 4 0, fence := bitOf flags 1, remote := bitOf flags 0,
     dest := BitVec.ofNat 14 (le bs 6 2), remoteEpoch := BitVec.ofNat 16 (le bs 8 2), slot := BitVec.ofNat 8 slot,
     reserved := decide (4 ≤ flags) || decide (0x4000 ≤ le bs 6 2) || le bs 10 6 != 0,
     args := (List.range 12).map fun i => BitVec.ofNat 32 (le bs (16 + 4 * i) 4), src := src })

/-- The entry that goes to device DEST: EPOCH is REMOTE_EPOCH, ALIVE the device's own outgoing counter (R324 step 3). -/
def remoteEntry (op alive : Nat) (c : HostCmd) : Bytes :=
  [BitVec.ofNat 8 op, c.tag] ++ leBytes 2 c.remoteEpoch.toNat ++ [BitVec.ofNat 8 alive, BitVec.ofNat 8 (b1 c.remote + 2 * b1 c.fence)] ++
    leBytes 2 c.dest.toNat ++ leBytes 2 c.remoteEpoch.toNat ++ List.replicate 6 0 ++ (c.args.flatMap fun a => leBytes 4 a.toNat)

/-! Arguments (Table HST-5, R317). -/

/-- The bits of each argument word that Table HST-5 names; none: the OPCODE is unassigned. Words behind the list are unused. -/
def argMasks (op : Nat) (c : HostCmd) : Option (List Nat) :=
  let w := 0xFFFFFFFF
  match op with
  | 0x00 | 0x01 | 0x02 | 0x03 | 0x04 | 0x05 | 0x0B => some []
  | 0x08 => some [w, w, w, w]
  | 0x09 => some [1, w, w]
  | 0x0A => some [w]
  | 0x0C => some [1, w]
  | 0x10 => some [0x1FFF, 0x3FFF, w, w]
  | 0x11 => some [0x1FFF]
  | 0x12 => some [if bitOf (c.arg 0) 31 then 0x80001FFF else 0xF]
  | 0x14 => some [3, w, w, w, 0x7FFFF, w]
  | 0x15 => some [w]
  | 0x18 | 0x19 => some [0xFFFF]
  | 0x1C => some [7]
  | 0x20 => some [w, w, w, w]
  | 0x21 => some [w, w, w, w, w]
  | 0x24 => some [0x703, w, w, w]
  | _ => none

/-- Bytes of a DIAG_DUMP source (01_architecture.md Table ARC-11). -/
def dumpSize (src : Nat) : Nat :=
  match src with
  | 0 => 24 * 1024
  | 1 => 2 * 1024 * 1024
  | 2 => 4 * 1024 * 1024
  | _ => Config.descriptorBytes

/-- Ranges of argument values that need no state of the device but its time and mode. -/
def State.argRanges (s : State) (op : Nat) (c : HostCmd) : Bool :=
  match op with
  | 0x08 => c.arg 2 % 4 == 0 && c.arg 3 % 4 == 0 && decide (c.arg 2 + c.arg 3 ≤ areaBytes)
  | 0x09 =>
    let t := c.arg 1 * nsPerSec + c.arg 2
    c.arg 0 == 0 || s.glb.mode == .plinth ||
      (decide (c.arg 2 < nsPerSec) && decide (s.now + 100000000 ≤ t) && decide (t ≤ s.now + 3600 * nsPerSec))
  | 0x1C => decide (c.arg 0 ≤ 4)
  | 0x21 => decide (c.arg 3 ≤ 3) && decide (c.arg 4 + c.arg 2 ≤ dumpSize (c.arg 3))
  | 0x24 => decide (60 ≤ c.arg 1) && decide (c.arg 1 ≤ 9212)
  | _ => true

/-- Commands whose host address means nothing at another device (R324 step 1). -/
def hasHostAddr (op : Nat) : Bool := op == 0x08 || op == 0x10 || op == 0x20 || op == 0x21 || op == 0x24

/-- The arguments are good (R40 step 3, R317, R324 step 1). -/
def State.argsOk (s : State) (op : Nat) (c : HostCmd) : Bool :=
  match argMasks op c with
  | none => false
  | some ms =>
    !c.reserved && ((List.range c.args.length).all fun i => c.arg i &&& ms.getD i 0 == c.arg i) && s.argRanges op c &&
      (if c.src.isSome then !hasHostAddr op
       else if c.remote then !hasHostAddr op && c.dest != 0 && c.dest.toNat != 16383 && c.dest.toNat != s.ownId
       else c.dest == 0)

/-- The tag is in flight already (R319). -/
def State.tagUsed (s : State) (c : HostCmd) : Bool := c.src.isNone && s.hst.flights.any (fun f => f.cmd.src.isNone && f.cmd.tag == c.tag)

/-! Units, access and mode. -/

/-- The command needs a unit that the variant lacks (00_scope.md R5). The spec lists no commands that target an absent unit: CAPTURE_ARM,
CAPTURE_FORCE and STREAM_SEND do, for each names an instance of the unit; STANDBY and TAKEOVER on a variant without the peer link target
the device itself and are judged by their own conditions (DESIGN CHOICE, log entry 124). -/
def State.cmdAbsent (s : State) (op : Nat) (c : HostCmd) : Bool :=
  match op with
  | 0x18 | 0x19 => !s.hasCapture
  | 0x24 => !s.hasNp (c.arg 0 % 4)
  | _ => false

/-- Target and right of a command (18_protection_integrity.md Table PRT-4): right bit 16 read, 17 write. -/
def cmdTarget (op : Nat) : Option (Nat × Nat) :=
  match op with
  | 0x01 | 0x02 | 0x03 | 0x04 | 0x05 => some (0, 17)
  | 0x08 | 0x09 | 0x0A | 0x0B | 0x0C => some (14, 17)
  | 0x10 | 0x11 => some (4, 17)
  | 0x12 => some (7, 17)
  | 0x14 | 0x15 => some (1, 17)
  | 0x18 | 0x19 => some (9, 17)
  | 0x1C => some (16, 17)
  | 0x20 | 0x21 => some (15, 16)
  | 0x24 => some (10, 17)
  | _ => none

/-- Table MOD-4, with STREAM_SEND of R322. -/
def State.cmdLegal (s : State) (op : Nat) : Bool :=
  let m := s.glb.mode
  match op with
  | 0x00 | 0x20 | 0x21 => true
  | 0x01 => m == .plinth
  | 0x02 => m != .halt
  | 0x03 => m == .halt
  | 0x04 => m == .run
  | 0x05 => m == .standby
  | 0x08 | 0x0A | 0x0B | 0x14 | 0x15 => m != .halt
  | 0x09 | 0x0C => m == .plinth || m == .run || m == .standby
  | 0x10 | 0x11 | 0x12 => s.live
  | 0x18 | 0x19 => m == .run || m == .standby || (m == .shed && decide (s.glb.shed ≤ 2))
  | 0x1C | 0x24 => m == .run || m == .shed
  | _ => false

/-- The master of a command: M0, or M2 for a COMMAND cell (Table PRT-1). -/
def cmdMaster (c : HostCmd) : Nat := if c.src.isNone then 0 else 2

/-- Count in HST_GCNT for a command of the ring. -/
def State.ringCount (s : State) (c : HostCmd) (n : Nat) : State := if c.src.isNone then s.hCount n else s

/-- A command is refused for its mode (R41): counted, with a log entry. -/
def State.modeRefused (s : State) (op : Nat) (c : HostCmd) : State :=
  (s.ringCount c 3).logEvent 1 op [(c.tag.toNat, 1), (c.epoch.toNat, 2), (cmdMaster c, 1)]

/-- The alive check of the command's master (R118). -/
def State.aliveOf (s : State) (c : HostCmd) : State × Bool :=
  match c.src with
  | none => s.alive0 c.alive.toNat
  | some d => s.alive2 d.toNat c.alive.toNat

/-- A command of device DEST is judged locally for its arguments and mode (R324 steps 1 and 2). -/
def State.judgeRemote (s : State) (op : Nat) (c : HostCmd) : State × Option Nat :=
  if s.live then (s, none) else (s.modeRefused op c, some 1)

/-- The steps of R40 behind the arguments: absent units, access, mode. -/
def State.judgeLocal (s : State) (op : Nat) (c : HostCmd) : State × Option Nat :=
  if s.cmdAbsent op c then (s, some 2)
  else
    match cmdTarget op with
    | some (t, right) =>
      if !s.granted t (cmdMaster c) right 0 1 then (s.violation (cmdMaster c) t 0 2, some 3)
      else if s.cmdLegal op then (s, none) else (s.modeRefused op c, some 1)
    | none => if s.cmdLegal op then (s, none) else (s.modeRefused op c, some 1)

/-- Judge a command in the order of R40 up to its own conditions: the status that ends it, or none. With ARM_CFG.MGMT_EN = 0 every
COMMAND cell is refused (14_armature_links.md R308). -/
def State.judge (s : State) (op : Nat) (c : HostCmd) : State × Option Nat :=
  let s0 := s.ringCount c 0
  if c.src.isSome ∧ s.ARM_CFG_MGMT_EN = 0 then (s0, some 3)
  else if c.epoch ≠ s.glb.epoch ∨ c.epoch = 0 then (s0.ringCount c 2, some 5)
  else
    let a := s0.aliveOf c
    if !a.2 then (a.1, some 0x0B)
    else if a.1.tagUsed c then (a.1.hstFlag 1, some 4)
    else if !a.1.argsOk op c then (a.1, some 4)
    else if c.remote && c.src.isNone then a.1.judgeRemote op c
    else a.1.judgeLocal op c

/-! Flights. -/

/-- The command is in flight under the next key, its DMA read of `awaited` bytes requested at `addr` in reads of 512 bytes (R326). -/
def State.takeOff (s : State) (op : Nat) (c : HostCmd) : State × Nat :=
  let k := s.hst.nextKey
  (s.modHst fun h => { h with nextKey := k + 1, flights := h.flights ++ [{ key := k, op := op, cmd := c }] }, k)

/-- Reads of at most 512 bytes of host memory are requested. -/
def State.hostReads : Nat → State → Nat → Nat → State
  | 0, s, _, _ => s
  | fuel + 1, s, a, n => if n = 0 then s else State.hostReads fuel (s.emit (.hostRead a (min 512 n))) (a + 512) (n - 512)

/-- The flight under key k waits for `n` bytes of host memory at `a`. -/
def State.awaitRead (s : State) (k a n : Nat) : State :=
  (s.hostReads (n / 512 + 1) a n).modFlight k fun f => { f with awaited := n }

/-- The host address in two argument words. -/
def hostAddr (c : HostCmd) (i : Nat) : Nat := c.arg i + 2 ^ 32 * c.arg (i + 1)

/-! Remote commands (R324). -/

/-- The next value of this device's counter for DEST. -/
def State.nextOutAlive (s : State) (dest : Nat) : Nat :=
  match s.hst.outAlive.find? (fun x => x.1 == dest) with
  | some x => (x.2 + 1) % 256
  | none => 0

/-- Send the command as a class 3 COMMAND cell on the link of its route, or on the other ring link where that one is down (R304), or complete it
with NO_RESOURCE. -/
def State.sendRemote (s : State) (op : Nat) (c : HostCmd) : State :=
  let d := c.dest.toNat
  match (s.codeLink d).filter (fun k => (s.steer k).isSome) with
  | none => s.answer c 8 0
  | some k =>
    let a := s.nextOutAlive d
    let (s1, key) := s.takeOff op c
    let s2 := s1.sendSteered k (s1.newCell 3 d ((0 : Byte) :: remoteEntry op a c))
    ((s2.modHst fun h => { h with outAlive := ((d, a) :: h.outAlive.filter (fun x => x.1 != d)).take 64 }).modFlight key fun f =>
      { f with sent := true }).hCount 5

/-- A COMPLETION cell has come from device `dev` (R324 step 4): it completes the remote command of its tag, or is late. One with a reserved status,
which no device returns (R325), is not taken, and leaves its command to TIMEOUT (log entry 146). -/
def State.remoteDone (s : State) (dev : Nat) (bs : Bytes) : State :=
  if 0x0D < byteAt bs 1 then s
  else match s.hst.flights.find? (fun f => f.sent && f.cmd.tag == bs.getD 0 0 && f.cmd.dest.toNat == dev) with
  | none => s.hstFlag 7
  | some f =>
    (s.modHst fun h => { h with flights := h.flights.filter (fun x => x.key != f.key) }).postCpl
      ⟨f.cmd.tag.toNat, byteAt bs 1, le bs 2 2, f.cmd.slot.toNat, 2, dev, le bs 8 8⟩

/-! When a command may start (R317, R320). -/

/-- RUN, REBOOT, STANDBY, TAKEOVER, COMMIT and ROLLBACK act as if FENCE were 1. -/
def isFenced (op : Nat) (c : HostCmd) : Bool :=
  c.fence || op == 0x01 || op == 0x03 || op == 0x04 || op == 0x05 || op == 0x09 || op == 0x0B

/-- The command at the head may start: completions have room, a FENCE has waited for every earlier command, and no command of its kind
is executing here. HALT waits for none. -/
def State.mayStart (s : State) (op : Nat) (c : HostCmd) : Bool :=
  s.krOpen && s.hst.held.isEmpty && !s.glb.rebootPending && s.glb.mode != .reset &&
    (op == 0x02 ||
      ((!isFenced op c || s.hst.flights.isEmpty) && !s.hst.flights.any (fun f => f.op == op && !f.sent) &&
        !(op == 0x0C && s.cfg.job.isSome)))

end Sys2Proof.Machine
end

