-- ==== Sys2Proof/Machine/HostCommands.lean ====
section
/-! DEFINITION. Host commands (15_host_interface.md R322, R323, Table HST-5): what each does once judged, and the rows of the opcode
table that execute them. -/

namespace Sys2Proof.Machine

/-! FLOW_SET and FLOW_CLEAR (R323, 06_flows.md R134). -/

/-- A started run of flow f is in progress. -/
def State.runOn (s : State) (f : Nat) : Bool :=
  s.chs.threads.any fun x => match x.2.run with
    | some r => r.started && r.entry.flow == f
    | none => false

/-- Offset and size of the fields that bits 2 to 13 of A1 select. -/
def flowFields : List (Nat × Nat × Nat) :=
  [(2, 0x21, 1), (3, 0x22, 1), (4, 0x23, 1), (5, 0x24, 2), (6, 0x26, 2), (7, 0x28, 2), (8, 0x2A, 1), (9, 0x2B, 1), (10, 0x2C, 2),
   (11, 0x2E, 1), (12, 0x30, 4), (13, 0x140, 192)]

/-- A selected field of the block is outside its range, or names a lane or domain that the committed image does not enable, whatever LANE_EN and
MEMBER are (R323, Table FLW-2; for the key Table FLW-1: TYPE, INDEX of that type, FORMAT, and MASK of 6 bits). -/
def State.flowFieldBad (s : State) (bs : Bytes) (bit : Nat) : Bool :=
  match bit with
  | 0 =>
    let t := byteAt bs 0
    decide (2 < t) || decide ([96, 4, 8].getD t 0 ≤ byteAt bs 1) || decide (5 < byteAt bs 2) || decide (64 ≤ byteAt bs 3)
  | 1 => byteAt bs 0x20 != 1 && byteAt bs 0x20 != 4
  | 2 => decide (8 ≤ byteAt bs 0x21)
  | 3 =>
    let d := byteAt bs 0x22
    decide (0x40 ≤ d) || s.ALN_DCFG_ENABLE (d % 16) == 0
  | 4 => decide (8 ≤ byteAt bs 0x23)
  | 5 => decide (1024 ≤ le bs 0x24 2)
  | 6 => decide (s.CHS_PCODE_CODE_END ≤ le bs 0x26 2)
  | 8 =>
    let l := byteAt bs 0x2A
    l / 16 % 8 != 0 || s.RCV_LCFG_ENABLE (l % 16) == 0
  | 10 => decide (s.CHS_LAYOUT_COUNT < le bs 0x2C 2)
  | 11 => decide (byteAt bs 0x2E < 4) || decide (15 < byteAt bs 0x2E)
  | _ => false

/-- A FLOW_SET that must be refused: its status. Every case of BAD_ARGUMENT comes before NO_RESOURCE. -/
def State.flowSetRefusal (s : State) (f mask : Nat) (bs : Bytes) : Option Nat :=
  let key := bs.take 30
  let other := (s.findKey key).filter (fun g => g != f || !s.fUsed f)
  if !s.fUsed f && !bitOf mask 0 then some 4
  else if (List.range 14).any (fun b => bitOf mask b && s.flowFieldBad bs b) then some 4
  else if !bitOf mask 0 then none
  else if other.isSome then some 4
  else if s.findKey key = some f then none
  else if ((if s.fUsed f then s.removeKey f else s).freeBucket key).isNone then some 8
  else none

/-- A new context: every byte zero, NEW, LQ_NS at its greatest (R323, 06_flows.md Table FLW-3 code 1). -/
def State.createFlow (s : State) (f : Nat) : State :=
  (((s.setFbytes f 0 (List.replicate 512 0)).setFctx f 0x55 1 1).setFctx f 0x58 4 0xFFFFFFFF).cleanFlow f

/-- Give flow f a key, unless it has it already. -/
def State.keyFlow (s : State) (f : Nat) (key : Bytes) : State :=
  if s.findKey key = some f ∧ s.fUsed f then s
  else
    let s1 := if s.fUsed f then s.removeKey f else s
    match s1.freeBucket key with
    | some j => s1.placeKey f j key false
    | none => s1

/-- STATE of FLOW_SET (R323): LEARNING learns afresh from now; QUARANTINED clears nothing. -/
def State.nameState (s : State) (f st : Nat) : State :=
  if st = 1 then
    let s1 := (s.clearHist f).fEnter f 1 9
    { s1 with flw := { s1.flw with silBase := s1.flw.silBase.put none f (some s1.now) } }
  else if s.fState f = 4 then s.fEnter f 4 9 else (s.fEnter f 4 9).flwFlag 4

/-- Streams of flow f on lanes that it no longer uses free their slots (10_rate_conversion.md R212). -/
def State.leaveLanes (s : State) (f : Nat) : State :=
  s.forEach ((List.range 16).filter fun l => (s.lane l).streams.any (fun x => x.1 == f) && !(s.served l).contains f) fun s l => s.clearStream l f

/-- An accepted FLOW_SET takes effect. FAULT_RUN is cleared (06_flows.md R128), and entries ahead return (07_chisel_machine.md
R142). -/
def State.setFlow (s : State) (f mask : Nat) (bs : Bytes) : State :=
  let s0 := s.returnAhead fun _ r => r.entry.flow == f
  let s1 := if s0.fUsed f then s0 else s0.createFlow f
  let s2 := if bitOf mask 0 then s1.keyFlow f (bs.take 30) else s1
  let s3 := flowFields.foldl (fun s x => if bitOf mask x.1 then s.setFbytes f x.2.1 ((bs.drop x.2.1).take x.2.2) else s) s2
  let s4 := s3.setFctx f 0x54 1 0
  (if bitOf mask 1 then s4.nameState f (byteAt bs 0x20) else s4).leaveLanes f

/-- A FLOW_SET or FLOW_CLEAR whose flow has no run in progress takes effect and completes (R134). -/
def State.flowCommand (s : State) (x : Flight) : State :=
  let f := x.cmd.arg 0 % 8192
  if x.sent || x.awaited != 0 || s.runOn f then s
  else if x.op = 0x10 then
    match s.flowSetRefusal f (x.cmd.arg 1) x.data with
    | some st => s.complete x.key st 0
    | none => (s.setFlow f (x.cmd.arg 1) x.data).complete x.key 0 0
  else if s.fUsed f then (s.clearFlow f).complete x.key 0 0
  else s.complete x.key 4 0

/-- Every FLOW_SET and FLOW_CLEAR that waits for a run goes on if it may. -/
def State.flowCommands (s : State) : State :=
  (s.hst.flights.filter fun x => x.op == 0x10 || x.op == 0x11).foldl (fun s x => s.flowCommand x) s

/-! The other commands. -/

/-- RUN (02_modes.md R39). -/
def State.runCmd (s : State) (k : Nat) : State :=
  if !s.cfg.committed then s.complete k 8 0
  else if !s.runReady then s.complete k 6 0
  else s.enterRun.complete k 0 0

/-- REBOOT (02_modes.md R37): unflushed summaries are flushed; RESET follows. -/
def State.rebootCmd (s : State) (k : Nat) (flashOk : Bool) : State :=
  ((s.flushSummaries flashOk).complete k 0 0).modGlb fun g => { g with rebootPending := true }

/-- TAKEOVER (16_peer_bridge_twin.md R348): HANDOVER_REQ in an immediate heartbeat, or a claim when the line is released. -/
def State.takeoverCmd (s : State) (k : Nat) : State :=
  if !s.cfg.twinImage then s.complete k 8 0
  else if !s.pbr.claimLine then s.modPbr fun b => { b with claimFor := 2 }
  else s.queueHeartbeat false true

/-- The 128 MiB area in host memory (17_configuration.md R353). -/
def State.hostArea (s : State) : Nat := ((s.reg R_CFG_HOSTRAMH).toNat * 2 ^ 32 + (s.reg R_CFG_HOSTRAML).toNat) / 2 ^ 27 * 2 ^ 27

/-- IMAGE_WRITE (17_configuration.md R353, R354). -/
def State.imageCmd (s : State) (k : Nat) (c : HostCmd) : State :=
  if !s.hasDdr && hostAddr c 0 != s.hostArea + c.arg 2 then s.complete k 4 0
  else if s.cfg.waiting.isSome || s.cfg.window.isSome || !s.areasUp then s.complete k 6 0
  else if c.arg 3 = 0 then s.complete k 0 0
  else s.awaitRead k (hostAddr c 0) (c.arg 3)

/-- RESYNC (10_rate_conversion.md R221): its RESULT is the number of streams reset. -/
def State.resyncCmd (s : State) (k : Nat) (a : Nat) : State :=
  if bitOf a 31 then
    let f := a % 8192
    if s.fUsed f && s.fLaneEn f && s.RCV_LCFG_ENABLE (s.fLane f) == 1 then
      if (s.laneStreams (s.fLane f)).contains f then (s.resetStream (s.fLane f) f 10).complete k 0 1 else s.complete k 0 0
    else s.complete k 4 0
  else
    let l := a % 16
    if s.RCV_LCFG_ENABLE l = 1 then (s.resetLane l 10).complete k 0 (s.laneStreams l).length else s.complete k 4 0

/-- Offset, validity and leap fields of TIME_SET (03_time_base.md R53, R66). -/
def State.utcCmd (s : State) (c : HostCmd) : State :=
  let v := c.arg 4
  s.setUtc (v % 65536) (bits v 16 1) (bits v 17 1) (bits v 18 1) (c.arg 5)

/-- TIME_SET, in full or UTC-only by bit 0 of A0 (03_time_base.md R66). -/
def State.timeSetCmd (s : State) (k : Nat) (c : HostCmd) : State :=
  if bitOf (c.arg 0) 0 then (s.utcCmd c).complete k 0 0
  else if s.tim.source ≠ 0 then s.complete k 6 0
  else
    let t := ofDev64 (c.arg 1 * 2 ^ 32 + c.arg 2)
    let s1 := ((s.stepTime ((t : Int) - (s.now : Int)) 3).setBound (c.arg 3) true).modTim fun m => { m with everSet := true }
    let s2 := s1.updateQuality
    (if bitOf (c.arg 0) 1 then s2.utcCmd c else s2).complete k 0 0

/-- TIME_ADJUST (R66). -/
def State.timeAdjustCmd (s : State) (k : Nat) (a : Nat) : State :=
  if s.tim.source ≠ 0 then s.complete k 6 0 else (s.correct (sxt 32 a) 4).complete k 0 0

/-- The groups that a mask names. -/
def maskList (m n : Nat) : List Nat := (List.range n).filter (fun g => bitOf m g)

/-- CAPTURE_ARM of every named group, or none (12_event_capture.md R268). -/
def armAll : List Nat → State → Option State
  | [], s => some s
  | g :: r, s => (s.armGroup g).bind (armAll r)

/-- CAPTURE_ARM. -/
def State.captureArmCmd (s : State) (k m : Nat) : State :=
  let l := maskList m 16
  if l.any (fun g => s.CAP_GCFG_ENABLE g == 0) then s.complete k 4 0
  else
    match armAll l s with
    | some s1 => s1.complete k 0 0
    | none => s.complete k 8 0

/-- CAPTURE_FORCE. -/
def State.captureForceCmd (s : State) (k m : Nat) : State :=
  let l := maskList m 16
  if l.any (fun g => s.CAP_GCFG_ENABLE g == 0) then s.complete k 4 0
  else (s.forEach l fun s g => s.forceGroup g).complete k 0 0

/-- The 32 bytes of an event-log entry (18_protection_integrity.md Table PRT-6). -/
def LogEntry.bytes (e : LogEntry) : Bytes :=
  (leBytes 4 e.no ++ leBytes 8 (dev64 e.time) ++ [BitVec.ofNat 8 e.kind, BitVec.ofNat 8 e.state] ++ leBytes 2 e.code ++
    e.data.flatMap (fun (d : Nat × Nat) => leBytes d.2 d.1) ++ List.replicate 32 0).take 32

/-- LOG_FETCH (18_protection_integrity.md R379). -/
def State.logFetchCmd (s : State) (k : Nat) (c : HostCmd) : State :=
  let next := (s.reg R_PRT_LOGNEXT).toNat
  let first := min (max (c.arg 2) (next - s.log.length)) next
  let es := (s.log.reverse.drop (first - (next - s.log.length))).take (c.arg 3)
  let bs := es.flatMap LogEntry.bytes
  (s.hostWrites (bs.length / 128 + 2) (hostAddr c 0) bs).complete k 0 (es.length + 2 ^ 32 * (first + es.length))

/-- Byte `o` of a DIAG_DUMP source; the spec lays out the flow store alone. -/
def State.dumpAt (s : State) (src o : Nat) : Byte := if src = 2 then (s.flw.ctx.bytes 0 o 1).headD 0 else Config.dumpByte src o s.now

/-- DIAG_DUMP. -/
def State.diagDumpCmd (s : State) (k : Nat) (c : HostCmd) : State :=
  let bs := (List.range (c.arg 2)).map fun i => s.dumpAt (c.arg 3) (c.arg 4 + i)
  (s.hostWrites (bs.length / 128 + 2) (hostAddr c 0) bs).complete k 0 bs.length

/-- STREAM_SEND: the frame is read once its port can take it. -/
def State.streamSendCmd (s : State) (k : Nat) (c : HostCmd) : State :=
  let p := s.np (c.arg 0 % 4)
  if !p.blockLock || p.shed then s.complete k 8 0 else s.awaitRead k (hostAddr c 2) (c.arg 1)

/-- The effect of a judged command that is in flight under key k. -/
def State.carryOut (s : State) (op k : Nat) (c : HostCmd) (flashOk : Bool) : State :=
  match op with
  | 0x00 => s.complete k 0 (dev64 s.now)
  | 0x01 => s.runCmd k
  | 0x02 => (s.complete k 0 0).enterHalt 1
  | 0x03 => s.rebootCmd k flashOk
  | 0x04 => s.modFlight k fun f => { f with at_ := s.handoverAt }
  | 0x05 => s.takeoverCmd k
  | 0x08 => s.imageCmd k c
  | 0x09 => s.startCommit k (bitOf (c.arg 0) 0) (c.arg 1) (c.arg 2)
  | 0x0A => s.confirm k (c.arg 0)
  | 0x0B => s.rollbackCommand k
  | 0x0C => if s.cfg.job.isSome then s.complete k 6 0 else s.startFlash k (c.arg 0) (c.arg 1)
  | 0x10 => s.awaitRead k (hostAddr c 2) 512
  | 0x11 => s.flowCommands
  | 0x12 => s.resyncCmd k (c.arg 0)
  | 0x14 => s.timeSetCmd k c
  | 0x15 => s.timeAdjustCmd k (c.arg 0)
  | 0x18 => s.captureArmCmd k (c.arg 0)
  | 0x19 => s.captureForceCmd k (c.arg 0)
  | 0x1C => (s.modPwr fun p => { p with floor := c.arg 0 }).complete k 0 0
  | 0x20 => s.logFetchCmd k c
  | 0x21 => s.diagDumpCmd k c
  | 0x24 => s.streamSendCmd k c
  | _ => s

/-- A command starts: it is judged, and then executed here or sent to its device. -/
def State.startCommand (s : State) (op : Nat) (c : HostCmd) (flashOk : Bool) : State :=
  match s.judge op c with
  | (s1, some st) => s1.answer c st 0
  | (s1, none) =>
    if c.remote && c.src.isNone then s1.sendRemote op c
    else
      let (s2, k) := s1.takeOff op c
      (s2.carryOut op k c flashOk).deliver

/-- A command that a COMMAND cell brought runs at once (14_armature_links.md R308). -/
def State.cellCommand (s : State) (op : Nat) (c : HostCmd) : State := if s.glb.mode = .reset then s else s.startCommand op c true

/-- A class 3 payload for this device: COMMAND or COMPLETION, with the device that sent it (R308). -/
def State.manage (s : State) (dev : Nat) (payload : Bytes) : State :=
  if byteAt payload 0 = 0 then
    let (op, c) := parseEntry (payload.drop 1) 0 (some (BitVec.ofNat 14 dev))
    s.cellCommand op c
  else s.remoteDone dev (payload.drop 1)

/-- The management cells received in this step act in order. -/
def State.manageInbox (s : State) : State :=
  s.arm.inbox.foldl (fun s x => s.manage x.1 x.2) (s.modArm fun a => { a with inbox := [] })

/-- Commands of no assigned OPCODE at the head of the queue are judged as their turn comes (R317). -/
def State.drainUnassigned : Nat → State → State
  | 0, s => s
  | fuel + 1, s =>
    match s.hst.fetched with
    | (op, c) :: rest =>
      if (argMasks op c).isNone && s.mayStart op c then
        State.drainUnassigned fuel ((s.modHst fun h => { h with fetched := rest }).startCommand op c true)
      else s
    | [] => s

/-- They are judged as soon as the host interface acts again once they may start: at a fetch, a host command, and what opens the completion
ring. -/
def State.drain (s : State) : State := s.drainUnassigned s.hst.fetched.length

/-- A host command joins the commands fetched, unless it is one of them or 256 commands of the ring are in flight (R316, R318). -/
def State.joinFetched (s : State) (op : Nat) (c : HostCmd) : State :=
  if s.hst.fetched.contains (op, c) || decide (256 ≤ s.inFlight) then s else s.modHst fun h => { h with fetched := h.fetched ++ [(op, c)] }

/-- A host command starts if it is at the head of the commands fetched and may (R317). -/
def State.hostCommand (s : State) (op : Nat) (c : HostCmd) (flashOk : Bool) : State :=
  if s.glb.mode = .reset then s
  else
    let s1 := s.drain.joinFetched op c
    match s1.hst.fetched with
    | x :: rest =>
      if x = (op, c) ∧ s1.mayStart op c then ((s1.modHst fun h => { h with fetched := rest }).startCommand op c flashOk).drain else s1
    | [] => s1

/-! The rows of the table. -/

/-- NOP: its RESULT is the device time (R322). -/
def execNop (c : HostCmd) (s : State) : Res := .next (s.hostCommand 0x00 c true)
/-- RUN (02_modes.md R39). -/
def execRun (c : HostCmd) (s : State) : Res := .next (s.hostCommand 0x01 c true)
/-- HALT (R317, 02_modes.md R36). -/
def execHalt (c : HostCmd) (s : State) : Res := .next (s.hostCommand 0x02 c true)
/-- REBOOT; `flashOk`: the flash takes the trigger summaries (02_modes.md R37). -/
def execReboot (c : HostCmd) (flashOk : Bool) (s : State) : Res := .next (s.hostCommand 0x03 c flashOk)
/-- STANDBY (16_peer_bridge_twin.md R348). -/
def execStandby (c : HostCmd) (s : State) : Res := .next (s.hostCommand 0x04 c true)
/-- TAKEOVER (16_peer_bridge_twin.md R348). -/
def execTakeover (c : HostCmd) (s : State) : Res := .next (s.hostCommand 0x05 c true)
/-- IMAGE_WRITE (17_configuration.md R354). -/
def execImageWrite (c : HostCmd) (s : State) : Res := .next (s.hostCommand 0x08 c true)
/-- COMMIT (17_configuration.md R355). -/
def execCommit (c : HostCmd) (s : State) : Res := .next (s.hostCommand 0x09 c true)
/-- CONFIRM (17_configuration.md R360). -/
def execConfirm (c : HostCmd) (s : State) : Res := .next (s.hostCommand 0x0A c true)
/-- ROLLBACK (17_configuration.md R361). -/
def execRollback (c : HostCmd) (s : State) : Res := .next (s.hostCommand 0x0B c true)
/-- FLASH_WRITE (17_configuration.md R365). -/
def execFlashWrite (c : HostCmd) (s : State) : Res := .next (s.hostCommand 0x0C c true)
/-- FLOW_SET (R323). -/
def execFlowSet (c : HostCmd) (s : State) : Res := .next (s.hostCommand 0x10 c true)
/-- FLOW_CLEAR (06_flows.md R134). -/
def execFlowClear (c : HostCmd) (s : State) : Res := .next (s.hostCommand 0x11 c true)
/-- RESYNC (10_rate_conversion.md R221). -/
def execResync (c : HostCmd) (s : State) : Res := .next (s.hostCommand 0x12 c true)
/-- TIME_SET (03_time_base.md R66). -/
def execTimeSet (c : HostCmd) (s : State) : Res := .next (s.hostCommand 0x14 c true)
/-- The UTC-only form of TIME_SET: the same OPCODE with bit 0 of A0 (03_time_base.md R66). -/
def execTimeSetUtcOnly (c : HostCmd) (s : State) : Res := .next (s.hostCommand 0x14 c true)
/-- TIME_ADJUST (03_time_base.md R66). -/
def execTimeAdjust (c : HostCmd) (s : State) : Res := .next (s.hostCommand 0x15 c true)
/-- CAPTURE_ARM (12_event_capture.md R268). -/
def execCaptureArm (c : HostCmd) (s : State) : Res := .next (s.hostCommand 0x18 c true)
/-- CAPTURE_FORCE (12_event_capture.md R268). -/
def execCaptureForce (c : HostCmd) (s : State) : Res := .next (s.hostCommand 0x19 c true)
/-- SHED_TEST (02_modes.md R41, R44). -/
def execShedTest (c : HostCmd) (s : State) : Res := .next (s.hostCommand 0x1C c true)
/-- LOG_FETCH (18_protection_integrity.md R379). -/
def execLogFetch (c : HostCmd) (s : State) : Res := .next (s.hostCommand 0x20 c true)
/-- DIAG_DUMP (R322). -/
def execDiagDump (c : HostCmd) (s : State) : Res := .next (s.hostCommand 0x21 c true)
/-- STREAM_SEND (R322). -/
def execStreamSend (c : HostCmd) (s : State) : Res := .next (s.hostCommand 0x24 c true)
/-- A command with REMOTE = 1, of any OPCODE (R324). -/
def execRemoteCommand (op : BitVec 8) (c : HostCmd) (s : State) : Res := .next (s.hostCommand op.toNat { c with remote := true } true)

end Sys2Proof.Machine
end

