-- ==== Sys2Proof/Machine/HostEvents.lean ====
section
/-! DEFINITION. Events of the host interface (15_host_interface.md R314 to R328): fetch and completion rings, DMA, MSI-X, PCIe link, host
queues, and the accesses of host and JTAG that have rows of their own in the opcode table. -/

namespace Sys2Proof.Machine

/-! Rings and DMA. -/

/-- No remote completion has come within 100 ms (REMOTE_COMMAND_TIMEOUT, R324). -/
def execRemoteCommandTimeout (tag : BitVec 8) (s : State) : Res := .next <|
  match s.hst.flights.find? (fun f => f.sent && f.cmd.tag == tag) with
  | some f => ((s.complete f.key 9 0).hstFlag 2).hCount 6
  | none => s

/-- Entries may be fetched: the ring is enabled, n more are there, and no more than 256 are in flight (R316, R318). Nothing is read in RESET
or after REBOOT (02_modes.md R37, R41). -/
def State.mayFetch (s : State) (n : Nat) : Bool :=
  s.HST_CTL_CR_EN == 1 && !s.hst.fetchStopped && s.glb.mode != .reset && !s.glb.rebootPending && decide (0 < n) && decide (n ≤ 8) &&
    decide (n ≤ (s.HST_CRTAIL_TAIL + 65536 - s.HST_CRHEAD_HEAD) % 65536) &&
    decide (s.inFlight + n ≤ 256)

/-- Address of the command ring: 16 KiB aligned, bits 13 to 0 ignored (R316). -/
def State.crBase (s : State) : Nat := ((s.reg R_HST_CRBASEH).toNat * 2 ^ 32 + (s.reg R_HST_CRBASEL).toNat) / 16384 * 16384

/-- The device reads the next n entries of the ring, those behind slot 255 from its start (R316, R326). -/
def State.fetchRead (s : State) (n : Nat) : State :=
  let slot := s.HST_CRHEAD_HEAD % 256
  let m := min n (256 - slot)
  State.hostReads 2 (State.hostReads 2 s (s.crBase + 64 * slot) (64 * m)) s.crBase (64 * (n - m))

/-- Fetched entries join the commands that wait to start (COMMAND_FETCH, R316). -/
def State.fetchEntries (s : State) (entries : List Bytes) : State :=
  let h := s.HST_CRHEAD_HEAD
  let cs := entries.zipIdx.map fun x => parseEntry x.1 ((h + x.2) % 256) none
  (((s.fetchRead entries.length).modHst fun y => { y with fetched := y.fetched ++ cs }).setFld R_HST_CRHEAD 0 16
    ((h + entries.length) % 65536)).drain

/-- COMMAND_FETCH: host memory returns up to 8 entries of 64 bytes. -/
def execCommandFetch (entries : List Bytes) (s : State) : Res := .next <|
  if s.mayFetch entries.length then s.fetchEntries entries else s

/-- The oldest completion held is written, where the ring takes one (COMPLETION_WRITE, R320). -/
def execCompletionWrite (s : State) : Res := .next <|
  match s.hst.held with
  | c :: r => if s.krOpen ∧ s.glb.mode ≠ .reset then ((s.modHst fun h => { h with held := r }).writeCpl c).drain else s
  | [] => s

/-- TIME_US has passed since the oldest unconsumed completion (COMPLETION_COALESCE_TIMEOUT, R327). -/
def execCompletionCoalesceTimeout (s : State) : Res := .next <|
  if s.HST_KCOAL_TIME_US ≠ 0 ∧ s.unconsumed ≠ 0 ∧ s.glb.mode ≠ .reset then s.raiseVector 0 else s

/-- A DMA read failed (DMA_TIMEOUT, R326): of a command's host address, by tag, or of the command ring. -/
def execDmaTimeout (tag : Option (BitVec 8)) (s : State) : Res := .next <|
  match tag with
  | some t =>
    match s.hst.flights.find? (fun f => f.awaited != 0 && f.cmd.tag == t) with
    | some f => (s.hstFlag 4).complete f.key 9 0
    | none => s
  | none =>
    if s.HST_CTL_CR_EN = 1 ∧ s.HST_CRHEAD_HEAD ≠ s.HST_CRTAIL_TAIL ∧ s.glb.mode ≠ .reset then
      ((s.fetchRead (min 8 ((s.HST_CRTAIL_TAIL + 65536 - s.HST_CRHEAD_HEAD) % 65536))).hstFlag 4).modHst fun h => { h with fetchStopped := true }
    else s

/-- All bytes that a command reads have come. -/
def State.readDone (s : State) (f : Flight) : State :=
  match f.op with
  | 0x08 => s.complete f.key 0 0
  | 0x24 =>
    let k := f.cmd.arg 0 % 4
    let s1 := s.when s.outOn fun s => s.portJob k (bits (f.cmd.arg 0) 8 3) 256 (wireLen f.data.length) (.raw f.data)
    s1.complete f.key 0 0
  | _ => s.flowCommand f

/-- Bytes of an IMAGE_WRITE reach the Maquette (17_configuration.md R353, R354). -/
def State.maqBytes (s : State) (a : Nat) (bs : Bytes) : State :=
  (s.areaWrite a bs).modCfg fun c => { c with maqUsed := true, maqVerSet := c.maqVerSet || (decide (a < 12) && decide (8 < a + bs.length)) }

/-- Host memory returns the next bytes of the read of the command with this tag (DMA_READ_COMPLETION, R326). -/
def execDmaReadCompletion (tag : BitVec 8) (bytes : Bytes) (s : State) : Res := .next <|
  match s.hst.flights.find? (fun f => f.awaited != 0 && f.cmd.tag == tag) with
  | some f =>
    if bytes = [] ∨ f.awaited < bytes.length then s
    else
      let g := { f with awaited := f.awaited - bytes.length, done := f.done + bytes.length, data := if f.op = 8 then [] else f.data ++ bytes }
      let s1 := s.modFlight f.key fun _ => g
      let s2 := if f.op = 8 then s1.maqBytes (f.cmd.arg 2 + f.done) bytes else s1
      if g.awaited = 0 then s2.readDone g else s2
  | none => s

/-! MSI-X and the link (R313, R315, R327). -/

/-- A word of the MSI-X table is written; a pending vector that is unmasked sends its message (R327). -/
def State.msixWord (s : State) (off v : Nat) : State :=
  let x := if off % 16 = 12 then v % 2 else if off % 16 = 0 then v / 4 * 4 else v
  let s1 := s.modHst fun h => { h with msix := h.msix.set msixReset off (BitVec.ofNat 32 x) }
  let n := off / 16
  if off % 16 = 12 ∧ x = 0 ∧ s1.hst.msixPend.contains n then
    (s1.modHst fun h => { h with msixPend := h.msixPend.filter (· != n) }).raiseVector n
  else s1

/-- MSIX_UNMASK of a vector. -/
def execMsixUnmask (v : Fin 64) (s : State) : Res := .next <| if s.glb.mode = .reset then s else s.msixWord (16 * v.val + 12) 0

/-- The PCIe link goes down (R315): what is fetched and not started is discarded, CR_EN and KR_EN clear. -/
def State.pcieDown (s : State) : State :=
  if s.glb.mode = .reset then s
  else
    let s1 := (s.countN (R_HST_GCNT 4) s.hst.fetched.length).modHst fun h => { h with fetched := [], fetchStopped := false, power := .d0 }
    (s1.setReg R_HST_CTL 0).hstFlag 3

/-- PCIE_LINK_DOWN. -/
def execPcieLinkDown (s : State) : Res := .next s.pcieDown

/-- PCIE_PERST# is asserted: it acts as a link-down (20_electrical.md R412). -/
def execPciePerst (s : State) : Res := .next (s.pcieDown)

/-! Host queues in host memory (R328). -/

/-- The bytes of an entry in the ring: descriptor and data, padded to a multiple of 32. -/
def HqEntry.ringBytes (e : HqEntry) : Bytes :=
  let b := (leBytes 4 e.word0 ++ e.words.flatMap (leBytes 4) ++ List.replicate 32 0).take 32 ++ e.data
  b ++ List.replicate ((32 - b.length % 32) % 32) 0

/-- The head entry of queue h moves into its ring and HST_HQWR advances (HOST_QUEUE_DMA). -/
def State.hqDma (s : State) (h : Nat) (e : HqEntry) (rest : List HqEntry) : State :=
  let size := 2 ^ s.HST_HQSIZE_LOG2 h
  let wr := s.HST_HQWR_WR h
  let bs := e.ringBytes
  let used := (wr + 2 ^ 32 - s.HST_HQRD_RD h) % 2 ^ 32
  if size < used + bs.length then s
  else
    let base := ((s.reg (R_HST_HQBASEH h)).toNat * 2 ^ 32 + (s.reg (R_HST_HQBASEL h)).toNat) / size * size
    let o := wr % size
    let s1 := s.setHq h { s.hq h with entries := rest }
    let s2 := s1.hostWrites (bs.length / 128 + 2) (base + o) (bs.take (size - o))
    let s3 := s2.hostWrites (bs.length / 128 + 2) base (bs.drop (size - o))
    let s4 := s3.setReg (R_HST_HQWR h) (BitVec.ofNat 32 (wr + bs.length))
    if used = 0 then s4.raiseVector (hqVector h) else s4

/-- HOST_QUEUE_DMA. -/
def execHostQueueDma (h : Fin 16) (s : State) : Res := .next <|
  if s.EGR_HQCFG_DMA h = 1 ∧ s.glb.mode ≠ .reset then
    match (s.hq h).entries with
    | e :: rest =>
      let (s1, lost) := s.useEntry 9 (1024 + 16 * e.seq + h.val)
      if lost then (s1.setHq h { s1.hq h with entries := rest }).count (R_PRT_ECCDROP 9) else s.hqDma h e rest
    | [] => s
  else s

/-! Accesses with rows of their own. A near master is the host (M0), or JTAG (M4) where the row says so. -/

/-- The master's number. -/
def nearMaster (jtag : Bool) : Nat := if jtag then 4 else 0

/-- A word write of a near master. -/
def State.wordBy (s : State) (jtag : Bool) (off v : Nat) : State := s.busAccess ⟨nearMaster jtag, off, 4, true, leBytes 4 v⟩

/-- COMMAND_DOORBELL: HST_CRTAIL (R316). -/
def execCommandDoorbell (v : BitVec 32) (s : State) : Res := .next (s.wordBy false R_HST_CRTAIL v.toNat)
/-- COMPLETION_HEAD_WRITE: HST_KRHEAD (R320). -/
def execCompletionHeadWrite (v : BitVec 32) (s : State) : Res := .next (s.wordBy false R_HST_KRHEAD v.toNat).drain
/-- HOST_CONTROL_WRITE: HST_CTL (R315). -/
def execHostControlWrite (v : BitVec 32) (s : State) : Res := .next (s.wordBy false R_HST_CTL v.toNat).drain
/-- RING_BASE_WRITE: command ring low and high, completion ring low and high (R316). -/
def execRingBaseWrite (which : Fin 4) (v : BitVec 32) (s : State) : Res := .next <|
  s.wordBy false ([R_HST_CRBASEL, R_HST_CRBASEH, R_HST_KRBASEL, R_HST_KRBASEH].getD which.val R_HST_CRBASEL) v.toNat
/-- HOST_QUEUE_ACK: EGR_HQACK (13_egress.md R285). -/
def execHostQueueAck (h : Fin 16) (v : BitVec 32) (s : State) : Res := .next (s.wordBy false (R_EGR_HQACK h) v.toNat)
/-- HQ_READ_OFFSET_WRITE: HST_HQRD (R328). -/
def execHqReadOffsetWrite (h : Fin 16) (v : BitVec 32) (s : State) : Res := .next (s.wordBy false (R_HST_HQRD h) v.toNat)
/-- TIM_SNAP (03_time_base.md R51). -/
def execTimSnap (jtag : Bool) (v : BitVec 32) (s : State) : Res := .next (s.wordBy jtag R_TIM_SNAP v.toNat)
/-- LANE_SWAP_REQUEST: RCV_LSWAP (10_rate_conversion.md R223). -/
def execLaneSwapRequest (l : Fin 16) (v : BitVec 32) (s : State) : Res := .next (s.wordBy false (R_RCV_LSWAP l) v.toNat)
/-- CAPTURE_ACK: CAP_GACK (12_event_capture.md R269). -/
def execCaptureAck (g : Fin 16) (v : BitVec 32) (s : State) : Res := .next (s.wordBy false (R_CAP_GACK g) v.toNat)
/-- RESULT_SELECT: ANA_RSEL (11_analysis_triggers.md R253). -/
def execResultSelect (v : BitVec 32) (s : State) : Res := .next (s.wordBy false R_ANA_RSEL v.toNat)
/-- PAIR_SELECT: ANA_PSEL (11_analysis_triggers.md R253). -/
def execPairSelect (v : BitVec 32) (s : State) : Res := .next (s.wordBy false R_ANA_PSEL v.toNat)
/-- LOCK_START: PBR_LOCK with START (16_peer_bridge_twin.md R338). -/
def execLockStart (jtag : Bool) (block : BitVec 5) (s : State) : Res := .next (s.wordBy jtag R_PBR_LOCK (block.toNat + 256))
/-- LOCK_END: PBR_LOCK with END (16_peer_bridge_twin.md R338). -/
def execLockEnd (jtag : Bool) (block : BitVec 5) (s : State) : Res := .next (s.wordBy jtag R_PBR_LOCK (block.toNat + 512))
/-- WINDOW_PAGE_WRITE: GLB_WINPAGE (19_register_map.md R383). -/
def execWindowPageWrite (jtag : Bool) (v : BitVec 32) (s : State) : Res := .next (s.wordBy jtag R_GLB_WINPAGE v.toNat)
/-- WINDOW_WRITE at a word of the window (19_register_map.md R384). -/
def execWindowWrite (jtag : Bool) (word : BitVec 17) (v : BitVec 32) (s : State) : Res := .next (s.wordBy jtag (0x180000 + 4 * word.toNat) v.toNat)
/-- FREEMIN_WRITE: ALN_FREEMIN (09_alignment.md R188). -/
def execFreeminWrite (jtag : Bool) (v : BitVec 32) (s : State) : Res := .next (s.wordBy jtag R_ALN_FREEMIN v.toNat)

/-- BRIDGE_WINDOW_ACCESS of any size through the window, while the master's page is one of 0x080 to 0x083 (16_peer_bridge_twin.md
R333). -/
def execBridgeWindowAccess (jtag : Bool) (x : BitVec 19) (len : Nat) (write : Bool) (data : Bytes) (s : State) : Res := .next <|
  if s.farPage (nearMaster jtag) then s.busAccess ⟨nearMaster jtag, 0x180000 + x.toNat, len, write, data⟩ else s

/-- The class of the register at an offset. -/
def isClass (off : Nat) (c : RegClass) : Bool :=
  match regRow off with
  | some r => r.cls == c
  | none => false

/-- FLAG_CLEAR: a write to a flag register (18_protection_integrity.md R377). -/
def execFlagClear (jtag : Bool) (off : BitVec 21) (v : BitVec 32) (s : State) : Res := .next <|
  if isClass off.toNat .flags then s.wordBy jtag off.toNat v.toNat else s

/-- COUNTER_CLEAR: a write of any value to a counter (18_protection_integrity.md R377). -/
def execCounterClear (jtag : Bool) (off : BitVec 21) (v : BitVec 32) (s : State) : Res := .next <|
  if isClass off.toNat .counter then s.wordBy jtag off.toNat v.toNat else s

/-- ABSENT_UNIT_ACCESS: a word of an absent unit (00_scope.md R5). -/
def execAbsentUnitAccess (jtag : Bool) (off : BitVec 21) (write : Bool) (v : BitVec 32) (s : State) : Res := .next <|
  if off.toNat < 0x110000 ∧ s.absentAt off.toNat then s.busAccess ⟨nearMaster jtag, off.toNat, 4, write, leBytes 4 v.toNat⟩ else s

/-- An offset that names nothing for the master: no register, a gap, or a reserved page. -/
def State.isReserved (s : State) (m off : Nat) : Bool :=
  if off < 0x110000 then (regRow off).isNone && !s.absentAt off
  else if off < 0x180000 then true
  else !s.farPage m && (match pageTarget (s.pageOf m) with
    | none => true
    | some t => decide (t.2.2 ≤ off - 0x180000))

/-- RESERVED_ACCESS: a reserved offset or page (19_register_map.md R381). -/
def execReservedAccess (jtag : Bool) (off : BitVec 21) (write : Bool) (v : BitVec 32) (s : State) : Res := .next <|
  if s.isReserved (nearMaster jtag) off.toNat then s.busAccess ⟨nearMaster jtag, off.toNat, 4, write, leBytes 4 v.toNat⟩ else s

/-- An access of the host to BAR4: the MSI-X table, and the pending bits, which are not written (R314, Table HST-2). -/
def State.bar4Write (s : State) (off len : Nat) (bs : Bytes) : State :=
  if s.glb.mode = .reset then s
  else if !((len == 4 || len == 8) && off % len == 0) && !longWrite off len then s.hstFlag 5
  else (wordOffs off len).zipIdx.foldl (fun s x => if x.1 < 0x400 then s.msixWord x.1 (dataWord bs x.2) else s) s

/-- The bytes of BAR4: the MSI-X table, then the pending bits at 0x800. -/
def State.bar4Read (s : State) (off n : Nat) : Bytes :=
  (List.range n).map fun i =>
    let a := off + i
    if a < 0x400 then BitVec.ofNat 8 ((s.hst.msix.get msixReset (a / 4 * 4)).toNat / 256 ^ (a % 4))
    else if 0x800 ≤ a ∧ a < 0x808 then BitVec.ofNat 8 (packWord ((List.range 8).map fun j => (b1 (s.hst.msixPend.contains (8 * (a - 0x800) + j)), j, 1)))
    else 0

/-- BAD_ACCESS: an unsupported size or alignment in BAR0 or BAR4 (R314). -/
def execBadAccess (bar4 : Bool) (off : BitVec 21) (len : Nat) (write : Bool) (s : State) : Res := .next <|
  if s.glb.mode = .reset ∨ ((len == 4 || len == 8) && off.toNat % len == 0) ∨
      (write ∧ longWrite off.toNat len) then s
  else if bar4 then
    if write then s.bar4Write off.toNat len [] else (s.hstFlag 5).emit (.readData 0 (List.replicate len 0))
  else s.busAccess ⟨0, off.toNat, len, write, List.replicate len 0⟩

/-- BAR2_READ (12_event_capture.md R270). -/
def execBar2Read (x : BitVec 26) (len : Nat) (s : State) : Res := .next <| if s.glb.mode = .reset then s else s.bar2Read x.toNat len
/-- BAR2_WRITE (12_event_capture.md R270). -/
def execBar2Write (s : State) : Res := .next <| if s.glb.mode = .reset then s else s.bar2Write

/-- REGISTER_WRITE: a write of 4 to 256 bytes to BAR0 by a near master, or to BAR4 by the host (R314). -/
def execRegisterWrite (jtag bar4 : Bool) (off : BitVec 21) (data : Bytes) (s : State) : Res := .next <|
  if bar4 then s.bar4Write (off.toNat % 4096) data.length data else (s.busAccess ⟨nearMaster jtag, off.toNat, data.length, true, data⟩).drain

end Sys2Proof.Machine
end

