-- ==== Sys2Proof/Machine/RunEnds.lean ====
section
/-! DEFINITION. The commands that start and end runs (07_chisel_machine.md R139 to R162), with what waits for them: a FLOW_SET or FLOW_CLEAR of
the flow (06_flows.md R134) and a commit (17_configuration.md R357). -/

namespace Sys2Proof.Machine

/-- What has waited for runs to end goes on: a commit at its instant, then FLOW_SET and FLOW_CLEAR. -/
def State.runsSettled (s : State) : State := (s.commitReady.flowCommands).deliver

/-- One TCLK cycle passes (03_time_base.md R50), and what has waited for runs to end goes on. -/
def State.idle (s : State) : State := s.tick.wakeThreads.runsSettled

/-- DISPATCH (07_chisel_machine.md R139). -/
def execDispatch (h : Thr) (s : State) : Res := .next (s.runsSettled.dispatchThread h)

/-- RUN_START (R141, R145). -/
def execRunStart (h : Thr) (s : State) : Res := .next (s.runsSettled.runStart h)

/-- Write-back of a run ends (WRITE_BACK_DONE, R149, R154). -/
def execWriteBackDone (h : Thr) (s : State) : Res := .next (s.writeBackDone h).runsSettled

/-- The run has issued BUDGET instructions without a disposition (BUDGET_ABORT, R155). -/
def execBudgetAbort (h : Thr) (s : State) : Res := .next (s.budgetAbort h).runsSettled

/-- RUN_LIMIT_US has passed since the run's first issue (RUN_LIMIT_ABORT, R155). -/
def execRunLimitAbort (h : Thr) (s : State) : Res := .next (s.runLimitAbort h).runsSettled

/-- 8 µs after SHED4 entry (SHED4_RUN_ABORT, R162). -/
def execShed4RunAbort (s : State) : Res := .next s.shed4Abort.runsSettled

/-- Device time reaches the commit instant, or the runs that a commit waits for have ended (COMMIT_INSTANT, 17_configuration.md R356, R357). -/
def execCommitInstant (s : State) : Res := .next s.commitInstant

/-- The confirm window expires (CONFIRM_WINDOW_EXPIRY, 17_configuration.md R361). -/
def execConfirmWindowExpiry (s : State) : Res := .next s.windowExpiry

end Sys2Proof.Machine
end

