-- ==== Sys2Proof/Machine/PeerRx.lean ====
section
/-! DEFINITION. The peer link's receiving side and twin operation (16_peer_bridge_twin.md R329 to R349): lanes, packets and their
judgement, heartbeats, bridge requests and responses, locks, mirrors, the copy to a new standby, takeover and handover. -/

namespace Sys2Proof.Machine

/-! The link (R329, R330). -/

/-- The link goes down and retrains; what waits on it is dropped, and the sync state ends (R329, Table PBR-3). -/
def State.peerDown (s : State) : State :=
  let s1 := if s.pbr.up then ((s.dropBridge.pbrFlag 0).pCount 12).pump else s
  s1.modPbr fun b => { b with up := false, good := 0, lanes := 0, hbQ := [], sync := 0, copied := [], txSeq := [], rxSeq := [] }

/-- Lane i of the peer link loses block lock (PEER_LANE_LOSS): the link goes on with the other, or goes down. -/
def execPeerLaneLoss (lane : Fin 2) (s : State) : Res := .next <|
  if !s.peerRuns || !bitOf s.pbr.lanes lane.val then s
  else if s.pbr.lanes = 3 then
    let s1 := s.modPbr fun b => { b with lanes := b.lanes - 2 ^ lane.val }
    if s1.pbr.up then s1.pbrFlag 1 else s1
  else s.peerDown

/-- A lost lane is retrained every 1 s (PEER_LANE_RETRAIN). -/
def execPeerLaneRetrain (lane : Fin 2) (s : State) : Res := .next <|
  if s.peerRuns && !bitOf s.pbr.lanes lane.val && s.pbr.lanes != 0 then s.pCount 12 else s

/-- Lane i gains block lock (PEER_LANE_BLOCK_LOCK). -/
def execPeerLaneBlockLock (lane : Fin 2) (s : State) : Res := .next <|
  if s.peerRuns && !bitOf s.pbr.lanes lane.val then s.modPbr fun b => { b with lanes := b.lanes + 2 ^ lane.val } else s

/-- No valid packet has come for 100 µs (PEER_LINK_DOWN). -/
def execPeerLinkDown (s : State) : Res := .next <| if s.pbr.up then s.peerDown else s

/-- An elastic buffer overruns or underruns (PEER_ELASTIC_BUFFER_ERROR): EB_ERR, and the link retrains. -/
def execPeerElasticBufferError (lane : Fin 2) (s : State) : Res := .next <|
  if s.peerRuns && bitOf s.pbr.lanes lane.val then (s.pCount 11).peerDown else s

/-! Packets (Table PBR-1, R332). -/

/-- A received packet and the SEQ of its header. -/
structure RxPacket where
  p : Packet
  seq : Nat
  version : Nat
  trailer : Nat

/-- Take a packet apart. -/
def parsePacket (bs : Bytes) : RxPacket :=
  { p := { typ := byteAt bs 0 % 16, locked := bitOf (byteAt bs 1) 7, lockEnd := bitOf (byteAt bs 1) 6, poll := bitOf (byteAt bs 1) 5,
           size := byteAt bs 2 % 8, tag := byteAt bs 3, epoch := be2 bs 4, status := byteAt bs 6, origin := byteAt bs 7 % 16,
           key := be2 bs 8, addr := beNat ((bs.drop 12).take 4), payload := (bs.drop 16).take (bs.length - 20) }
    seq := be2 bs 10, version := byteAt bs 0 / 16, trailer := beNat (bs.drop (bs.length - 4)) }

/-- Bytes that a SIZE code stands for. -/
def packetBytesOf (code : Nat) : Nat := if code = 4 then 64 else 2 ^ code

/-- The payload length that a TYPE and SIZE may have: a request without payload is a read. -/
def payloadOk (p : Packet) : Bool :=
  let n := p.payload.length
  match p.typ with
  | 0 => n == packetBytesOf p.size
  | 1 | 2 => n == 0 || n == packetBytesOf p.size
  | 3 => n == 8
  | 4 => n == 16
  | 5 => decide (p.addr ≤ 3) && n == [64, 64, 8, 12].getD p.addr 0
  | _ => n == 0

/-- Reserved bits, TYPE, SIZE, VERSION and payload length (R332). A heartbeat's VERSION is judged by R330. -/
def packetForm (bs : Bytes) : Bool :=
  let x := parsePacket bs
  decide (20 ≤ bs.length) && decide (x.p.typ ≤ 6) && byteAt bs 1 % 32 == 0 && byteAt bs 2 / 8 == 0 && decide (x.p.size ≤ 4) &&
    byteAt bs 7 / 16 == 0 && decide (x.p.key < 8192) && decide (x.p.addr < 2 ^ 21) && (x.version == 1 || x.p.typ == 4) && payloadOk x.p

/-- The device ID that the fold prefix takes: a heartbeat's own, so that R330 can judge it. -/
def State.foldId (s : State) (x : RxPacket) : Nat := if x.p.typ = 4 then be2 x.p.payload 6 else s.ARM_ID_DEVICE_ID

/-- Judge a packet by the four steps of R297, its expected SEQ kept per TYPE; before the link is up only heartbeats are taken, by the
SEQ of their header. -/
def State.takePacket (s : State) (bs : Bytes) : State × Option RxPacket :=
  let x := parsePacket bs
  let id := s.foldId x
  let e := if s.pbr.up then s.pbr.rxSeq.at 0 x.p.typ else x.seq
  let s0 := s.when s.pbr.up fun s => s.snoop 6 0 bs none (foldPrefix id x.p.key e)
  if !s.peerRuns || s.pbr.lanes = 0 then (s, none)
  else if !packetForm bs then (s0.pCount 2, none)
  else if !s.pbr.up && x.p.typ != 4 then (s, none)
  else
    let body := bs.take (bs.length - 4)
    let ok := fun q => foldCrc id x.p.key q body == x.trailer
    let next := fun (s : State) q => (s.when s.pbr.up fun s => s.modPbr fun b => { b with rxSeq := b.rxSeq.put 0 x.p.typ ((q + 1) % 65536) }).pCount 0
    if ok e then (next s0 e, some x)
    else if ok x.seq then
      let d := (x.seq + 65536 - e) % 65536
      if 1 ≤ d ∧ d ≤ 32767 then (next (s0.pCount 3) x.seq, some x) else (s0.pCount 4, none)
    else (s0.pCount 2, none)

/-! Takeover and handover (R345, R347, R348). -/

/-- Commands of an OPCODE executing here complete. -/
def State.completeOp (s : State) (op status : Nat) : State :=
  ((s.hst.flights.filter (fun f => f.op == op && !f.sent)).map (·.key)).foldl (fun s k => s.complete k status 0) s

/-- A STANDBY device of a twin pair has a reason to take over: PEER_FAULT sensed low, PEER_LOST, HANDOVER or a TAKEOVER command (R347). -/
def State.takeoverDue (s : State) : Bool :=
  s.glb.mode == .standby && s.PBR_CFG_TWIN == 1 &&
    (s.pbr.claimFor == 2 || (s.pbr.faultLine && !s.pbr.faultDriven) || decide (8 ≤ s.pbr.missed))

/-- Remember that a takeover is due. -/
def State.wantTakeover (s : State) : State :=
  if s.glb.mode = .standby ∧ s.PBR_CFG_TWIN = 1 then s.modPbr fun b => { b with claimFor := 2 } else s

/-- ACTIVE_CLAIM has been sensed released for CLAIM_WAIT, or is held at its end (CLAIM_WAIT_EXPIRY, R345). -/
def execClaimWaitExpiry (s : State) : Res := .next <|
  if s.pbr.claimFor = 1 ∧ (s.glb.mode = .run ∨ s.glb.mode = .shed) then
    if s.pbr.claimLine then s.modPbr fun b => { b with claimFor := 0, silentAt := some s.handoverAt }
    else ((s.claimPin true).modPbr fun b => { b with claimFor := 0 }).followAlarms
  else if s.takeoverDue && !s.pbr.claimLine then s.takeOver.completeOp 5 0
  else s

/-- ACTIVE_CLAIM is sensed at another level (ACTIVE_CLAIM_CHANGE, R345): CLAIM_WAIT counts from here. -/
def execActiveClaimChange (held : Bool) (s : State) : Res := .next (s.modPbr fun b => { b with claimLine := held })

/-- PEER_FAULT is sensed low (PEER_FAULT_ASSERT, R344, R347); a device that drives the line itself ignores it. -/
def execPeerFaultAssert (s : State) : Res := .next <|
  let s1 := s.modPbr fun b => { b with faultLine := true }
  if s.pbr.faultDriven || s.pbr.faultLine || s.glb.mode == .reset then s1 else (s1.pbrFlag 3).wantTakeover

/-- PEER_FAULT is sensed released (PEER_FAULT_RELEASE, R344). -/
def execPeerFaultRelease (s : State) : Res := .next (s.modPbr fun b => { b with faultLine := false })

/-- Release in order every set of a domain up to and including set time t (R348 step 1). A set whose own condition does not hold takes a
cause that the spec does not name. -/
def State.releaseThrough (s : State) (d t : Nat) : State :=
  let r := s.rateOf d
  if !(s.dom d).started ∨ gridPt r (gridFloor r t) ≠ t then s
  else
    let lo := gridCeil r (s.dom d).cursor
    s.forEach ((List.range (gridFloor r t + 1 - lo)).map (fun i => gridPt r (lo + i))) fun s u =>
      let p := ((s.dom d).setAt u).getD { t := u }
      s.releaseSet d p ((s.releaseCause d p).getD Config.handoverCause.toNat)

/-- The frames that wait or are being built for port k leave. -/
def State.finishPort : Nat → State → Nat → State
  | 0, s, _ => s
  | fuel + 1, s, k =>
    match s.egr.builders.find? (fun x => x.2.isSome) with
    | some x => State.finishPort fuel (s.builderDone x.1) k
    | none =>
      if (s.netOut k).jobs = [] ∧ (s.netOut k).granted = none then s else State.finishPort fuel (s.grantPort k) k

/-- Mirror updates leave and frames complete (R348 step 1). -/
def State.finishFrames (s : State) : State :=
  let s1 := s.sendMirrors
  let s2 := s1.forEach (List.range (s1.pbr.hbQ.length + s1.pbr.mirQ.length)) fun s _ => s.sendNextPacket
  let s3 := s2.egr.setQ.foldl State.buildJobs (s2.modEgr fun e => { e with setQ := [] })
  s3.forEach [0, 1, 2, 3] fun s k => s.finishPort (16 + s.egr.builds.length + 2 * (s.netOut k).jobs.length) k

/-- The active side hands over at boundary t and enters STANDBY (R348). -/
def State.handOver (s : State) (t : Nat) : State :=
  let s1 := ((s.forEach domList fun s d => if s.ALN_DCFG_ENABLE d = 1 then s.releaseThrough d t else s).deliver).finishFrames
  s1.when (s1.PBR_CFG_TWIN == 1) (fun s => s.queueHeartbeat true false) |>.enterStandby

/-- A STANDBY command at a boundary outside RUN is judged again (02_modes.md R41): BUSY in SHED (R348), refused for its mode in any other. -/
def State.judgeStandby (s : State) : State :=
  if s.glb.mode = .shed then s.completeOp 4 6
  else (s.hst.flights.filter (fun f => f.op == 4 && !f.sent)).foldl (fun s f => (s.modeRefused 4 f.cmd).complete f.key 1 0) s

/-- Device time has reached a handover boundary (HANDOVER_BOUNDARY): for a silent twin device, for a STANDBY command or for a
HANDOVER_REQ. In SHED the first waits for a boundary in RUN, the second completes with BUSY and the third lapses. -/
def execHandoverBoundary (s : State) : Res := .next <|
  let due := fun (o : Option Nat) => match o with
    | some t => decide (t ≤ s.now)
    | none => false
  let cmds := (s.hst.flights.filter (fun f => f.op == 4 && !f.sent)).map (·.at_)
  let cmdDue := cmds.any (fun t => decide (t ≤ s.now))
  if due s.pbr.silentAt then
    if s.glb.mode = .run then s.enterStandby.completeOp 4 0
    else if s.glb.mode = .shed then s.modPbr fun b => { b with silentAt := some s.handoverAt }
    else s
  else if cmdDue || due s.pbr.handReq then
    let t := if cmdDue then cmds.headD 0 else s.pbr.handReq.getD 0
    if s.glb.mode = .run then (s.handOver t).completeOp 4 0
    else (s.when cmdDue State.judgeStandby).modPbr fun b => { b with handReq := none }
  else s

/-- No HANDOVER within 10 ms of a TAKEOVER, and ACTIVE_CLAIM still held (TAKEOVER_TIMEOUT, R348). -/
def execTakeoverTimeout (s : State) : Res := .next <|
  if s.glb.mode = .standby ∧ s.pbr.claimLine ∧ s.pbr.claimFor ≠ 2 then s.completeOp 5 6 else s

/-! Heartbeats (R343, R345, R348). -/

/-- HEARTBEAT_SEND. -/
def execHeartbeatSend (s : State) : Res := .next (s.queueHeartbeat false false)

/-- Why a heartbeat is not accepted: FAULT_CAUSE of R330, 0 when it is. -/
def State.heartbeatCause (s : State) (x : RxPacket) : Nat :=
  let pl := x.p.payload
  if be2 pl 6 ≠ s.ARM_ID_DEVICE_ID then 1
  else if bitOf (byteAt pl 1) 7 = s.glb.side then 2
  else if x.version ≠ 1 then 3
  else 0

/-- The link comes up with the third accepted heartbeat: SEQ starts at 0 (R330, Table PBR-1). -/
def State.linkComesUp (s : State) : State :=
  if s.pbr.up ∨ s.pbr.good < 3 then s
  else
    let s1 := s.modPbr fun b => { b with
      up := true, txSeq := [], rxSeq := [], mirSent := [], mirLeft := [], copied := [], sync := if s.glb.mode = .standby then 1 else 0 }
    if s.pbr.lanes = 3 then s1 else s1.pbrFlag 1

/-- What the partner's heartbeat shows is kept; a version that differs sets VERSION_DIFF once (R343, R349). -/
def State.noteHeartbeat (s : State) (pl : Bytes) : State :=
  let v := beNat ((pl.drop 8).take 4)
  let isNew := s.pbr.peerVer != v || !s.pbr.up
  let s1 := s.modPbr fun b => { b with
    good := min 3 (b.good + 1), cause := 0, missed := 0, peerMode := byteAt pl 0 % 8, peerShed := byteAt pl 0 / 16 % 8,
    peerActive := bitOf (byteAt pl 1) 0, peerSync := byteAt pl 1 / 16 % 4, peerEpoch := be2 pl 2, peerPeriod := byteAt pl 4, peerVer := v }
  if isNew && v != 0 && s.cfg.runVer != 0 && v != s.cfg.runVer then s1.pbrFlag 12 else s1

/-- The active side starts the copy to a standby that asks for it, and again while it is not complete (R349). -/
def State.startCopy (s : State) : State :=
  if s.glb.active && s.pbr.up && s.pbr.peerMode == 4 && (s.pbr.peerSync == 1 || s.pbr.peerSync == 2) && s.pbr.copy.isNone && s.pbr.syncQ.isEmpty
  then s.modPbr fun b => { b with copy := some 0 }
  else s

/-- Both sides claim: side B releases ACTIVE_CLAIM at once and counts DUAL_ACTIVE (R345). From then on it is a twin that finds the line held: silent,
until it enters STANDBY from RUN at the handover boundary (02_modes.md R33, Table MOD-2, R38). -/
def State.resolveDual (s : State) : State :=
  if s.glb.active && s.pbr.peerActive && s.glb.side then
    (((((s.pCount 13).pbrFlag 6).claimPin false).followAlarms).quietPps).modPbr fun b => { b with silentAt := some s.handoverAt }
  else s

/-- HANDOVER lets a standby take over; HANDOVER_REQ is a STANDBY command to an active side in RUN (R347, R348). -/
def State.heedHeartbeat (s : State) (flags : Nat) : State :=
  let s1 := if bitOf flags 1 then s.wantTakeover else s
  if bitOf flags 2 && s1.glb.mode == .run && s1.glb.active && s1.pbr.handReq.isNone then
    s1.modPbr fun b => { b with handReq := some s1.handoverAt }
  else s1

/-- HEARTBEAT_RECEIVE. -/
def execHeartbeatReceive (bytes : Bytes) (s : State) : Res := .next <|
  match s.takePacket bytes with
  | (s1, some x) =>
    if x.p.typ ≠ 4 then s1
    else if s1.heartbeatCause x ≠ 0 then s1.modPbr fun b => { b with cause := s1.heartbeatCause x, good := 0 }
    else (((s1.noteHeartbeat x.p.payload).linkComesUp.startCopy).resolveDual).heedHeartbeat (byteAt x.p.payload 1)
  | (s1, none) => s1

/-- 100 µs pass with no accepted heartbeat (HEARTBEAT_MISS): the eighth miss sets PEER_LOST, and a standby takes over. -/
def execHeartbeatMiss (s : State) : Res := .next <|
  if !s.peerRuns then s
  else
    let s1 := (s.pCount 10).modPbr fun b => { b with missed := min 255 (b.missed + 1), good := 0 }
    let s2 := if s1.pbr.missed = 8 ∧ s.pbr.missed = 7 then s1.pbrFlag 2 else s1
    if 8 ≤ s2.pbr.missed then s2.wantTakeover else s2

/-! Bridge requests of the partner (R331, R333 to R335). -/

/-- A response is queued in the buffer of 16 KiB (R337); one that finds no room is lost, and its request ends with TIMEOUT (log entry 146). -/
def State.respond (s : State) (p : Packet) (status : Nat) (payload : Bytes) : State :=
  if 16384 < sumList (s.pbr.respQ.map Packet.len) + 20 + payload.length then s
  else s.modPbr fun b => { b with respQ := b.respQ ++
    [{ typ := 2, size := p.size, tag := p.tag, epoch := s.glb.epoch.toNat, status := status, payload := payload }] }

/-- The request is executed as M1, after its epoch and, for a write, its alive counter. -/
def State.farRequest (s : State) (p : Packet) : BusRes :=
  let write := p.typ == 0 || p.payload != []
  let n := packetBytesOf p.size
  if p.epoch ≠ s.glb.epoch.toNat then ⟨s, 5, if write then [] else List.replicate n 0⟩
  else
    let a := if write then s.alive1 p.status else (s, true)
    if !a.2 then ⟨a.1, 0x0B, []⟩
    else if !sizeOk p.addr n then ⟨a.1, 0x0D, if write then [] else List.replicate n 0⟩
    else a.1.farAccess p.addr n write p.payload

/-- BRIDGE_REQUEST_RECEIVE. -/
def execBridgeRequestReceive (bytes : Bytes) (s : State) : Res := .next <|
  match s.takePacket bytes with
  | (s1, some x) =>
    if 1 < x.p.typ then s1
    else
      let r := s1.farRequest x.p
      let s2 := r.state.when (r.status != 0) fun s => s.pCount 14
      (if x.p.typ = 1 then s2.respond x.p r.status r.data else s2).deliver
  | (s1, none) => s1

/-! Responses (R335, R336, R338, R340). -/

/-- The summary of the partner is read: a rising bit sets FAR_INT (R340). -/
def State.farInt (s : State) (v : Nat) : State :=
  let old := (s.reg R_PBR_FARINT).toNat
  let s1 := s.setReg R_PBR_FARINT (BitVec.ofNat 32 v)
  if v &&& old = v then s1 else s1.pbrFlag 7

/-- The grant or LOCK_RETRY of a LOCK request (R338, R339); any other status ends the sequence. -/
def State.lockAnswer (s : State) (n : Near) (status : Nat) : State :=
  if status = 0 then s.setLockState 2
  else if status = 0x0C then s.lockRetry
  else ((s.modPbr fun b => { b with lockMaster := none }).nearFails status n.master n.addr 0 true).setLockState 0

/-- A response has come for request n. -/
def State.nearDone (s : State) (n : Near) (p : Packet) : State :=
  if n.lock then s.lockAnswer n p.status
  else if n.poll then (if p.status = 0 then s.farInt (leNat (p.payload.take 4)) else s.pbrFlag 8)
  else if p.status ≠ 0 then s.nearFails p.status n.master n.addr n.len n.write
  else if n.write then s
  else s.emit (.readData n.master p.payload)

/-- A RESPONSE packet: it ends the request of its TAG, or is late (R335). -/
def State.takeResponse (s : State) (bytes : Bytes) : State :=
  match s.takePacket bytes with
  | (s1, some x) =>
    if x.p.typ ≠ 2 then s1
    else
      match s1.pbr.nears.find? (fun n => n.left && n.tag == x.p.tag) with
      | none => s1.pCount 6
      | some n => ((s1.modPbr fun b => { b with nears := b.nears.filter (fun y => y.tag != n.tag) }).nearDone n x.p).pump
  | (s1, none) => s1

/-- BRIDGE_RESPONSE. -/
def execBridgeResponse (bytes : Bytes) (s : State) : Res := .next (s.takeResponse bytes).deliver

/-- LOCK_GRANT: the response to a LOCK request. -/
def execLockGrant (bytes : Bytes) (s : State) : Res := .next ((s.takeResponse bytes))

/-- A request has had no response for 50 µs (BRIDGE_TIMEOUT, R335, R340). -/
def execBridgeTimeout (tag : BitVec 8) (s : State) : Res := .next <|
  match s.pbr.nears.find? (fun n => n.left && n.tag == tag.toNat) with
  | none => s
  | some n =>
    let s1 := (s.modPbr fun b => { b with nears := b.nears.filter (fun y => y.tag != n.tag) }).pCount 5
    (if n.lock then s1.lockAnswer n 9
     else if n.poll then s1.pbrFlag 8
     else s1.nearFails 9 n.master n.addr n.len n.write).pump.deliver

/-! Locks of the partner (R338, R339). -/

/-- LOCK_REQUEST_RECEIVE: a LOCK packet asks for a block, or with LOCK_END gives it back. -/
def execLockRequestReceive (bytes : Bytes) (s : State) : Res := .next <|
  match s.takePacket bytes with
  | (s1, some x) =>
    let b := x.p.addr / 0x10000
    if x.p.typ ≠ 6 then s1
    else if x.p.lockEnd then (if s1.pbr.farLock = some b then (s1.modPbr fun y => { y with farLock := none }).pump else s1).deliver
    else if x.p.epoch ≠ s1.glb.epoch.toNat then s1.respond x.p 5 []
    else if s1.PBR_LOCK_STATE = 1 && !s1.glb.side then s1.respond x.p 0x0C []
    else (s1.modPbr fun y => { y with farLock := some b }).respond x.p 0 []
  | (s1, none) => s1

/-- A lock is released 2 µs after its grant (LOCK_EXPIRY): the far side frees the block, the near side refuses until END. -/
def execLockExpiry (far : Bool) (s : State) : Res := .next <|
  if far then
    if s.pbr.farLock.isSome then (((s.modPbr fun y => { y with farLock := none }).pCount 9).pbrFlag 10).pump.deliver else s
  else if s.PBR_LOCK_STATE = 2 then ((s.setLockState 4).pCount 9).pbrFlag 10
  else s

/-- LOCK_BACKOFF_EXPIRY: the LOCK request is sent again (R339). -/
def execLockBackoffExpiry (s : State) : Res := .next <| if s.PBR_LOCK_STATE = 3 ∧ s.requestRoom false 0 then s.sendLock else s

/-- FAR_INT_POLL (R340). -/
def execFarIntPoll (s : State) : Res := .next s.pollFar

/-! Mirrors and the copy to a standby (R204, R341, R349). -/

/-- MIRROR_SEND. -/
def execMirrorSend (s : State) : Res := .next s.sendMirrors

/-- MIRROR_RECEIVE: the word is shown, and a release cursor moves the standby's (R204, Table PBR-2). -/
def execMirrorReceive (bytes : Bytes) (s : State) : Res := .next <|
  match s.takePacket bytes with
  | (s1, some x) =>
    if x.p.typ ≠ 3 ∨ 64 ≤ x.p.key then s1
    else
      let v := beNat x.p.payload
      let s2 := (s1.setReg (R_PBR_MIRFAR x.p.key 0) (BitVec.ofNat 32 v)).setReg (R_PBR_MIRFAR x.p.key 1) (BitVec.ofNat 32 (v / 2 ^ 32))
      if x.p.key < 16 then (s2.mirrorTo x.p.key (v / 2 ^ 32 * nsPerSec + v % 2 ^ 30)).deliver else s2
  | (s1, none) => s1

/-- The three parts of a flow's copy have come: STATE, LEARN_CNT, HALF_LIFE, LQ_NS and the bins replace the flow's own. -/
def State.copyFlow (s : State) (f : Nat) (bs : Bytes) : State :=
  if !s.fUsed f then s
  else
    let s1 := ((s.setFctx f 0x20 1 (byteAt bs 0)).setFctx f 0x52 2 (be2 bs 1)).setFctx f 0x2E 1 (byteAt bs 3)
    (s1.setFctx f 0x58 4 (beNat ((bs.drop 4).take 4))).setFbytes f 0x60
      ((List.range 32).flatMap fun k => leBytes 4 (beNat ((bs.drop (8 + 4 * k)).take 4)))

/-- The copy has brought flow or stream record k. -/
def State.noteCopied (s : State) (k : Nat) : State :=
  if s.pbr.copied.contains k then s else s.modPbr fun b => { b with copied := k :: b.copied }

/-- The copy has brought every flow and the record of every SET stream that the standby has: it has ended (log entry 95). -/
def State.copyEnded (s : State) : Bool :=
  s.flowsUsed.all (fun f => s.pbr.copied.contains f) && (s.streamsOf 0).all (fun i => s.pbr.copied.contains (8192 + i))

/-- A part 0 to 2 of flow f: parts in order are gathered, any other discards the copy of that flow. -/
def State.syncFlow (s : State) (f part : Nat) (bs : Bytes) : State :=
  let s1 := s.modPbr fun b => { b with sync := if b.sync = 1 then 2 else b.sync }
  let have' := match s1.pbr.syncParts with
    | some (g, n, l) => if g = f then (n, l) else (0, [])
    | none => (0, [])
  let start := if part = 0 then (0, []) else have'
  if start.1 ≠ part then s1.modPbr fun b => { b with syncParts := none }
  else if part = 2 then (s1.modPbr fun b => { b with syncParts := none }).copyFlow f (start.2 ++ bs) |>.noteCopied f
  else s1.modPbr fun b => { b with syncParts := some (f, part + 1, start.2 ++ bs) }

/-- A stream record: OUT_SEQ is its value advanced by the mirrored releases after its set time (R275). -/
def State.streamSync (s : State) (i : Nat) (bs : Bytes) : State :=
  let t := ofDev64 (beNat ((bs.drop 4).take 8))
  let later := (s.outStream i).rels.filter (fun u => decide (t < u))
  (s.setReg (R_EGR_SSEQ i) (BitVec.ofNat 32 (beNat (bs.take 4) + later.length))).modStream i fun y => { y with rels := later }

/-- SYNC_RECEIVE at a standby. -/
def execSyncReceive (bytes : Bytes) (s : State) : Res := .next <|
  match s.takePacket bytes with
  | (s1, some x) =>
    if x.p.typ ≠ 5 ∨ s1.glb.mode ≠ .standby then s1
    else if x.p.addr = 3 then (if x.p.key < 256 then (s1.streamSync x.p.key x.p.payload).noteCopied (8192 + x.p.key) else s1)
    else s1.syncFlow x.p.key x.p.addr x.p.payload
  | (s1, none) => s1

/-- STREAM_RECORD_SEND: the active side's OUT_SEQ records for a standby (R275). -/
def execStreamRecordSend (s : State) : Res := .next <|
  if s.glb.active && s.pbr.up && s.pbr.peerMode == 4 then s.queueRecords else s

/-- SYNC_COMPLETE: the copy has ended and the largest W_max + 1 s has passed since STANDBY began (R349). -/
def execSyncComplete (s : State) : Res := .next <|
  let w := ((domList.filter (fun d => s.ALN_DCFG_ENABLE d == 1)).map s.wMax).foldl max 0
  if s.glb.mode = .standby ∧ s.pbr.up ∧ (s.pbr.sync = 1 ∨ s.pbr.sync = 2) ∧ s.copyEnded ∧ w + nsPerSec ≤ 4 * (s.tim.ticks - s.pbr.standbyAt) then
    (s.modPbr fun b => { b with sync := 3 }).pbrFlag 11
  else s

/-- PEER_PACKET_SEND: the next waiting packet leaves, and held near masters go on where there is room (R337). -/
def execPeerPacketSend (s : State) : Res := .next s.sendNextPacket.pump

end Sys2Proof.Machine
end

