-- ==== Sys2Proof/Machine/Events.lean ====
section
/-! DEFINITION. The block's own events between the stores: what the alignment store, the lanes, analysis, event capture, egress and the
Armature links do by themselves (09_alignment.md to 14_armature_links.md), and the scrubber (18_protection_integrity.md R376). -/

namespace Sys2Proof.Machine

/-! Alignment store. -/

/-- The store takes one HOLD record (STORE_INPUT, 09_alignment.md R191). -/
def execStoreInput (s : State) : Res := .next s.storeInput.deliver.drainInputs

/-- A domain's turn at a whole microsecond (DOMAIN_EVALUATE, R193 to R198). -/
def execDomainEvaluate (d : Fin 16) (s : State) : Res := .next <|
  if s.live then (s.evalDomain d).deliver else s

/-- Read-back of the oldest pending set of domain d completes (READ_BACK_DONE, R189). -/
def execReadBackDone (d : Fin 16) (s : State) : Res := .next (s.readBack d).deliver

/-- Entries of domain d's late ring reach REL_TIME + H_late (LATE_RING_EXPIRY, R199). -/
def execLateRingExpiry (d : Fin 16) (s : State) : Res := .next (s.lateExpiry d).deliver

/-- An SRAM bank has held no occupied slot for 1 ms (SRAM_BANK_GATE, 01_architecture.md R28, Table ARC-9). -/
def execSramBankGate (bank : Nat) (s : State) : Res := .next <|
  if s.glb.mode = .reset ∨ s.sramUsed bank = true ∨ bank ∈ s.aln.gated then s
  else s.modAln fun a => { a with gated := a.gated ++ [bank] }

/-! Lanes. -/

/-- Lane l takes a record (LANE_INPUT, 10_rate_conversion.md R213). -/
def execLaneInput (l : Fin 16) (s : State) : Res := .next (s.laneInput l).deliver.drainInputs

/-- Device time reaches the end of lane l's fade (FADE_END, R224). -/
def execFadeEnd (l : Fin 16) (s : State) : Res := .next (s.fadeEnd l).deliver

/-! Analysis and event capture. -/

/-- The analysis unit takes the set at the head of its queue (ANALYSE_SET, R250). -/
def execAnalyseSet (s : State) : Res := .next s.analyseNext

/-- Group g writes a set whose decision is known (CAPTURE_SAMPLE, 12_event_capture.md R256). -/
def execCaptureSample (g : Fin 16) (s : State) : Res := .next (s.captureSample g)

/-- The flush of a closed record of group g ends (CAPTURE_FLUSH_DONE, R260). -/
def execCaptureFlushDone (g : Fin 16) (s : State) : Res := .next (s.flushDone g)

/-- The oldest record of group g that waits for its late samples becomes FINAL (RECORD_FINAL, R264). -/
def execRecordFinal (g : Fin 16) (s : State) : Res := .next (s.recordFinal g)

/-- Unflushed summaries go to flash (SUMMARY_FLUSH, 02_modes.md R47, 12_event_capture.md R266), with the outcome of the program. -/
def execSummaryFlush (ok : Bool) (s : State) : Res := .next <|
  if s.hasCapture && s.glb.mode != .reset then s.flushSummaries ok else s

/-! Egress. -/

/-- The mirror update that carries the release of the set has left (13_egress.md R275); without a partner there is none to wait for. -/
def State.mirrored (s : State) (x : RelSet) : Bool :=
  s.PBR_CFG_TWIN != 1 || !s.pbr.up || !s.peerRuns ||
    let v := s.pbr.mirLeft.at 0 x.dom
    decide (x.t / nsPerSec % 2 ^ 32 * nsPerSec + x.t % nsPerSec < v / 2 ^ 32 * nsPerSec + v % 2 ^ 32)

/-- Frame build jobs of the oldest released set are queued (BUILD_JOB_QUEUE, R275). -/
def execBuildJobQueue (s : State) : Res := .next <|
  match s.egr.setQ with
  | x :: rest => if s.outOn && s.mirrored x then (s.modEgr fun e => { e with setQ := rest }).buildJobs x else s
  | [] => s

/-- An output scheduler grants its next job (SCHEDULER_GRANT, R272): ports NP0 to NP3 as 0 to 3, Armature links as 4 to 11, serial
transmitters SP0 to SP95 as 12 to 107, the host-queue stager as 108. -/
def execSchedulerGrant (n : Fin 109) (s : State) : Res := .next <|
  if n.val < 4 then s.grantPort n else if n.val < 12 then s.grantLink (n.val - 4) else s.grantStage n

/-- Frame builder b completes (FRAME_BUILD_DONE, R274). -/
def execFrameBuildDone (b : Fin 16) (s : State) : Res := .next (s.builderDone b)

/-- The late gather of stream i ends (LATE_GATHER_END, R281). -/
def execLateGatherEnd (i : BitVec 8) (s : State) : Res := .next (s.endGather i.toNat)

/-- Staged characters move into the transmit queue of port n (SERIAL_STAGING_FEED, R283). -/
def execSerialStagingFeed (n : Fin 96) (s : State) : Res := .next (s.feedSerial n)

/-- MIN_WIDTH_MS of ALARM_OUT[p] ends (ALARM_MIN_WIDTH_END, R288). -/
def execAlarmMinWidthEnd (p : Fin 4) (s : State) : Res := .next (s.minWidthEnd p)

/-! Armature links. -/

/-- Link k gains block lock (LINK_BLOCK_LOCK, 14_armature_links.md R292). -/
def execLinkBlockLock (k : Fin 8) (s : State) : Res := .next (s.gainLock k)

/-- 10 µs in HELLO (HELLO_SEND, R292). -/
def execHelloSend (k : Fin 8) (s : State) : Res := .next <| if (s.link k).state = 2 then s.sendHello k else s

/-- Link k is not UP after 100 ms (LINK_BRINGUP_TIMEOUT, R292). -/
def execLinkBringupTimeout (k : Fin 8) (s : State) : Res := .next (s.bringupTimeout k)

/-- Link k in FAULT tries again (LINK_FAULT_RETRY, R292). -/
def execLinkFaultRetry (k : Fin 8) (s : State) : Res := .next (s.retryLink k)

/-- Link k is lost (LINK_DOWN, R294). -/
def execLinkDown (k : Fin 8) (s : State) : Res := .next (s.loseLink k)

/-- 20 µs of SKIP and IDLE on an UP link (KEEPALIVE_HELLO, R294). -/
def execKeepaliveHello (k : Fin 8) (s : State) : Res := .next <| if s.linkUp k then s.sendHello k else s

/-- The elastic buffer of link k overruns or underruns (ELASTIC_BUFFER_ERROR, R295). -/
def execElasticBufferError (k : Fin 8) (s : State) : Res := .next (s.ebError k)

/-- A cell arrives on link k (CELL_RECEIVE, R297 to R309), its last block `ago` ns before this command. -/
def execCellReceive (k : Fin 8) (bytes : Bytes) (ago : Nat) (s : State) : Res := .next
  (s.receiveCell k bytes ago).manageInbox.drainInputs.deliver

/-- The preferred uplink has been UP for 10 s (UPLINK_REVERT, R303). -/
def execUplinkRevert (s : State) : Res := .next s.revertUplink

/-- The parent starts a time-transfer exchange on link k (TIME_EXCHANGE_START, R306). -/
def execTimeExchangeStart (k : Fin 8) (s : State) : Res := .next (s.startExchange k)

/-- One status cell on each UP link (STATUS_CELL_SEND, R309). -/
def execStatusCellSend (s : State) : Res := .next s.sendStatus

/-- Records of domain d that joined within 2 µs go up as set fragments (FRAGMENT_SEND, 09_alignment.md R207). -/
def execFragmentSend (d : Fin 16) (s : State) : Res := .next (s.sendFragments d)

/-! The scrubber. -/

/-- Words of 8 bytes of store s of Table PRT-5 on the IXM-96A: Table ARC-11, and the DDR as trained. Register words lie at their offset in
BAR0. -/
def State.storeWords (s : State) (st : Nat) : Nat :=
  match st with
  | 10 => if s.hasAnalysis then 65536 else 0
  | 12 => if s.ddrUsable then s.cfg.ddrBytes / 8 else 0
  | _ => [2097152, 524288, 65536, 32768, 196608, 262144, 131584, 131072, 3072, 262144, 0, 81920, 0, 131072].getD st 0

/-- Word `addr` of store `st` is there: the stores of absent ports, links and units are absent with them (01_architecture.md R31). The
stores of several ports or links hold them in ascending order, the peer buffers last (DESIGN CHOICE, log entry 123). -/
def State.storeHas (s : State) (st addr : Nat) : Bool :=
  decide (addr < s.storeWords st) &&
    (match st with
      | 7 => s.hasNp (addr / 32768)
      | 8 => s.hasPort (addr / 32)
      | 11 => if addr < 65536 then s.hasLink (addr / 8192) else s.hasPeer
      | _ => true)

/-- Word `addr` of store `st` was read and could be corrected (R375). -/
def State.eccCorrectable (s : State) (st addr : Nat) : State :=
  (((s.count (R_PRT_CECNT st)).setReg R_PRT_ECCLAST (BitVec.ofNat 32 st)).setReg R_PRT_ECCADDR (BitVec.ofNat 32 addr)).prtFlag 1

/-- Word `addr` of store `st` holds an uncorrectable error, and is left as it stands (R376); in the program store the device halts. -/
def State.eccFound (s : State) (st addr : Nat) : State :=
  let s1 := s.eccUncorrectable st addr
  let s2 : State := if s1.isBad st addr then s1 else { s1 with eccBad := (st, addr) :: s1.eccBad }
  if st = 3 then s2.fatal else s2

/-- A scrubber reads one word (SCRUB_READ, R376). -/
def execScrubRead (st : Fin 14) (addr : BitVec 32) (found : EccResult) (s : State) : Res := .next <|
  if s.glb.mode = .reset ∨ s.storeHas st addr.toNat = false then s
  else
    match found with
    | .clean => s
    | .correctable => s.eccCorrectable st addr.toNat
    | .uncorrectable => s.eccFound st addr.toNat

end Sys2Proof.Machine
end

