-- ==== Sys2Proof/Machine/Dispatch.lean ====
section
/-! DEFINITION. The meaning of each command, one arm for each row of the opcode table. -/

namespace Sys2Proof.Machine

def exec (i : Instr) (s : State) : Host.Outcome State Fault Refusal :=
  match i with
  | .nop c => Sys2Proof.Machine.execNop c s
  | .run c => Sys2Proof.Machine.execRun c s
  | .halt c => Sys2Proof.Machine.execHalt c s
  | .reboot c flashOk => Sys2Proof.Machine.execReboot c flashOk s
  | .standby c => Sys2Proof.Machine.execStandby c s
  | .takeover c => Sys2Proof.Machine.execTakeover c s
  | .imageWrite c => Sys2Proof.Machine.execImageWrite c s
  | .commit c => Sys2Proof.Machine.execCommit c s
  | .confirm c => Sys2Proof.Machine.execConfirm c s
  | .rollback c => Sys2Proof.Machine.execRollback c s
  | .flashWrite c => Sys2Proof.Machine.execFlashWrite c s
  | .flowSet c => Sys2Proof.Machine.execFlowSet c s
  | .flowClear c => Sys2Proof.Machine.execFlowClear c s
  | .resync c => Sys2Proof.Machine.execResync c s
  | .timeSet c => Sys2Proof.Machine.execTimeSet c s
  | .timeSetUtcOnly c => Sys2Proof.Machine.execTimeSetUtcOnly c s
  | .timeAdjust c => Sys2Proof.Machine.execTimeAdjust c s
  | .captureArm c => Sys2Proof.Machine.execCaptureArm c s
  | .captureForce c => Sys2Proof.Machine.execCaptureForce c s
  | .shedTest c => Sys2Proof.Machine.execShedTest c s
  | .logFetch c => Sys2Proof.Machine.execLogFetch c s
  | .diagDump c => Sys2Proof.Machine.execDiagDump c s
  | .streamSend c => Sys2Proof.Machine.execStreamSend c s
  | .remoteCommand op c => Sys2Proof.Machine.execRemoteCommand op c s
  | .remoteCommandTimeout tag => Sys2Proof.Machine.execRemoteCommandTimeout tag s
  | .commandDoorbell v => Sys2Proof.Machine.execCommandDoorbell v s
  | .commandFetch entries => Sys2Proof.Machine.execCommandFetch entries s
  | .completionWrite => Sys2Proof.Machine.execCompletionWrite s
  | .completionHeadWrite v => Sys2Proof.Machine.execCompletionHeadWrite v s
  | .hostControlWrite v => Sys2Proof.Machine.execHostControlWrite v s
  | .ringBaseWrite which v => Sys2Proof.Machine.execRingBaseWrite which v s
  | .completionCoalesceTimeout => Sys2Proof.Machine.execCompletionCoalesceTimeout s
  | .dmaTimeout tag => Sys2Proof.Machine.execDmaTimeout tag s
  | .msixUnmask v => Sys2Proof.Machine.execMsixUnmask v s
  | .pcieLinkDown => Sys2Proof.Machine.execPcieLinkDown s
  | .pciePerst => Sys2Proof.Machine.execPciePerst s
  | .hostQueueAck h v => Sys2Proof.Machine.execHostQueueAck h v s
  | .hostQueueDma h => Sys2Proof.Machine.execHostQueueDma h s
  | .hqReadOffsetWrite h v => Sys2Proof.Machine.execHqReadOffsetWrite h v s
  | .timSnap jtag v => Sys2Proof.Machine.execTimSnap jtag v s
  | .laneSwapRequest l v => Sys2Proof.Machine.execLaneSwapRequest l v s
  | .captureAck g v => Sys2Proof.Machine.execCaptureAck g v s
  | .resultSelect v => Sys2Proof.Machine.execResultSelect v s
  | .pairSelect v => Sys2Proof.Machine.execPairSelect v s
  | .lockStart jtag block => Sys2Proof.Machine.execLockStart jtag block s
  | .lockEnd jtag block => Sys2Proof.Machine.execLockEnd jtag block s
  | .windowPageWrite jtag v => Sys2Proof.Machine.execWindowPageWrite jtag v s
  | .windowWrite jtag word v => Sys2Proof.Machine.execWindowWrite jtag word v s
  | .bridgeWindowAccess jtag x len write data => Sys2Proof.Machine.execBridgeWindowAccess jtag x len write data s
  | .freeminWrite jtag v => Sys2Proof.Machine.execFreeminWrite jtag v s
  | .flagClear jtag off v => Sys2Proof.Machine.execFlagClear jtag off v s
  | .counterClear jtag off v => Sys2Proof.Machine.execCounterClear jtag off v s
  | .absentUnitAccess jtag off write v => Sys2Proof.Machine.execAbsentUnitAccess jtag off write v s
  | .reservedAccess jtag off write v => Sys2Proof.Machine.execReservedAccess jtag off write v s
  | .badAccess bar4 off len write => Sys2Proof.Machine.execBadAccess bar4 off len write s
  | .bar2Read x len => Sys2Proof.Machine.execBar2Read x len s
  | .bar2Write => Sys2Proof.Machine.execBar2Write s
  | .registerWrite jtag bar4 off data => Sys2Proof.Machine.execRegisterWrite jtag bar4 off data s
  | .vddAuxUp => Sys2Proof.Machine.execVddAuxUp s
  | .vddAuxRemove => Sys2Proof.Machine.execVddAuxRemove s
  | .resetAssert => Sys2Proof.Machine.execResetAssert s
  | .resetRelease => Sys2Proof.Machine.execResetRelease s
  | .resetSequenceEnd => Sys2Proof.Machine.execResetSequenceEnd s
  | .rebootReset => Sys2Proof.Machine.execRebootReset s
  | .ddrTrainingDone => Sys2Proof.Machine.execDdrTrainingDone s
  | .laneCalibrationDone lane => Sys2Proof.Machine.execLaneCalibrationDone lane s
  | .plinthToRun => Sys2Proof.Machine.execPlinthToRun s
  | .pwrWarnChange v => Sys2Proof.Machine.execPwrWarnChange v s
  | .railThresholdCross rail level => Sys2Proof.Machine.execRailThresholdCross rail level s
  | .shedLevelQualified => Sys2Proof.Machine.execShedLevelQualified s
  | .shedStepBack => Sys2Proof.Machine.execShedStepBack s
  | .shed4RunAbort => Sys2Proof.Machine.execShed4RunAbort s
  | .ddrSelfRefreshExit => Sys2Proof.Machine.execDdrSelfRefreshExit s
  | .pfailAssert flashOk => Sys2Proof.Machine.execPfailAssert flashOk s
  | .minrailTrip flashOk => Sys2Proof.Machine.execMinrailTrip flashOk s
  | .pfailRelease => Sys2Proof.Machine.execPfailRelease s
  | .lossOfClock fabricRuns => Sys2Proof.Machine.execLossOfClock fabricRuns s
  | .thermalTrip => Sys2Proof.Machine.execThermalTrip s
  | .heartbeatWatchdog fabricRuns => Sys2Proof.Machine.execHeartbeatWatchdog fabricRuns s
  | .ppsEdge rising ago => Sys2Proof.Machine.execPpsEdge rising ago s
  | .ppsMissing => Sys2Proof.Machine.execPpsMissing s
  | .irigFrame elems ago => Sys2Proof.Machine.execIrigFrame elems ago s
  | .trigInEdge k ago => Sys2Proof.Machine.execTrigInEdge k ago s
  | .armSampleWindow => Sys2Proof.Machine.execArmSampleWindow s
  | .sourceLossTimeout k => Sys2Proof.Machine.execSourceLossTimeout k s
  | .sourceSwitchHold k => Sys2Proof.Machine.execSourceSwitchHold k s
  | .slewEnd => Sys2Proof.Machine.execSlewEnd s
  | .leapAtReached => Sys2Proof.Machine.execLeapAtReached s
  | .leapRetire => Sys2Proof.Machine.execLeapRetire s
  | .ref10Qualified ratio => Sys2Proof.Machine.execRef10Qualified ratio s
  | .ref10Loss ratio => Sys2Proof.Machine.execRef10Loss ratio s
  | .ref10Restored ratio => Sys2Proof.Machine.execRef10Restored ratio s
  | .ppsOutEdge => Sys2Proof.Machine.execPpsOutEdge s
  | .ppsOutWidthEnd => Sys2Proof.Machine.execPpsOutWidthEnd s
  | .characterReceive n line ago => Sys2Proof.Machine.execCharacterReceive n line ago s
  | .breakReceive n rx => Sys2Proof.Machine.execBreakReceive n rx s
  | .breakEnd n => Sys2Proof.Machine.execBreakEnd n s
  | .lineDead n => Sys2Proof.Machine.execLineDead n s
  | .lineAlive n => Sys2Proof.Machine.execLineAlive n s
  | .characterTransmit n ctsLevel => Sys2Proof.Machine.execCharacterTransmit n ctsLevel s
  | .breakTransmit n ctsLevel => Sys2Proof.Machine.execBreakTransmit n ctsLevel s
  | .rxRateApply n => Sys2Proof.Machine.execRxRateApply n s
  | .txRateApply n => Sys2Proof.Machine.execTxRateApply n s
  | .vioFault b => Sys2Proof.Machine.execVioFault b s
  | .vioRestored b => Sys2Proof.Machine.execVioRestored b s
  | .assemblyEntry n => Sys2Proof.Machine.execAssemblyEntry n s
  | .gapTimeout n => Sys2Proof.Machine.execGapTimeout n s
  | .rawGapClose n => Sys2Proof.Machine.execRawGapClose n s
  | .networkFrameReceive k bytes fcsOk ago => Sys2Proof.Machine.execNetworkFrameReceive k bytes fcsOk ago s
  | .networkBlockLockChange k lock => Sys2Proof.Machine.execNetworkBlockLockChange k lock s
  | .classify => Sys2Proof.Machine.execClassify s
  | .silenceScan => Sys2Proof.Machine.execSilenceScan s
  | .dispatch h => Sys2Proof.Machine.execDispatch h s
  | .runStart h => Sys2Proof.Machine.execRunStart h s
  | .writeBackDone h => Sys2Proof.Machine.execWriteBackDone h s
  | .budgetAbort h => Sys2Proof.Machine.execBudgetAbort h s
  | .runLimitAbort h => Sys2Proof.Machine.execRunLimitAbort h s
  | .timerFire k => Sys2Proof.Machine.execTimerFire k s
  | .threadGate h => Sys2Proof.Machine.execThreadGate h s
  | .storeInput => Sys2Proof.Machine.execStoreInput s
  | .domainEvaluate d => Sys2Proof.Machine.execDomainEvaluate d s
  | .readBackDone d => Sys2Proof.Machine.execReadBackDone d s
  | .lateRingExpiry d => Sys2Proof.Machine.execLateRingExpiry d s
  | .sramBankGate bank => Sys2Proof.Machine.execSramBankGate bank s
  | .laneInput l => Sys2Proof.Machine.execLaneInput l s
  | .fadeEnd l => Sys2Proof.Machine.execFadeEnd l s
  | .analyseSet => Sys2Proof.Machine.execAnalyseSet s
  | .captureSample g => Sys2Proof.Machine.execCaptureSample g s
  | .captureFlushDone g => Sys2Proof.Machine.execCaptureFlushDone g s
  | .recordFinal g => Sys2Proof.Machine.execRecordFinal g s
  | .summaryFlush ok => Sys2Proof.Machine.execSummaryFlush ok s
  | .buildJobQueue => Sys2Proof.Machine.execBuildJobQueue s
  | .schedulerGrant n => Sys2Proof.Machine.execSchedulerGrant n s
  | .frameBuildDone b => Sys2Proof.Machine.execFrameBuildDone b s
  | .lateGatherEnd n => Sys2Proof.Machine.execLateGatherEnd n s
  | .serialStagingFeed n => Sys2Proof.Machine.execSerialStagingFeed n s
  | .alarmMinWidthEnd p => Sys2Proof.Machine.execAlarmMinWidthEnd p s
  | .linkBlockLock k => Sys2Proof.Machine.execLinkBlockLock k s
  | .helloSend k => Sys2Proof.Machine.execHelloSend k s
  | .linkBringupTimeout k => Sys2Proof.Machine.execLinkBringupTimeout k s
  | .linkFaultRetry k => Sys2Proof.Machine.execLinkFaultRetry k s
  | .linkDown k => Sys2Proof.Machine.execLinkDown k s
  | .keepaliveHello k => Sys2Proof.Machine.execKeepaliveHello k s
  | .elasticBufferError k => Sys2Proof.Machine.execElasticBufferError k s
  | .cellReceive k bytes ago => Sys2Proof.Machine.execCellReceive k bytes ago s
  | .uplinkRevert => Sys2Proof.Machine.execUplinkRevert s
  | .timeExchangeStart k => Sys2Proof.Machine.execTimeExchangeStart k s
  | .statusCellSend => Sys2Proof.Machine.execStatusCellSend s
  | .fragmentSend d => Sys2Proof.Machine.execFragmentSend d s
  | .peerLaneLoss lane => Sys2Proof.Machine.execPeerLaneLoss lane s
  | .peerLaneRetrain lane => Sys2Proof.Machine.execPeerLaneRetrain lane s
  | .peerLinkDown => Sys2Proof.Machine.execPeerLinkDown s
  | .peerElasticBufferError lane => Sys2Proof.Machine.execPeerElasticBufferError lane s
  | .heartbeatSend => Sys2Proof.Machine.execHeartbeatSend s
  | .heartbeatReceive bytes => Sys2Proof.Machine.execHeartbeatReceive bytes s
  | .heartbeatMiss => Sys2Proof.Machine.execHeartbeatMiss s
  | .peerFaultAssert => Sys2Proof.Machine.execPeerFaultAssert s
  | .claimWaitExpiry => Sys2Proof.Machine.execClaimWaitExpiry s
  | .handoverBoundary => Sys2Proof.Machine.execHandoverBoundary s
  | .takeoverTimeout => Sys2Proof.Machine.execTakeoverTimeout s
  | .mirrorSend => Sys2Proof.Machine.execMirrorSend s
  | .mirrorReceive bytes => Sys2Proof.Machine.execMirrorReceive bytes s
  | .bridgeRequestReceive bytes => Sys2Proof.Machine.execBridgeRequestReceive bytes s
  | .bridgeResponse bytes => Sys2Proof.Machine.execBridgeResponse bytes s
  | .bridgeTimeout tag => Sys2Proof.Machine.execBridgeTimeout tag s
  | .lockRequestReceive bytes => Sys2Proof.Machine.execLockRequestReceive bytes s
  | .lockGrant bytes => Sys2Proof.Machine.execLockGrant bytes s
  | .lockExpiry far => Sys2Proof.Machine.execLockExpiry far s
  | .lockBackoffExpiry => Sys2Proof.Machine.execLockBackoffExpiry s
  | .farIntPoll => Sys2Proof.Machine.execFarIntPoll s
  | .syncReceive bytes => Sys2Proof.Machine.execSyncReceive bytes s
  | .streamRecordSend => Sys2Proof.Machine.execStreamRecordSend s
  | .syncComplete => Sys2Proof.Machine.execSyncComplete s
  | .commitInstant => Sys2Proof.Machine.execCommitInstant s
  | .confirmWindowExpiry => Sys2Proof.Machine.execConfirmWindowExpiry s
  | .scrubRead st addr found => Sys2Proof.Machine.execScrubRead st addr found s
  | .add h x => Sys2Proof.Machine.execAdd h x s
  | .sub h x => Sys2Proof.Machine.execSub h x s
  | .and h x => Sys2Proof.Machine.execAnd h x s
  | .or h x => Sys2Proof.Machine.execOr h x s
  | .xor h x => Sys2Proof.Machine.execXor h x s
  | .andn h x => Sys2Proof.Machine.execAndn h x s
  | .shl h x => Sys2Proof.Machine.execShl h x s
  | .shr h x => Sys2Proof.Machine.execShr h x s
  | .sar h x => Sys2Proof.Machine.execSar h x s
  | .mul h x => Sys2Proof.Machine.execMul h x s
  | .mulhu h x => Sys2Proof.Machine.execMulhu h x s
  | .mulhs h x => Sys2Proof.Machine.execMulhs h x s
  | .cmp h x => Sys2Proof.Machine.execCmp h x s
  | .min h x => Sys2Proof.Machine.execMin h x s
  | .max h x => Sys2Proof.Machine.execMax h x s
  | .minu h x => Sys2Proof.Machine.execMinu h x s
  | .maxu h x => Sys2Proof.Machine.execMaxu h x s
  | .adc h x => Sys2Proof.Machine.execAdc h x s
  | .sbc h x => Sys2Proof.Machine.execSbc h x s
  | .clz h x => Sys2Proof.Machine.execClz h x s
  | .bswap h x => Sys2Proof.Machine.execBswap h x s
  | .addi h x fn => Sys2Proof.Machine.execAddi h x fn s
  | .andi h x fn => Sys2Proof.Machine.execAndi h x fn s
  | .ori h x fn => Sys2Proof.Machine.execOri h x fn s
  | .xori h x fn => Sys2Proof.Machine.execXori h x fn s
  | .shli h x => Sys2Proof.Machine.execShli h x s
  | .shri h x => Sys2Proof.Machine.execShri h x s
  | .sari h x => Sys2Proof.Machine.execSari h x s
  | .cmpi h x => Sys2Proof.Machine.execCmpi h x s
  | .cmpiU h x => Sys2Proof.Machine.execCmpiU h x s
  | .lui h x fn => Sys2Proof.Machine.execLui h x fn s
  | .movc h x fn => Sys2Proof.Machine.execMovc h x fn s
  | .fadd h x => Sys2Proof.Machine.execFadd h x s
  | .fsub h x => Sys2Proof.Machine.execFsub h x s
  | .fmul h x => Sys2Proof.Machine.execFmul h x s
  | .fmac h x => Sys2Proof.Machine.execFmac h x s
  | .fcmp h x => Sys2Proof.Machine.execFcmp h x s
  | .fmin h x => Sys2Proof.Machine.execFmin h x s
  | .fmax h x => Sys2Proof.Machine.execFmax h x s
  | .i2f h x => Sys2Proof.Machine.execI2f h x s
  | .u2f h x => Sys2Proof.Machine.execU2f h x s
  | .f2i h x => Sys2Proof.Machine.execF2i h x s
  | .fabs h x => Sys2Proof.Machine.execFabs h x s
  | .fneg h x => Sys2Proof.Machine.execFneg h x s
  | .ld h x => Sys2Proof.Machine.execLd h x s
  | .lds h x => Sys2Proof.Machine.execLds h x s
  | .st h x => Sys2Proof.Machine.execSt h x s
  | .ldbe h x => Sys2Proof.Machine.execLdbe h x s
  | .stbe h x => Sys2Proof.Machine.execStbe h x s
  | .ldt h x => Sys2Proof.Machine.execLdt h x s
  | .stt h x => Sys2Proof.Machine.execStt h x s
  | .fextU h x => Sys2Proof.Machine.execFextU h x s
  | .fextS h x => Sys2Proof.Machine.execFextS h x s
  | .fins h x => Sys2Proof.Machine.execFins h x s
  | .fset h x => Sys2Proof.Machine.execFset h x s
  | .fadv h x => Sys2Proof.Machine.execFadv h x s
  | .scan h x => Sys2Proof.Machine.execScan h x s
  | .fget h x => Sys2Proof.Machine.execFget h x s
  | .setlen h x => Sys2Proof.Machine.execSetlen h x s
  | .getlen h x => Sys2Proof.Machine.execGetlen h x s
  | .pdecU h x => Sys2Proof.Machine.execPdecU h x s
  | .pdecS h x => Sys2Proof.Machine.execPdecS h x s
  | .pfix h x => Sys2Proof.Machine.execPfix h x s
  | .pflt h x => Sys2Proof.Machine.execPflt h x s
  | .phex h x => Sys2Proof.Machine.execPhex h x s
  | .fmtU h x => Sys2Proof.Machine.execFmtU h x s
  | .fmtS h x => Sys2Proof.Machine.execFmtS h x s
  | .fmtX h x => Sys2Proof.Machine.execFmtX h x s
  | .bCond h x => Sys2Proof.Machine.execBCond h x s
  | .bz h ra disp => Sys2Proof.Machine.execBz h ra disp s
  | .bnz h ra disp => Sys2Proof.Machine.execBnz h ra disp s
  | .call h x => Sys2Proof.Machine.execCall h x s
  | .ret h x => Sys2Proof.Machine.execRet h x s
  | .jr h x => Sys2Proof.Machine.execJr h x s
  | .loop h x => Sys2Proof.Machine.execLoop h x s
  | .cinit h x fn => Sys2Proof.Machine.execCinit h x fn s
  | .cfold h x fn => Sys2Proof.Machine.execCfold h x fn s
  | .cfin h x fn => Sys2Proof.Machine.execCfin h x fn s
  | .cver h x fn => Sys2Proof.Machine.execCver h x fn s
  | .tnow h x => Sys2Proof.Machine.execTnow h x s
  | .tmov h x => Sys2Proof.Machine.execTmov h x s
  | .tadd h x => Sys2Proof.Machine.execTadd h x s
  | .tdiff h x => Sys2Proof.Machine.execTdiff h x s
  | .tgets h x => Sys2Proof.Machine.execTgets h x s
  | .tgetns h x => Sys2Proof.Machine.execTgetns h x s
  | .tsets h x => Sys2Proof.Machine.execTsets h x s
  | .tgrid h x => Sys2Proof.Machine.execTgrid h x s
  | .c37tod h x => Sys2Proof.Machine.execC37tod h x s
  | .todc37 h x => Sys2Proof.Machine.execTodc37 h x s
  | .ppslabel h x => Sys2Proof.Machine.execPpslabel h x s
  | .ptpsample h x => Sys2Proof.Machine.execPtpsample h x s
  | .ptpadj h x => Sys2Proof.Machine.execPtpadj h x s
  | .ptpstep h x => Sys2Proof.Machine.execPtpstep h x s
  | .ptpfreq h x => Sys2Proof.Machine.execPtpfreq h x s
  | .utcset h x => Sys2Proof.Machine.execUtcset h x s
  | .tld h x => Sys2Proof.Machine.execTld h x s
  | .ldesc h x => Sys2Proof.Machine.execLdesc h x s
  | .tst h x => Sys2Proof.Machine.execTst h x s
  | .fquar h x => Sys2Proof.Machine.execFquar h x s
  | .flayout h x => Sys2Proof.Machine.execFlayout h x s
  | .fexp h x => Sys2Proof.Machine.execFexp h x s
  | .flastmt h x => Sys2Proof.Machine.execFlastmt h x s
  | .forward h x => Sys2Proof.Machine.execForward h x s
  | .hold h x => Sys2Proof.Machine.execHold h x s
  | .host h x => Sys2Proof.Machine.execHost h x s
  | .drop h x => Sys2Proof.Machine.execDrop h x s
  | .fault h x => Sys2Proof.Machine.execFault h x s
  | .emitG h x => Sys2Proof.Machine.execEmitG h x s
  | .emitQ h x => Sys2Proof.Machine.execEmitQ h x s
  | .emitGl h x => Sys2Proof.Machine.execEmitGl h x s
  | .emitQl h x => Sys2Proof.Machine.execEmitQl h x s
  | .ladd h x => Sys2Proof.Machine.execLadd h x s
  | .lswap h x => Sys2Proof.Machine.execLswap h x s
  | .lcasW h x => Sys2Proof.Machine.execLcasW h x s
  | .cntS h x => Sys2Proof.Machine.execCntS h x s
  | .cntW h x => Sys2Proof.Machine.execCntW h x s
  | .chiselNop h x => Sys2Proof.Machine.execChiselNop h x s
  | .yield h x => Sys2Proof.Machine.execYield h x s
  | .wait h x => Sys2Proof.Machine.execWait h x s
  | .waitt h x => Sys2Proof.Machine.execWaitt h x s
  | .trap h x => Sys2Proof.Machine.execTrap h x s
  | .csrr h x => Sys2Proof.Machine.execCsrr h x s
  | .csrw h x => Sys2Proof.Machine.execCsrw h x s
  | .peerLaneBlockLock lane => Sys2Proof.Machine.execPeerLaneBlockLock lane s
  | .activeClaimChange held => Sys2Proof.Machine.execActiveClaimChange held s
  | .peerFaultRelease => Sys2Proof.Machine.execPeerFaultRelease s
  | .flashOperationDone ok => Sys2Proof.Machine.execFlashOperationDone ok s
  | .dmaReadCompletion tag bytes => Sys2Proof.Machine.execDmaReadCompletion tag bytes s
  | .bootImageLoadDone => Sys2Proof.Machine.execBootImageLoadDone s
  | .holdoverQualityChange => Sys2Proof.Machine.execHoldoverQualityChange s
  | .peerPacketSend => Sys2Proof.Machine.execPeerPacketSend s

end Sys2Proof.Machine
end

