-- ==== Sys2Proof/Machine/Words.lean ====
section
/-! DEFINITION. The words of the Chisel engines (07_chisel_machine.md R153, Table CHS-7, 08_chisel_instructions.md Tables CHX-2 to
CHX-14): the operands of a word, and the word an instruction command
stands for. -/

namespace Sys2Proof.Machine

/-- Operands of a word of format CA. -/
def opsCA (w : Nat) : OpsCA := ⟨BitVec.ofNat 4 (bits w 22 4), BitVec.ofNat 4 (bits w 18 4), BitVec.ofNat 4 (bits w 14 4)⟩
/-- Operands of a word of format CB. -/
def opsCB (w : Nat) : OpsCB := ⟨BitVec.ofNat 4 (bits w 22 4), BitVec.ofNat 4 (bits w 18 4), BitVec.ofNat 16 w⟩
/-- Operands of a word of format CC. -/
def opsCC (w : Nat) : OpsCC :=
  ⟨BitVec.ofNat 4 (bits w 22 4), BitVec.ofNat 4 (bits w 18 4), BitVec.ofNat 6 (bits w 8 6), BitVec.ofNat 8 w⟩
/-- Operands of a word of format CD. -/
def opsCD (w : Nat) : OpsCD := ⟨BitVec.ofNat 4 (bits w 22 4), BitVec.ofNat 4 (bits w 18 4), BitVec.ofNat 18 w⟩
/-- Operands of a word of format CE. -/
def opsCE (w : Nat) : OpsCE :=
  ⟨BitVec.ofNat 4 (bits w 22 4), BitVec.ofNat 4 (bits w 18 4), BitVec.ofNat 2 (bits w 16 2), BitVec.ofNat 2 (bits w 14 2), BitVec.ofNat 14 w⟩
/-- Operands of a word of format CF. -/
def opsCF (w : Nat) : OpsCF :=
  ⟨BitVec.ofNat 2 (bits w 24 2), BitVec.ofNat 2 (bits w 22 2), BitVec.ofNat 4 (bits w 18 4), BitVec.ofNat 12 w⟩

/-- The word of an instruction command; none for every other command. -/
def chiselWord : Instr → Option Nat
  | .add _ x => some (wordCA 0x00 x 0)
  | .sub _ x => some (wordCA 0x00 x 1)
  | .and _ x => some (wordCA 0x00 x 2)
  | .or _ x => some (wordCA 0x00 x 3)
  | .xor _ x => some (wordCA 0x00 x 4)
  | .shl _ x => some (wordCA 0x00 x 5)
  | .shr _ x => some (wordCA 0x00 x 6)
  | .sar _ x => some (wordCA 0x00 x 7)
  | .mul _ x => some (wordCA 0x00 x 8)
  | .mulhu _ x => some (wordCA 0x00 x 9)
  | .mulhs _ x => some (wordCA 0x00 x 10)
  | .cmp _ x => some (wordCA 0x00 x 11)
  | .min _ x => some (wordCA 0x00 x 12)
  | .max _ x => some (wordCA 0x00 x 13)
  | .minu _ x => some (wordCA 0x00 x 14)
  | .maxu _ x => some (wordCA 0x00 x 15)
  | .adc _ x => some (wordCA 0x00 x 16)
  | .sbc _ x => some (wordCA 0x00 x 17)
  | .andn _ x => some (wordCA 0x00 x 18)
  | .clz _ x => some (wordCA 0x00 x 19)
  | .bswap _ x => some (wordCA 0x00 x 20)
  | .addi _ x fn => some (wordCB 0x01 x fn.toNat)
  | .andi _ x fn => some (wordCB 0x02 x fn.toNat)
  | .ori _ x fn => some (wordCB 0x03 x fn.toNat)
  | .xori _ x fn => some (wordCB 0x04 x fn.toNat)
  | .shli _ x => some (wordCB 0x05 x 0)
  | .shri _ x => some (wordCB 0x05 x 1)
  | .sari _ x => some (wordCB 0x05 x 2)
  | .cmpi _ x => some (wordCB 0x06 x 0)
  | .cmpiU _ x => some (wordCB 0x06 x 1)
  | .lui _ x fn => some (wordCB 0x07 x fn.toNat)
  | .fadd _ x => some (wordCA 0x08 x 0)
  | .fsub _ x => some (wordCA 0x08 x 1)
  | .fmul _ x => some (wordCA 0x08 x 2)
  | .fmac _ x => some (wordCA 0x08 x 3)
  | .fcmp _ x => some (wordCA 0x08 x 4)
  | .fmin _ x => some (wordCA 0x08 x 5)
  | .fmax _ x => some (wordCA 0x08 x 6)
  | .i2f _ x => some (wordCA 0x08 x 7)
  | .u2f _ x => some (wordCA 0x08 x 8)
  | .f2i _ x => some (wordCA 0x08 x 9)
  | .fabs _ x => some (wordCA 0x08 x 10)
  | .fneg _ x => some (wordCA 0x08 x 11)
  | .movc _ x fn => some (wordCA 0x09 x fn.toNat)
  | .ld _ x => some (wordCE 0x10 x)
  | .lds _ x => some (wordCE 0x11 x)
  | .st _ x => some (wordCE 0x12 x)
  | .ldbe _ x => some (wordCE 0x13 x)
  | .stbe _ x => some (wordCE 0x14 x)
  | .ldt _ x => some (wordCE 0x15 x)
  | .stt _ x => some (wordCE 0x16 x)
  | .fextU _ x => some (wordCC 0x18 x 0)
  | .fextS _ x => some (wordCC 0x18 x 1)
  | .fins _ x => some (wordCC 0x18 x 2)
  | .fset _ x => some (wordCC 0x19 x 0)
  | .fadv _ x => some (wordCC 0x19 x 1)
  | .scan _ x => some (wordCC 0x19 x 2)
  | .fget _ x => some (wordCC 0x19 x 3)
  | .pdecU _ x => some (wordCC 0x1A x 0)
  | .pdecS _ x => some (wordCC 0x1A x 1)
  | .pfix _ x => some (wordCC 0x1A x 2)
  | .pflt _ x => some (wordCC 0x1A x 3)
  | .phex _ x => some (wordCC 0x1B x 0)
  | .fmtU _ x => some (wordCC 0x1C x 0)
  | .fmtS _ x => some (wordCC 0x1C x 1)
  | .fmtX _ x => some (wordCC 0x1C x 2)
  | .setlen _ x => some (wordCA 0x1D x 0)
  | .getlen _ x => some (wordCA 0x1D x 1)
  | .bCond _ x => some (wordCD 0x20 x)
  | .bz _ ra disp => some (wordCD 0x21 ⟨0, ra, disp⟩)
  | .bnz _ ra disp => some (wordCD 0x21 ⟨1, ra, disp⟩)
  | .call _ x => some (wordCD 0x22 x)
  | .ret _ x => some (wordCD 0x23 x)
  | .jr _ x => some (wordCD 0x24 x)
  | .loop _ x => some (wordCD 0x25 x)
  | .cinit _ x fn => some (wordCB 0x28 x fn.toNat)
  | .cfold _ x fn => some (wordCA 0x29 x fn.toNat)
  | .cfin _ x fn => some (wordCA 0x2A x fn.toNat)
  | .cver _ x fn => some (wordCA 0x2B x fn.toNat)
  | .tnow _ x => some (wordCF 0x2C x 0)
  | .tmov _ x => some (wordCF 0x2C x 1)
  | .tadd _ x => some (wordCF 0x2C x 2)
  | .tdiff _ x => some (wordCF 0x2C x 3)
  | .tgets _ x => some (wordCF 0x2C x 4)
  | .tgetns _ x => some (wordCF 0x2C x 5)
  | .tsets _ x => some (wordCF 0x2C x 6)
  | .tgrid _ x => some (wordCF 0x2C x 7)
  | .c37tod _ x => some (wordCF 0x2D x 0)
  | .todc37 _ x => some (wordCF 0x2D x 1)
  | .ppslabel _ x => some (wordCF 0x2E x 0)
  | .ptpsample _ x => some (wordCF 0x2E x 1)
  | .ptpadj _ x => some (wordCF 0x2E x 2)
  | .ptpstep _ x => some (wordCF 0x2E x 3)
  | .ptpfreq _ x => some (wordCF 0x2E x 4)
  | .utcset _ x => some (wordCF 0x2E x 5)
  | .tld _ x => some (wordCB 0x30 x 0)
  | .ldesc _ x => some (wordCB 0x30 x 1)
  | .tst _ x => some (wordCB 0x31 x 0)
  | .fquar _ x => some (wordCA 0x32 x 0)
  | .flayout _ x => some (wordCA 0x32 x 1)
  | .fexp _ x => some (wordCA 0x32 x 2)
  | .flastmt _ x => some (wordCA 0x32 x 3)
  | .forward _ x => some (wordCF 0x34 x 0)
  | .hold _ x => some (wordCF 0x34 x 1)
  | .host _ x => some (wordCF 0x34 x 2)
  | .drop _ x => some (wordCF 0x34 x 3)
  | .fault _ x => some (wordCF 0x34 x 4)
  | .emitG _ x => some (wordCF 0x35 x 0)
  | .emitQ _ x => some (wordCF 0x35 x 1)
  | .emitGl _ x => some (wordCF 0x35 x 2)
  | .emitQl _ x => some (wordCF 0x35 x 3)
  | .ladd _ x => some (wordCE 0x38 x)
  | .lswap _ x => some (wordCE 0x39 x)
  | .lcasW _ x => some (wordCE 0x3A x)
  | .cntS _ x => some (wordCB 0x3B x 0)
  | .cntW _ x => some (wordCB 0x3B x 1)
  | .chiselNop _ x => some (wordCF 0x3C x 0)
  | .yield _ x => some (wordCF 0x3C x 1)
  | .wait _ x => some (wordCF 0x3C x 2)
  | .waitt _ x => some (wordCF 0x3C x 3)
  | .trap _ x => some (wordCF 0x3C x 4)
  | .csrr _ x => some (wordCF 0x3D x 0)
  | .csrw _ x => some (wordCF 0x3D x 1)
  | _ => none

end Sys2Proof.Machine
end

