-- ==== Sys2Proof/Machine/Program.lean ====
section
/-! DEFINITION. What a thread does with a word of its program: the program words of R153 read as instructions, each with the meaning of its
command. A command of a Chisel row stands for the issue of one such word. -/

namespace Sys2Proof.Machine

/-- The thread of an instruction command; none for every other command. -/
def chiselThread : Instr → Option Thr
  | .add h _ | .sub h _ | .and h _ | .or h _ | .xor h _ | .shl h _ | .shr h _ | .sar h _ | .mul h _ | .mulhu h _ | .mulhs h _ | .cmp h _
  | .min h _ | .max h _ | .minu h _ | .maxu h _ | .adc h _ | .sbc h _ | .andn h _ | .clz h _ | .bswap h _ | .addi h _ _ | .andi h _ _
  | .ori h _ _ | .xori h _ _ | .shli h _ | .shri h _ | .sari h _ | .cmpi h _ | .cmpiU h _ | .lui h _ _ | .fadd h _ | .fsub h _
  | .fmul h _ | .fmac h _ | .fcmp h _ | .fmin h _ | .fmax h _ | .i2f h _ | .u2f h _ | .f2i h _ | .fabs h _ | .fneg h _ | .movc h _ _
  | .ld h _ | .lds h _ | .st h _ | .ldbe h _ | .stbe h _ | .ldt h _ | .stt h _ | .fextU h _ | .fextS h _ | .fins h _ | .fset h _
  | .fadv h _ | .scan h _ | .fget h _ | .pdecU h _ | .pdecS h _ | .pfix h _ | .pflt h _ | .phex h _ | .fmtU h _ | .fmtS h _ | .fmtX h _
  | .setlen h _ | .getlen h _ | .bCond h _ | .bz h _ _ | .bnz h _ _ | .call h _ | .ret h _ | .jr h _ | .loop h _ | .cinit h _ _
  | .cfold h _ _ | .cfin h _ _ | .cver h _ _ | .tnow h _ | .tmov h _ | .tadd h _ | .tdiff h _ | .tgets h _ | .tgetns h _ | .tsets h _
  | .tgrid h _ | .c37tod h _ | .todc37 h _ | .ppslabel h _ | .ptpsample h _ | .ptpadj h _ | .ptpstep h _ | .ptpfreq h _ | .utcset h _
  | .tld h _ | .ldesc h _ | .tst h _ | .fquar h _ | .flayout h _ | .fexp h _ | .flastmt h _ | .forward h _ | .hold h _ | .host h _
  | .drop h _ | .fault h _ | .emitG h _ | .emitQ h _ | .emitGl h _ | .emitQl h _ | .ladd h _ | .lswap h _ | .lcasW h _ | .cntS h _
  | .cntW h _ | .chiselNop h _ | .yield h _ | .wait h _ | .waitt h _ | .trap h _ | .csrr h _ | .csrw h _ => some h
  | _ => none

/-- The meaning of a program word that thread h issues; none where opcode or FN are unassigned (R153). -/
def chiselMeaning (h : Thr) (w : Nat) : Option (State → Host.Outcome State Fault Refusal) :=
  match bits w 26 6 with
  | 0x00 =>
    match w % 2 ^ 14 with
    | 0 => some (Sys2Proof.Machine.execAdd h (opsCA w))
    | 1 => some (Sys2Proof.Machine.execSub h (opsCA w))
    | 2 => some (Sys2Proof.Machine.execAnd h (opsCA w))
    | 3 => some (Sys2Proof.Machine.execOr h (opsCA w))
    | 4 => some (Sys2Proof.Machine.execXor h (opsCA w))
    | 5 => some (Sys2Proof.Machine.execShl h (opsCA w))
    | 6 => some (Sys2Proof.Machine.execShr h (opsCA w))
    | 7 => some (Sys2Proof.Machine.execSar h (opsCA w))
    | 8 => some (Sys2Proof.Machine.execMul h (opsCA w))
    | 9 => some (Sys2Proof.Machine.execMulhu h (opsCA w))
    | 10 => some (Sys2Proof.Machine.execMulhs h (opsCA w))
    | 11 => some (Sys2Proof.Machine.execCmp h (opsCA w))
    | 12 => some (Sys2Proof.Machine.execMin h (opsCA w))
    | 13 => some (Sys2Proof.Machine.execMax h (opsCA w))
    | 14 => some (Sys2Proof.Machine.execMinu h (opsCA w))
    | 15 => some (Sys2Proof.Machine.execMaxu h (opsCA w))
    | 16 => some (Sys2Proof.Machine.execAdc h (opsCA w))
    | 17 => some (Sys2Proof.Machine.execSbc h (opsCA w))
    | 18 => some (Sys2Proof.Machine.execAndn h (opsCA w))
    | 19 => some (Sys2Proof.Machine.execClz h (opsCA w))
    | 20 => some (Sys2Proof.Machine.execBswap h (opsCA w))
    | _ => none
  | 0x01 => some (Sys2Proof.Machine.execAddi h (opsCB w) (BitVec.ofNat 2 (bits w 16 2)))
  | 0x02 => some (Sys2Proof.Machine.execAndi h (opsCB w) (BitVec.ofNat 2 (bits w 16 2)))
  | 0x03 => some (Sys2Proof.Machine.execOri h (opsCB w) (BitVec.ofNat 2 (bits w 16 2)))
  | 0x04 => some (Sys2Proof.Machine.execXori h (opsCB w) (BitVec.ofNat 2 (bits w 16 2)))
  | 0x05 =>
    match bits w 16 2 with
    | 0 => some (Sys2Proof.Machine.execShli h (opsCB w))
    | 1 => some (Sys2Proof.Machine.execShri h (opsCB w))
    | 2 => some (Sys2Proof.Machine.execSari h (opsCB w))
    | _ => none
  | 0x06 =>
    match bits w 16 2 with
    | 0 => some (Sys2Proof.Machine.execCmpi h (opsCB w))
    | 1 => some (Sys2Proof.Machine.execCmpiU h (opsCB w))
    | _ => none
  | 0x07 => some (Sys2Proof.Machine.execLui h (opsCB w) (BitVec.ofNat 2 (bits w 16 2)))
  | 0x08 =>
    match w % 2 ^ 14 with
    | 0 => some (Sys2Proof.Machine.execFadd h (opsCA w))
    | 1 => some (Sys2Proof.Machine.execFsub h (opsCA w))
    | 2 => some (Sys2Proof.Machine.execFmul h (opsCA w))
    | 3 => some (Sys2Proof.Machine.execFmac h (opsCA w))
    | 4 => some (Sys2Proof.Machine.execFcmp h (opsCA w))
    | 5 => some (Sys2Proof.Machine.execFmin h (opsCA w))
    | 6 => some (Sys2Proof.Machine.execFmax h (opsCA w))
    | 7 => some (Sys2Proof.Machine.execI2f h (opsCA w))
    | 8 => some (Sys2Proof.Machine.execU2f h (opsCA w))
    | 9 => some (Sys2Proof.Machine.execF2i h (opsCA w))
    | 10 => some (Sys2Proof.Machine.execFabs h (opsCA w))
    | 11 => some (Sys2Proof.Machine.execFneg h (opsCA w))
    | _ => none
  | 0x09 => some (Sys2Proof.Machine.execMovc h (opsCA w) (BitVec.ofNat 14 w))
  | 0x10 => some (Sys2Proof.Machine.execLd h (opsCE w))
  | 0x11 => some (Sys2Proof.Machine.execLds h (opsCE w))
  | 0x12 => some (Sys2Proof.Machine.execSt h (opsCE w))
  | 0x13 => some (Sys2Proof.Machine.execLdbe h (opsCE w))
  | 0x14 => some (Sys2Proof.Machine.execStbe h (opsCE w))
  | 0x15 => some (Sys2Proof.Machine.execLdt h (opsCE w))
  | 0x16 => some (Sys2Proof.Machine.execStt h (opsCE w))
  | 0x18 =>
    match bits w 14 4 with
    | 0 => some (Sys2Proof.Machine.execFextU h (opsCC w))
    | 1 => some (Sys2Proof.Machine.execFextS h (opsCC w))
    | 2 => some (Sys2Proof.Machine.execFins h (opsCC w))
    | _ => none
  | 0x19 =>
    match bits w 14 4 with
    | 0 => some (Sys2Proof.Machine.execFset h (opsCC w))
    | 1 => some (Sys2Proof.Machine.execFadv h (opsCC w))
    | 2 => some (Sys2Proof.Machine.execScan h (opsCC w))
    | 3 => some (Sys2Proof.Machine.execFget h (opsCC w))
    | _ => none
  | 0x1A =>
    match bits w 14 4 with
    | 0 => some (Sys2Proof.Machine.execPdecU h (opsCC w))
    | 1 => some (Sys2Proof.Machine.execPdecS h (opsCC w))
    | 2 => some (Sys2Proof.Machine.execPfix h (opsCC w))
    | 3 => some (Sys2Proof.Machine.execPflt h (opsCC w))
    | _ => none
  | 0x1B =>
    match bits w 14 4 with
    | 0 => some (Sys2Proof.Machine.execPhex h (opsCC w))
    | _ => none
  | 0x1C =>
    match bits w 14 4 with
    | 0 => some (Sys2Proof.Machine.execFmtU h (opsCC w))
    | 1 => some (Sys2Proof.Machine.execFmtS h (opsCC w))
    | 2 => some (Sys2Proof.Machine.execFmtX h (opsCC w))
    | _ => none
  | 0x1D =>
    match w % 2 ^ 14 with
    | 0 => some (Sys2Proof.Machine.execSetlen h (opsCA w))
    | 1 => some (Sys2Proof.Machine.execGetlen h (opsCA w))
    | _ => none
  | 0x20 => some (Sys2Proof.Machine.execBCond h (opsCD w))
  | 0x21 =>
    match bits w 22 4 with
    | 0 => some (Sys2Proof.Machine.execBz h (BitVec.ofNat 4 (bits w 18 4)) (BitVec.ofNat 18 w))
    | 1 => some (Sys2Proof.Machine.execBnz h (BitVec.ofNat 4 (bits w 18 4)) (BitVec.ofNat 18 w))
    | _ => none
  | 0x22 => some (Sys2Proof.Machine.execCall h (opsCD w))
  | 0x23 => some (Sys2Proof.Machine.execRet h (opsCD w))
  | 0x24 => some (Sys2Proof.Machine.execJr h (opsCD w))
  | 0x25 => some (Sys2Proof.Machine.execLoop h (opsCD w))
  | 0x28 => some (Sys2Proof.Machine.execCinit h (opsCB w) (BitVec.ofNat 2 (bits w 16 2)))
  | 0x29 => some (Sys2Proof.Machine.execCfold h (opsCA w) (BitVec.ofNat 14 w))
  | 0x2A => some (Sys2Proof.Machine.execCfin h (opsCA w) (BitVec.ofNat 14 w))
  | 0x2B => some (Sys2Proof.Machine.execCver h (opsCA w) (BitVec.ofNat 14 w))
  | 0x2C =>
    match bits w 12 6 with
    | 0 => some (Sys2Proof.Machine.execTnow h (opsCF w))
    | 1 => some (Sys2Proof.Machine.execTmov h (opsCF w))
    | 2 => some (Sys2Proof.Machine.execTadd h (opsCF w))
    | 3 => some (Sys2Proof.Machine.execTdiff h (opsCF w))
    | 4 => some (Sys2Proof.Machine.execTgets h (opsCF w))
    | 5 => some (Sys2Proof.Machine.execTgetns h (opsCF w))
    | 6 => some (Sys2Proof.Machine.execTsets h (opsCF w))
    | 7 => some (Sys2Proof.Machine.execTgrid h (opsCF w))
    | _ => none
  | 0x2D =>
    match bits w 12 6 with
    | 0 => some (Sys2Proof.Machine.execC37tod h (opsCF w))
    | 1 => some (Sys2Proof.Machine.execTodc37 h (opsCF w))
    | _ => none
  | 0x2E =>
    match bits w 12 6 with
    | 0 => some (Sys2Proof.Machine.execPpslabel h (opsCF w))
    | 1 => some (Sys2Proof.Machine.execPtpsample h (opsCF w))
    | 2 => some (Sys2Proof.Machine.execPtpadj h (opsCF w))
    | 3 => some (Sys2Proof.Machine.execPtpstep h (opsCF w))
    | 4 => some (Sys2Proof.Machine.execPtpfreq h (opsCF w))
    | 5 => some (Sys2Proof.Machine.execUtcset h (opsCF w))
    | _ => none
  | 0x30 =>
    match bits w 16 2 with
    | 0 => some (Sys2Proof.Machine.execTld h (opsCB w))
    | 1 => some (Sys2Proof.Machine.execLdesc h (opsCB w))
    | _ => none
  | 0x31 =>
    match bits w 16 2 with
    | 0 => some (Sys2Proof.Machine.execTst h (opsCB w))
    | _ => none
  | 0x32 =>
    match w % 2 ^ 14 with
    | 0 => some (Sys2Proof.Machine.execFquar h (opsCA w))
    | 1 => some (Sys2Proof.Machine.execFlayout h (opsCA w))
    | 2 => some (Sys2Proof.Machine.execFexp h (opsCA w))
    | 3 => some (Sys2Proof.Machine.execFlastmt h (opsCA w))
    | _ => none
  | 0x34 =>
    match bits w 12 6 with
    | 0 => some (Sys2Proof.Machine.execForward h (opsCF w))
    | 1 => some (Sys2Proof.Machine.execHold h (opsCF w))
    | 2 => some (Sys2Proof.Machine.execHost h (opsCF w))
    | 3 => some (Sys2Proof.Machine.execDrop h (opsCF w))
    | 4 => some (Sys2Proof.Machine.execFault h (opsCF w))
    | _ => none
  | 0x35 =>
    match bits w 12 6 with
    | 0 => some (Sys2Proof.Machine.execEmitG h (opsCF w))
    | 1 => some (Sys2Proof.Machine.execEmitQ h (opsCF w))
    | 2 => some (Sys2Proof.Machine.execEmitGl h (opsCF w))
    | 3 => some (Sys2Proof.Machine.execEmitQl h (opsCF w))
    | _ => none
  | 0x38 => some (Sys2Proof.Machine.execLadd h (opsCE w))
  | 0x39 => some (Sys2Proof.Machine.execLswap h (opsCE w))
  | 0x3A => some (Sys2Proof.Machine.execLcasW h (opsCE w))
  | 0x3B =>
    match bits w 16 2 with
    | 0 => some (Sys2Proof.Machine.execCntS h (opsCB w))
    | 1 => some (Sys2Proof.Machine.execCntW h (opsCB w))
    | _ => none
  | 0x3C =>
    match bits w 12 6 with
    | 0 => some (Sys2Proof.Machine.execChiselNop h (opsCF w))
    | 1 => some (Sys2Proof.Machine.execYield h (opsCF w))
    | 2 => some (Sys2Proof.Machine.execWait h (opsCF w))
    | 3 => some (Sys2Proof.Machine.execWaitt h (opsCF w))
    | 4 => some (Sys2Proof.Machine.execTrap h (opsCF w))
    | _ => none
  | 0x3D =>
    match bits w 12 6 with
    | 0 => some (Sys2Proof.Machine.execCsrr h (opsCF w))
    | 1 => some (Sys2Proof.Machine.execCsrw h (opsCF w))
    | _ => none
  | _ => none

end Sys2Proof.Machine
end

