-- ==== Sys2Proof/Safety.lean ====
section
/-! DEFINITION. The terms of the statements: what counts as a safe run of the device, when a Chisel thread carries out the
instruction it issues, and what the thread and the device are afterwards. -/

namespace Sys2Proof.Safety

open Sys2Proof.Machine

/-- The step from `s` goes on. -/
def goesOn (s : State) : Prop := ∃ t, step s = .next t

/-- `n` steps from `s` go on. -/
def safeFor : Nat → State → Prop
  | 0, _ => True
  | n + 1, s => ∃ t, step s = .next t ∧ safeFor n t

/-! Chisel threads. -/

/-- Thread h holds the READY run r, it is its turn, and it has budget left for one more instruction and a PC below CODE_END
(07_chisel_machine.md R137, R153, R155): the instruction at its PC is carried out. -/
structure Issues (s : State) (h : Thr) (r : Run) : Prop where
  run : s.issuing (thrIdx h) = some r
  budget : r.issued < r.budget
  code : (s.thread (thrIdx h)).pc < s.CHS_PCODE_CODE_END

/-- The program word at the PC of thread h is instruction i (07_chisel_machine.md R153, Table CHS-7). -/
def programmed (s : State) (h : Thr) (i : Instr) : Prop := chiselWord i = some (s.fetched (thrIdx h))

/-- Instruction i takes the device to `t`, for every program that has it at the PC of thread h. -/
def does (s : State) (h : Thr) (i : Instr) (t : State) : Prop := programmed s h i → exec i s = .next t

/-- Run r with one more instruction issued. -/
def charged (r : Run) : Run := { r with issued := r.issued + 1 }

/-- Thread h as an instruction finds it: its run is charged one instruction (R155), and an emit of it waits for room no more (R181). -/
def found (s : State) (h : Thr) (r : Run) : Thread := { s.thread (thrIdx h) with run := some (charged r), waitRoom := false }

/-- The device after thread h has issued an instruction and become `t`: the instruction is counted in CHS_GCNT 7, h is the thread of its engine
that issued last, no thread waits for it any more (R137, R138, 08_chisel_instructions.md R183), and nothing else is changed. -/
def ran (s : State) (h : Thr) (t : Thread) : State :=
  ((s.issued (thrIdx h)).count (R_CHS_GCNT 7)).setThread (thrIdx h) t

/-- The thread at the next instruction (08_chisel_instructions.md R167). -/
def onward (t : Thread) : Thread := { t with pc := nextPc t.pc }

/-- G register q (07_chisel_machine.md R144). -/
def val (t : Thread) (q : BitVec 4) : BitVec 32 := if q = 0 then 0 else t.g.at 0 q.toNat

/-- The thread with v in G register q; G0 discards it (R144). -/
def put (t : Thread) (q : BitVec 4) (v : BitVec 32) : Thread :=
  if q = 0 then t else { t with g := t.g.put 0 q.toNat v }

/-- The thread with Z and N of a result (08_chisel_instructions.md R169). -/
def zn (t : Thread) (v : BitVec 32) : Thread := { t with z := v == 0, n := v.msb }

/-- The thread with Z and N of a result and C and V as given. -/
def zncv (t : Thread) (v : BitVec 32) (c o : Bool) : Thread := { t with z := v == 0, n := v.msb, c := c, v := o }

/-- The thread with v in T register q (R144). -/
def putT (t : Thread) (q : BitVec 2) (v : BitVec 64) : Thread := { t with t := t.t.put 0 q.toNat v }

/-- Byte a of a space that thread h reaches with run r: 0 sentence, 1 context, 2 local (07_chisel_machine.md R147 to R150). -/
def spaceByte (s : State) (h : Thr) (r : Run) (space : BitVec 2) (a : Nat) : BitVec 8 :=
  if space = 0 then r.sent.getD a 0 else if space = 1 then r.ctx.at 0 a else s.chs.loc.at 0 (65536 * h.e.val + a)

/-- Bytes a to a + n - 1 of a space. -/
def spaceRange (s : State) (h : Thr) (r : Run) (space : BitVec 2) (a n : Nat) : Bytes :=
  (List.range n).map fun i => spaceByte s h r space (a + i)

/-- A load of n bytes from a is within its space and aligned (Table CHS-5), and no local word it touches holds an uncorrectable
error (18_protection_integrity.md R376). -/
def canLoad (s : State) (h : Thr) (space : BitVec 2) (a : Int) (n : Nat) : Prop :=
  0 ≤ a ∧
    (if space = 0 then a + n ≤ 4096
     else if space = 1 then a + n ≤ 512 ∧ (n : Int) ∣ a
     else space = 2 ∧ a + n ≤ 65536 ∧ (n : Int) ∣ a ∧ s.localBad h.e.val a.toNat n = [])

/-- A store of n bytes to a is within the sentence, the writable context or the local space, and aligned. -/
def canStore (s : State) (h : Thr) (r : Run) (space : BitVec 2) (a : Int) (n : Nat) : Prop :=
  canLoad s h space a n ∧ (space = 0 → a + n ≤ r.sent.length) ∧ (space = 1 → 0x140 ≤ a)

/-- The device after thread h has stored bytes to a and gone on with thread t, whose run was r. -/
def stored (s : State) (h : Thr) (r : Run) (t : Thread) (space : BitVec 2) (a : Nat) (bs : Bytes) : State :=
  if space = 0 then ran s h { t with run := some { charged r with sent := r.sent.take a ++ bs ++ r.sent.drop (a + bs.length) } }
  else if space = 1 then ran s h { t with run := some { charged r with ctx := r.ctx.setBytes 0 a bs } }
  else
    { ran s h t with
      chs := { (ran s h t).chs with loc := s.chs.loc.setBytes 0 (65536 * h.e.val + a) bs } }

/-- Value of decimal digits, the first most significant. -/
def decimal (ds : List Nat) : Nat := ds.foldl (fun v d => 10 * v + d) 0

/-- Characters of decimal digits. -/
def ascii (ds : List Nat) : Bytes := ds.map fun d => BitVec.ofNat 8 (48 + d)

/-- The character does not go on with a run of decimal digits. -/
def ends (rest : Bytes) : Prop := ∀ c, rest.head? = some c → ¬(48 ≤ c.toNat ∧ c.toNat ≤ 57)

/-- The thread after a parse that consumed n characters: the result v is the wanted value `w` or the bound it saturates at
(08_chisel_instructions.md R174). -/
def parsed (t : Thread) (rd : BitVec 4) (n : Nat) (v w : Int) : Thread :=
  put { t with fc := t.fc + n, z := v == 0, n := decide (v < 0), c := v != w, v := false } rd (BitVec.ofInt 32 v)

/-- w held between two bounds. -/
def held (lo hi w : Int) : Int := if w < lo then lo else if hi < w then hi else w

/-- From s to t, flag b of the flag register at `off` is set and its event counter has counted one and saturates at 255
(18_protection_integrity.md R377). -/
def flagged (s t : State) (off cnt b : Nat) : Prop :=
  (t.reg off).getLsbD b = true ∧ t.fld (cnt + 4 * b) 0 8 = min 255 (s.fld (cnt + 4 * b) 0 8 + 1)

/-- The device after thread h has raised the thread fault `code` (07_chisel_machine.md R158): the fault is recorded in CHS_LFAULT0 to 3 and
counted, and the run ends without write-back. `s0` is the device that has counted the instruction. -/
def faulted (s0 : State) (h : Thr) (r : Run) (code word addr imm : Nat) : State :=
  s0.threadFault (thrIdx h) r code word addr imm

/-- The stores that a program's instructions write are in their canonical form (Machine/Sparse.lean). -/
structure Canonical (s : State) : Prop where
  regs : s.regs.wf regReset = true
  contexts : s.flw.ctx.wf (fun _ => 0) = true
  program : s.chs.prog.wf (fun _ => 0) = true
  locals : s.chs.loc.wf (fun _ => 0) = true
  threads : s.chs.threads.wf (fun _ => {}) = true
  queues : s.chs.queues.wf (fun _ => []) = true

/-- Every thread is within the limits of a run (07_chisel_machine.md R144, R148, R155, R156, 08_chisel_instructions.md R173). -/
structure RunLimits (s : State) : Prop where
  cursor : ∀ k, (s.thread k).fc ≤ 4096
  stack : ∀ k, (s.thread k).stack.length ≤ 8
  runs : ∀ k, ∀ r ∈ (s.thread k).held, r.issued ≤ r.budget ∧ r.emits.length ≤ 8 ∧ r.sent.length ≤ 4096

/-! Host commands. -/

/-- The host interface can take the command of the ring at once, its completion does not fill the ring, and nothing else is under way there
(15_host_interface.md R316, R317, R320). -/
structure Ready (s : State) (op : Nat) (c : HostCmd) : Prop where
  mode : s.glb.mode ≠ .reset ∧ s.glb.rebootPending = false
  ring : s.HST_CTL_KR_EN = 1 ∧ s.unconsumed < 511
  idle : s.hst.fetched = [] ∧ s.hst.held = [] ∧ s.hst.flights = []
  job : op = 0x0C → s.cfg.job = none
  handed : s.aln.outbox = []
  ofRing : c.src = none

/-- The alive counter of the command is the one that follows the last (05_sentences_checks.md R118). -/
def inSequence (s : State) (c : HostCmd) : Prop := ∀ r, s.snt.alive0 = some r → c.alive.toNat = (r + 1) % 256

/-- A local command of the ring passes every check of R40 that comes before its own conditions (02_modes.md R40): epoch, alive counter,
arguments, units, access and mode. -/
structure Accepted (s : State) (op : Nat) (c : HostCmd) : Prop extends Ready s op c where
  here : c.remote = false
  epoch : c.epoch = s.glb.epoch ∧ c.epoch ≠ 0
  alive : inSequence s c
  args : s.argsOk op c = true
  unit : s.cmdAbsent op c = false
  right : ∀ t r, cmdTarget op = some (t, r) → s.granted t 0 r 0 1 = true
  legal : s.cmdLegal op = true

/-- The command as it is in flight: `awaited` bytes of host memory still to come, `at_` its handover boundary. -/
def flightOf (s : State) (op : Nat) (c : HostCmd) (awaited at_ : Nat) : Flight :=
  { key := s.hst.nextKey, op := op, cmd := c, awaited := awaited, at_ := at_ }

/-- The device with the accepted command counted and in flight, before the command's own effect. -/
def begun (s : State) (op : Nat) (c : HostCmd) (awaited : Nat := 0) (at_ : Nat := 0) : State :=
  { s.count (R_HST_GCNT 0) with
    snt := { s.snt with alive0 := some c.alive.toNat }
    hst := { s.hst with nextKey := s.hst.nextKey + 1, flights := [flightOf s op c awaited at_] } }

/-- The completion entry of a command in the ring of host memory (Table HST-4). -/
def replyBytes (s : State) (c : HostCmd) (status result : Nat) : Bytes :=
  [c.tag, BitVec.ofNat 8 status] ++ leBytes 2 s.glb.epoch.toNat ++
    [c.slot, if s.HST_KRTAIL_TAIL / 512 % 2 = 0 then 128 else 0, 0, 0] ++ leBytes 8 result

/-- Where it stands. -/
def replyAddr (s : State) : Nat := s.krBase + 16 * (s.HST_KRTAIL_TAIL % 512)

/-- From s to t the command of the ring has completed (R320): its entry is written, HST_KRTAIL has advanced and nothing is in flight. -/
structure Answered (s t : State) (c : HostCmd) (status result : Nat) : Prop where
  written : ∃ l, t.out = l ++ s.out ∧ .hostWrite (replyAddr s) (replyBytes s c status result) ∈ l
  tail : t.HST_KRTAIL_TAIL = (s.HST_KRTAIL_TAIL + 1) % 65536
  counted : t.reg (R_HST_GCNT 1) = s.reg (R_HST_GCNT 1) + 1
  free : t.hst.flights = [] ∧ t.hst.held = [] ∧ t.hst.fetched = []

/-- Nothing but the host interface, the alive reference and the outputs differs between s and t; of the registers, only HST_KRTAIL and the
counters of commands and completions. -/
def hostOnly (s t : State) (c : HostCmd) : Prop :=
  t = { s with regs := t.regs, hst := t.hst, out := t.out, snt := { s.snt with alive0 := some c.alive.toNat } } ∧
    ∀ o, o ≠ R_HST_GCNT 0 → o ≠ R_HST_GCNT 1 → o ≠ R_HST_KRTAIL → t.reg o = s.reg o

/-- The bytes that outputs, newest first, write into host memory, in the order written, with their addresses. -/
def hostCells (l : List Output) : List (Nat × Byte) :=
  l.reverse.flatMap fun o => match o with
    | .hostWrite a bs => bs.zipIdx.map fun x => (a + x.2, x.1)
    | _ => []

/-- Bytes from address a on. -/
def cellsAt (a : Nat) (bs : Bytes) : List (Nat × Byte) := bs.zipIdx.map fun x => (a + x.2, x.1)

/-- Read requests of at most 512 bytes for n bytes of host memory from a on, newest first (R326). -/
def readsOf (a n : Nat) : List Output :=
  ((List.range ((n + 511) / 512)).map fun i => Output.hostRead (a + 512 * i) (min 512 (n - 512 * i))).reverse

/-! Accesses to registers. -/

/-- Master m may access n bytes at offset `off` of a register block (18_protection_integrity.md R371): nothing holds the access, the unit is
present and the table grants the right (16 read, 17 write). -/
structure MayAccess (s : State) (m off n right : Nat) : Prop where
  mode : s.glb.mode ≠ .reset
  block : off < 0x110000 ∧ off % n = 0 ∧ (n = 4 ∨ n = 8)
  free : s.masterHeld m = false ∧ (∀ y ∈ s.pbr.waitBus, y.master ≠ m) ∧ s.pbr.farLock ≠ some (off / 0x10000)
  unit : s.absentAt off = false
  right : s.granted (off / 0x10000) m right (off % 0x10000) n = true

/-- Only the registers listed differ between s and t, and nothing else. -/
def onlyRegs (s t : State) (offs : List Nat) : Prop := t = { s with regs := t.regs } ∧ ∀ o, o ∉ offs → t.reg o = s.reg o

/-- A host master's number: M0, or M4 for JTAG. -/
def masterOf (jtag : Bool) : Nat := if jtag then 4 else 0

/-! Modes and what waits for runs. -/

/-- The next fault epoch (02_modes.md R36): 0xFFFF is followed by 0x0001. -/
def epochAfter (e : BitVec 16) : BitVec 16 := if e = 0xFFFF then 1 else e + 1

/-- The device has gone from s into HALT with a cause (02_modes.md R36, Table MOD-1, Sequence MOD-2): commands, runs, commits and alive references are discarded, the
epoch is the next one, the claim is released and PEER_FAULT is driven. -/
structure Halted (s t : State) (cause : Nat) : Prop where
  mode : t.glb.mode = .halt ∧ t.glb.prevMode = s.glb.mode ∧ t.glb.shed = 0 ∧ t.glb.haltCause = cause
  epoch : t.glb.epoch = epochAfter s.glb.epoch
  pins : t.glb.active = false ∧ t.pbr.faultDriven = true
  host : t.hst.fetched = [] ∧ t.hst.flights = []
  runs : t.chs.threads = [] ∧ t.chs.queues = [] ∧ t.chs.blocked = []
  commits : t.cfg.waiting = none ∧ t.cfg.window = none ∧ t.cfg.job = none
  alive : t.snt.alive0 = none ∧ t.snt.alive1 = none ∧ t.snt.alive2 = []
  flag : flagged s t R_PWR_FLAGS (R_PWR_FLAGCNT 0) 5

/-- Everything that RESET does not keep is at its reset value (02_modes.md R32, R36). -/
structure Cleared (s t : State) : Prop where
  regs : t.regs = []
  units : t.ports = [] ∧ t.banks = [] ∧ t.snt = {} ∧ t.flw = {} ∧ t.chs = {} ∧ t.aln = {} ∧ t.rcl = {} ∧ t.ana = {} ∧ t.cap = {} ∧ t.arm = {} ∧
    t.hst = {} ∧ t.cfg = {}
  stores : t.ddr = [] ∧ t.log = [] ∧ t.eccBad = []
  kept : t.flash = s.flash ∧ t.glb.variant = s.glb.variant ∧ t.pending = s.pending
  pins : t.pbr.claimLine = s.pbr.claimLine ∧ t.pbr.faultLine = s.pbr.faultLine ∧ t.pwr.warn = s.pwr.warn ∧ t.pwr.pfail = s.pwr.pfail
  quiet : t.glb.active = false ∧ t.tim.ppsOut = false

/-- Nothing waits for runs to end or for the pool: no commit, no FLOW_SET or FLOW_CLEAR, nothing handed on, no frame and no cell. -/
structure Calm (s : State) : Prop where
  waiting : s.cfg.waiting = none
  flights : ∀ f ∈ s.hst.flights, f.op ≠ 0x10 ∧ f.op ≠ 0x11
  handed : s.aln.outbox = []
  frames : ∀ k, (s.np k).fifo = []
  cells : ∀ k, (s.link k).rxBuf = []

/-- Every thread has its reserve of two cells (07_chisel_machine.md R148). -/
def Full (s : State) : Prop := ∀ x ∈ s.chs.threads, 2 ≤ x.2.reserve

/-- M6 may write every place of the summaries in the flash (12_event_capture.md R267, 18_protection_integrity.md R369), and the next place is
one of them. -/
structure MayFlush (s : State) : Prop where
  place : s.cap.place < 512
  right : ∀ p < 512, s.granted 21 6 17 (0x3000 + 32 * p) 32 = true

/-! The peer link. -/

/-- A packet as Table PBR-1 lays it out (16_peer_bridge_twin.md R331, R332), with its trailer under the device ID `id`. -/
def wire (id : Nat) (p : Packet) (seq : Nat) : Bytes :=
  let bs := p.header seq ++ p.payload
  bs ++ beBytes 4 (foldCrc id p.key seq bs)

/-- The fields of a packet are within their widths and its payload is one that its TYPE and SIZE may have. -/
structure Fits (p : Packet) (seq : Nat) : Prop where
  head : p.typ ≤ 6 ∧ p.size ≤ 4 ∧ p.tag < 256 ∧ p.epoch < 65536 ∧ p.status < 256 ∧ p.origin < 16 ∧ p.key < 8192 ∧ p.addr < 2 ^ 21
  seq : seq < 65536
  body : payloadOk p = true

/-- Packet p of TYPE `typ` comes on the link, which is up, with the SEQ expected (R332), as `bytes`; no access waits and nothing is handed
on. -/
structure Arrives (s : State) (typ : Nat) (p : Packet) (seq : Nat) (bytes : Bytes) : Prop where
  kind : p.typ = typ
  fits : Fits p seq
  runs : s.peerRuns = true ∧ s.pbr.lanes ≠ 0
  turn : s.pbr.up = true ∧ seq = s.pbr.rxSeq.at 0 typ
  wired : bytes = wire s.ARM_ID_DEVICE_ID p seq
  calm : s.pbr.waitBus = [] ∧ s.aln.outbox = []

/-- The peer link's state once the packet has been taken. -/
def taken (s : State) (typ seq : Nat) : Pbr := { s.pbr with rxSeq := s.pbr.rxSeq.put 0 typ ((seq + 1) % 65536) }

/-- A RESPONSE to request p (R334, R336). -/
def responseTo (s : State) (p : Packet) (status : Nat) (payload : Bytes) : Packet :=
  { typ := 2, size := p.size, tag := p.tag, epoch := s.glb.epoch.toNat, status := status, payload := payload }

/-- From s to t the peer link has gone down (R329): nothing of it waits, its sequences start anew. -/
structure PeerFell (s t : State) : Prop where
  link : t.pbr.up = false ∧ t.pbr.good = 0 ∧ t.pbr.lanes = 0 ∧ t.pbr.sync = 0
  queues : t.pbr.hbQ = []
  sequences : t.pbr.txSeq = [] ∧ t.pbr.rxSeq = []
  lost : s.pbr.up = true → t.pbr.mirQ = [] ∧ t.pbr.respQ = [] ∧ t.pbr.reqQ = [] ∧ t.pbr.syncQ = [] ∧ t.pbr.nears = [] ∧ t.pbr.farLock = none ∧
    t.PBR_LOCK_STATE = 0 ∧ flagged s t R_PBR_FLAGS (R_PBR_FLAGCNT 0) 0 ∧ t.reg (R_PBR_GCNT 12) = s.reg (R_PBR_GCNT 12) + 1

end Sys2Proof.Safety
end

