-- ==== Sys2Proof/Certificates/Slice0/Obligations.lean ====
section
/-! DEFINITION. The statements about the device, for the provers. -/

open Sys2Proof Sys2Proof.Machine Sys2Proof.Safety

/-- Addition, subtraction and comparison (08_chisel_instructions.md R169, R170, Table CHX-2): an instruction that issues writes the 32-bit
result and Z, N, C and V, and changes nothing else. C of a subtraction is 1 when no borrow occurs; V is 1 when the exact signed result is
not the one written. -/
def Obligations.ChiselAddSubtractCompare : Prop :=
  ∀ (s : State) (h : Thr) (r : Run) (x : OpsCA) (y : OpsCB), Issues s h r →
    let t := onward (found s h r)
    let a := val t x.ra
    let b := val t x.rb
    let i := val t y.ra
    let c := BitVec.ofBool t.c
    let sum (u v w : BitVec 32) : Thread :=
      zncv t (u + v + w) (decide (2 ^ 32 ≤ u.toNat + v.toNat + w.toNat)) (decide ((u + v + w).toInt ≠ u.toInt + v.toInt + w.toInt))
    let diff (u v w : BitVec 32) : Thread :=
      zncv t (u - v - w) (decide (v.toNat + w.toNat ≤ u.toNat)) (decide ((u - v - w).toInt ≠ u.toInt - v.toInt - w.toInt))
    does s h (.add h x) (ran s h (put (sum a b 0) x.rd (a + b))) ∧
    does s h (.adc h x) (ran s h (put (sum a b (c.setWidth 32)) x.rd (a + b + c.setWidth 32))) ∧
    does s h (.sub h x) (ran s h (put (diff a b 0) x.rd (a - b))) ∧
    does s h (.sbc h x) (ran s h (put (diff a b ((~~~c).setWidth 32)) x.rd (a - b - (~~~c).setWidth 32))) ∧
    does s h (.addi h y 0) (ran s h (put (sum i (y.imm.signExtend 32) 0) y.rd (i + y.imm.signExtend 32))) ∧
    (x.rd = 0 → does s h (.cmp h x) (ran s h (diff a b 0))) ∧
    (y.rd = 0 → does s h (.cmpi h y) (ran s h (diff i (y.imm.signExtend 32) 0))) ∧
    (y.rd = 0 → does s h (.cmpiU h y) (ran s h (diff i (y.imm.setWidth 32) 0)))

/-- Logic, multiplication, shifts, minimum and maximum, leading zeros, byte reversal and the load of an upper half (R170, Table CHX-2): the
result is written with Z and N, and nothing else changes but C in a shift. A shift count is the low five bits of RB or of IMM16; a count
of 0 keeps C, any other count sets C to the last bit shifted out. lui changes no flag. -/
def Obligations.ChiselLogicMultiplyAndShift : Prop :=
  ∀ (s : State) (h : Thr) (r : Run) (x : OpsCA) (y : OpsCB), Issues s h r →
    let t := onward (found s h r)
    let left (v : BitVec 32) (n : Nat) : Thread :=
      { zn t (v <<< n) with c := if n = 0 then t.c else v.getLsbD (32 - n) }
    let right (w v : BitVec 32) (n : Nat) : Thread := { zn t w with c := if n = 0 then t.c else v.getLsbD (n - 1) }
    let n := (val t x.rb).toNat % 32
    let k := y.imm.toNat
    let a := val t x.ra
    let b := val t x.rb
    let i := val t y.ra
    let m := y.imm.setWidth 32
    let gives (c : Instr) (v : BitVec 32) : Prop := does s h c (ran s h (put (zn t v) x.rd v))
    let givesI (c : Instr) (v : BitVec 32) : Prop := does s h c (ran s h (put (zn t v) y.rd v))
    gives (.and h x) (a &&& b) ∧ gives (.or h x) (a ||| b) ∧ gives (.xor h x) (a ^^^ b) ∧ gives (.andn h x) (a &&& ~~~b) ∧
    gives (.mul h x) (a * b) ∧ gives (.mulhu h x) (BitVec.ofNat 32 (a.toNat * b.toNat / 2 ^ 32)) ∧
    gives (.mulhs h x) (BitVec.ofInt 32 (a.toInt * b.toInt / 2 ^ 32)) ∧
    gives (.min h x) (if b.slt a then b else a) ∧ gives (.max h x) (if a.slt b then b else a) ∧
    gives (.minu h x) (if b.ult a then b else a) ∧ gives (.maxu h x) (if a.ult b then b else a) ∧
    givesI (.andi h y 0) (i &&& m) ∧ givesI (.ori h y 0) (i ||| m) ∧ givesI (.xori h y 0) (i ^^^ m) ∧
    (x.rb = 0 →
      gives (.bswap h x) (a.extractLsb' 0 8 ++ a.extractLsb' 8 8 ++ a.extractLsb' 16 8 ++ a.extractLsb' 24 8) ∧
      ∃ n ≤ 32, gives (.clz h x) (BitVec.ofNat 32 n) ∧ (∀ j, 32 - n ≤ j → a.getLsbD j = false) ∧
        (n < 32 → a.getLsbD (31 - n) = true)) ∧
    does s h (.shl h x) (ran s h (put (left a n) x.rd (a <<< n))) ∧
    does s h (.shr h x) (ran s h (put (right (a >>> n) a n) x.rd (a >>> n))) ∧
    does s h (.sar h x) (ran s h (put (right (a.sshiftRight n) a n) x.rd (a.sshiftRight n))) ∧
    (k < 32 →
      does s h (.shli h y) (ran s h (put (left i k) y.rd (i <<< k))) ∧
      does s h (.shri h y) (ran s h (put (right (i >>> k) i k) y.rd (i >>> k))) ∧
      does s h (.sari h y) (ran s h (put (right (i.sshiftRight k) i k) y.rd (i.sshiftRight k)))) ∧
    (y.ra = 0 → does s h (.lui h y 0) (ran s h (put t y.rd (y.imm ++ 0#16))))

/-- The float unit (08_chisel_instructions.md R171, Table CHX-3): each instruction writes its result and changes no flag but for fcmp, which
writes no result. A NaN result is the first operand NaN, in the order RA, RB, RD, with its quiet bit set; f2i of a NaN is 0x8000_0000.
Which zero fmin and fmax return for zeros of unlike sign is the free value Config.zeroPick (log entry 33). Clauses that no rule states
word for word follow the model's readings, log entries 33 and 36. -/
def Obligations.ChiselFloat : Prop :=
  ∀ (s : State) (h : Thr) (r : Run) (x : OpsCA), Issues s h r →
    let t := onward (found s h r)
    let a := val t x.ra
    let b := val t x.rb
    let d := val t x.rd
    let gives (c : Instr) (v : Nat) : Prop := does s h c (ran s h (put t x.rd (BitVec.ofNat 32 v)))
    let isNan (v : BitVec 32) : Prop := 0x7F800000#32 < v &&& 0x7FFFFFFF#32
    let quiet (v : BitVec 32) : BitVec 32 := v ||| 0x400000#32
    gives (.fadd h x) (fAdd a.toNat b.toNat) ∧ gives (.fsub h x) (fSub a.toNat b.toNat) ∧
    gives (.fmul h x) (fMul a.toNat b.toNat) ∧ gives (.fmac h x) (fMac a.toNat b.toNat d.toNat) ∧
    gives (.fmin h x) (fMinMax false (Config.zeroPick false a b) a.toNat b.toNat) ∧
    gives (.fmax h x) (fMinMax true (Config.zeroPick true a b) a.toNat b.toNat) ∧
    (x.rd = 0 →
      (isNan a ∨ isNan b → does s h (.fcmp h x) (ran s h { t with z := false, n := false, c := false, v := true })) ∧
      (¬(isNan a ∨ isNan b) → does s h (.fcmp h x)
        (ran s h { t with
          z := decide (fKey a.toNat = fKey b.toNat), n := decide (fKey a.toNat < fKey b.toNat),
          c := decide (fKey b.toNat < fKey a.toNat), v := false }))) ∧
    (x.rb = 0 →
      gives (.i2f h x) (fOfInt a.toInt 0 false) ∧ gives (.u2f h x) (fOfInt a.toNat 0 false) ∧ gives (.f2i h x) (fToInt a.toNat) ∧
      does s h (.fabs h x) (ran s h (put t x.rd (a &&& 0x7FFFFFFF#32))) ∧
      does s h (.fneg h x) (ran s h (put t x.rd (a ^^^ 0x80000000#32))) ∧
      (isNan a → does s h (.f2i h x) (ran s h (put t x.rd 0x80000000#32)))) ∧
    (isNan a →
      does s h (.fadd h x) (ran s h (put t x.rd (quiet a))) ∧ does s h (.fsub h x) (ran s h (put t x.rd (quiet a))) ∧
      does s h (.fmul h x) (ran s h (put t x.rd (quiet a))) ∧ does s h (.fmac h x) (ran s h (put t x.rd (quiet a)))) ∧
    (¬isNan a → isNan b →
      does s h (.fadd h x) (ran s h (put t x.rd (quiet b))) ∧ does s h (.fsub h x) (ran s h (put t x.rd (quiet b))) ∧
      does s h (.fmul h x) (ran s h (put t x.rd (quiet b))) ∧ does s h (.fmac h x) (ran s h (put t x.rd (quiet b)))) ∧
    (¬isNan a → ¬isNan b → isNan d → does s h (.fmac h x) (ran s h (put t x.rd (quiet d))))

/-- Loads (08_chisel_instructions.md R172, Table CHX-4): the address G[RA] + OFS is formed exactly; a load within its space writes its
destination from the bytes there and changes nothing else, and no byte of memory. Clauses that no rule states word for word follow the
model's readings, log entry 62. -/
def Obligations.ChiselLoad : Prop :=
  ∀ (s : State) (h : Thr) (r : Run) (x : OpsCE), Issues s h r →
    let t := onward (found s h r)
    let a : Int := (val t x.ra).toNat + x.ofs.toInt
    let n := 2 ^ x.size.toNat
    let bs := spaceRange s h r x.space a.toNat n
    canLoad s h x.space a n →
    (x.size ≠ 3 →
      does s h (.ld h x) (ran s h (put t x.rd (BitVec.ofNat 32 (leNat bs)))) ∧
      does s h (.ldbe h x) (ran s h (put t x.rd (BitVec.ofNat 32 (beNat bs))))) ∧
    (x.size = 0 → does s h (.lds h x) (ran s h (put t x.rd ((BitVec.ofNat 8 (leNat bs)).signExtend 32)))) ∧
    (x.size = 1 → does s h (.lds h x) (ran s h (put t x.rd ((BitVec.ofNat 16 (leNat bs)).signExtend 32)))) ∧
    (x.size = 3 → x.rd.getLsbD 0 = false →
      does s h (.ld h x) (ran s h (put (put t x.rd (BitVec.ofNat 32 (leNat (bs.take 4)))) (x.rd + 1)
        (BitVec.ofNat 32 (leNat (bs.drop 4))))) ∧
      does s h (.ldbe h x) (ran s h (put (put t x.rd (BitVec.ofNat 32 (beNat (bs.take 4)))) (x.rd + 1)
        (BitVec.ofNat 32 (beNat (bs.drop 4)))))) ∧
    (x.size = 3 → x.rd < 4 →
      does s h (.ldt h x) (ran s h (putT t (x.rd.setWidth 2) (BitVec.ofNat 64 (leNat bs)))))

/-- Stores (08_chisel_instructions.md R172, Table CHX-4): the bytes of RD, of the pair RD and RD + 1, or of T[RD] are written at G[RA] + OFS,
and nothing else changes: every other byte of the three spaces, and the local space of every other engine, reads as before. Clauses that
no rule states word for word follow the model's readings, log entry 62. -/
def Obligations.ChiselStore : Prop :=
  ∀ (s : State) (h : Thr) (r : Run) (x : OpsCE), Issues s h r →
    let t := onward (found s h r)
    let a : Int := (val t x.ra).toNat + x.ofs.toInt
    let n := 2 ^ x.size.toNat
    let lo := (val t x.rd).toNat
    let hi := (val t (x.rd + 1)).toNat
    let puts (c : Instr) (bs : Bytes) : Prop :=
      does s h c (stored s h r t x.space a.toNat bs) ∧ bs.length = n ∧
      ∃ r', (((stored s h r t x.space a.toNat bs).thread (thrIdx h)).run = some r' ∧
        (∀ sp b, sp ≠ 3 → spaceByte (stored s h r t x.space a.toNat bs) h r' sp b =
          if sp = x.space ∧ a.toNat ≤ b ∧ b < a.toNat + n then bs.getD (b - a.toNat) 0 else spaceByte s h r sp b) ∧
        ∀ g : Thr, g.e ≠ h.e → ∀ b < 65536, spaceByte (stored s h r t x.space a.toNat bs) g r' 2 b = spaceByte s g r 2 b)
    canStore s h r x.space a n →
    (x.size ≠ 3 → puts (.st h x) (leBytes n lo) ∧ puts (.stbe h x) (beBytes n lo)) ∧
    (x.size = 3 → x.rd.getLsbD 0 = false →
      puts (.st h x) (leBytes 4 lo ++ leBytes 4 hi) ∧ puts (.stbe h x) (beBytes 4 lo ++ beBytes 4 hi)) ∧
    (x.size = 3 → x.rd < 4 → puts (.stt h x) (leBytes 8 (t.t.at 0 x.rd.toNat).toNat))

/-- Atomics and counters (08_chisel_instructions.md R182, Table CHX-13): each reads and writes one naturally aligned place of local space in
one step, and no flag changes. Clauses that no rule states word for word follow the model's readings, log entry 62. -/
def Obligations.ChiselAtomic : Prop :=
  ∀ (s : State) (h : Thr) (r : Run) (x : OpsCE) (y : OpsCB), Issues s h r →
    let t := onward (found s h r)
    let a : Int := (val t x.ra).toNat + x.ofs.toInt
    let n := 2 ^ x.size.toNat
    let old := spaceRange s h r 2 a.toNat n
    let m := leNat old
    let lo := (val t x.rd).toNat
    let hi := (val t (x.rd + 1)).toNat
    let pair := put (put t x.rd (BitVec.ofNat 32 (leNat (old.take 4)))) (x.rd + 1) (BitVec.ofNat 32 (leNat (old.drop 4)))
    let leaves (c : Instr) (t' : Thread) (at' : Nat) (bs : Bytes) : Prop := does s h c (stored s h r t' 2 at' bs)
    (x.space = 2 → canLoad s h 2 a n →
      (x.size = 2 →
        leaves (.ladd h x) (put t x.rd (BitVec.ofNat 32 m)) a.toNat (leBytes 4 (m + lo)) ∧
        leaves (.lswap h x) (put t x.rd (BitVec.ofNat 32 m)) a.toNat (leBytes 4 lo) ∧
        (x.rd.getLsbD 0 = false →
          leaves (.lcasW h x) (put t x.rd (BitVec.ofNat 32 m)) a.toNat (leBytes 4 (if m = lo then hi else m)))) ∧
      (x.size = 3 → x.rd.getLsbD 0 = false →
        leaves (.ladd h x) pair a.toNat (leBytes 8 (m + lo + 2 ^ 32 * hi)) ∧
        leaves (.lswap h x) pair a.toNat (leBytes 8 (lo + 2 ^ 32 * hi)))) ∧
    (let c := (val t y.ra).toNat
     let w := leNat (spaceRange s h r 2 c 4)
     canLoad s h 2 c 4 →
      leaves (.cntS h y) (put t y.rd (BitVec.ofNat 32 (min 0xFFFFFFFF (w + y.imm.toNat)))) c
        (leBytes 4 (min 0xFFFFFFFF (w + y.imm.toNat))) ∧
      leaves (.cntW h y) (put t y.rd (BitVec.ofNat 32 (w + y.imm.toNat))) c (leBytes 4 ((w + y.imm.toNat) % 2 ^ 32)))

/-- Bit fields, the cursor and the sentence length (08_chisel_instructions.md R173, Table CHX-5, 07_chisel_machine.md R148): bits OFS to OFS +
WIDTH - 1 of RA are taken, zero- or sign-extended, or put into RD, whose other bits are kept, and Z and N follow the result; fset and fadv
move FC to a place from 0 to 4,096, scan searches from FC for a byte, fget and getlen read FC and the length, and setlen sets the length,
the bytes added reading as zero, up to the free room of the sentence's last cell plus 512 bytes and never above 4,096. Clauses that no
rule states word for word follow the model's readings, log entry 115. -/
def Obligations.ChiselFieldAndCursor : Prop :=
  ∀ (s : State) (h : Thr) (r : Run) (x : OpsCC) (y : OpsCA), Issues s h r →
    let t := onward (found s h r)
    let a := val t x.ra
    let d := val t x.rd
    let o := x.ofs.toNat
    let w := x.width.toNat
    let gives (c : Instr) (v : BitVec 32) : Prop := does s h c (ran s h (put (zn t v) x.rd v))
    let there : Int := a.toInt + x.ofs.toNat
    let n := (val t y.ra).toNat
    (1 ≤ w → o + w ≤ 32 →
      gives (.fextU h x) ((a.extractLsb' o w).setWidth 32) ∧
      gives (.fextS h x) ((a.extractLsb' o w).signExtend 32) ∧
      ∃ v, gives (.fins h x) v ∧ ∀ i < 32, v.getLsbD i = if o ≤ i ∧ i < o + w then a.getLsbD (i - o) else d.getLsbD i) ∧
    (x.width = 0 →
      (0 ≤ there → there ≤ 4096 → does s h (.fset h x) (ran s h { t with fc := there.toNat })) ∧
      (0 ≤ t.fc + there → t.fc + there ≤ 4096 →
        does s h (.fadv h x) (ran s h { t with fc := (t.fc + there).toNat })) ∧
      (∀ i, t.fc + i < r.sent.length → (∀ j < i, r.sent.getD (t.fc + j) 0 ≠ x.ofs) → r.sent.getD (t.fc + i) 0 = x.ofs →
        does s h (.scan h x)
          (ran s h (put { t with fc := t.fc + i + 1, z := false, n := false } x.rd (BitVec.ofNat 32 i)))) ∧
      ((∀ j, t.fc ≤ j → j < r.sent.length → r.sent.getD j 0 ≠ x.ofs) →
        does s h (.scan h x)
          (ran s h (put { t with fc := r.sent.length, z := true, n := false } x.rd
            (BitVec.ofNat 32 r.sent.length - BitVec.ofNat 32 t.fc)))) ∧
      (x.ofs = 0 → does s h (.fget h x) (ran s h (put t x.rd (BitVec.ofNat 32 t.fc))))) ∧
    (y.ra = 0 → y.rb = 0 → does s h (.getlen h y) (ran s h (put t y.rd (BitVec.ofNat 32 r.sent.length)))) ∧
    (y.rd = 0 → y.rb = 0 → n ≤ 4096 → n ≤ (r.entry.sent.data.length + 255) / 256 * 256 + 512 →
      does s h (.setlen h y)
        (ran s h (put { t with
          run := some { charged r with sent := (r.sent ++ List.replicate (n - r.sent.length) 0).take n } } 1 (BitVec.ofNat 32 n))))

/-- Parsing (08_chisel_instructions.md R174, Table CHX-6). The OFS characters from FC begin with an optional sign where the instruction takes
one, then digits, and for pfix and pflt a point and further digits; what follows cannot go on with the number. The value is written,
saturated to the range of the result, with Z, N, C and V, and FC lies behind the last character consumed. Where no digit is consumed the
result is 0, V is set and FC stays. Clauses that no rule states word for word follow the model's readings, log entry 59. -/
def Obligations.ChiselParse : Prop :=
  ∀ (s : State) (h : Thr) (r : Run) (x : OpsCC), Issues s h r → x.ofs ≠ 0 →
    let t := onward (found s h r)
    let chars := (r.sent.drop t.fc).take x.ofs.toNat
    let w := x.width.toNat
    (∀ ds rest, ds ≠ [] → (∀ d ∈ ds, d < 10) → chars = ascii ds ++ rest → ends rest → w = 0 →
      does s h (.pdecU h x) (ran s h (parsed t x.rd ds.length (held 0 0xFFFFFFFF (decimal ds)) (decimal ds)))) ∧
    (∀ (sign : Bytes) ds rest, sign ∈ [[], [43], [45]] → ds ≠ [] → (∀ d ∈ ds, d < 10) → chars = sign ++ ascii ds ++ rest → ends rest →
      let v : Int := if sign = [45] then -decimal ds else decimal ds
      w = 0 →
        does s h (.pdecS h x) (ran s h (parsed t x.rd (sign ++ ascii ds).length (held (-0x80000000) 0x7FFFFFFF v) v))) ∧
    (∀ (sign : Bytes) ds fs rest, sign ∈ [[], [43], [45]] → ds ++ fs ≠ [] → (∀ d ∈ ds ++ fs, d < 10) →
      chars = sign ++ ascii ds ++ 46 :: ascii fs ++ rest → ends rest →
      let m := decimal (ds ++ (fs ++ List.replicate w 0).take w)
      let v : Int := if sign = [45] then -m else m
      let n := (sign ++ ascii ds ++ 46 :: ascii fs).length
      (w ≤ 9 → does s h (.pfix h x) (ran s h (parsed t x.rd n (held (-0x80000000) 0x7FFFFFFF v) v))) ∧
      (w = 0 → rest.head? ≠ some 69 → rest.head? ≠ some 101 →
        let f := fOfDec (decide (sign = [45])) (decimal (ds ++ fs)) (-fs.length)
        does s h (.pflt h x)
          (ran s h (put { t with
            fc := t.fc + n, z := fIsZero f, n := fNeg f && !fIsZero f, c := fIsInf f, v := false } x.rd (BitVec.ofNat 32 f))))) ∧
    (∀ ds rest, ds ≠ [] → (∀ d ∈ ds, d < 16) → chars = ds.map (fun d => BitVec.ofNat 8 (hexChar d)) ++ rest →
      (∀ c, rest.head? = some c → hexVal c.toNat = none) → w = 0 → x.ofs.toNat ≤ 8 →
      let v : Nat := ds.foldl (fun v d => 16 * v + d) 0
      does s h (.phex h x) (ran s h (parsed t x.rd ds.length v v))) ∧
    ((∀ c, chars.head? = some c → hexVal c.toNat = none ∧ c ≠ 43 ∧ c ≠ 45 ∧ c ≠ 46) → w = 0 →
      let none' : State := ran s h (put { t with z := true, n := false, c := false, v := true } x.rd 0)
      does s h (.pdecU h x) none' ∧ does s h (.pdecS h x) none' ∧ does s h (.pfix h x) none' ∧
      does s h (.pflt h x) none' ∧ (x.ofs.toNat ≤ 8 → does s h (.phex h x) none'))

/-- Formatting (08_chisel_instructions.md R174, Table CHX-6): OFS characters at FC become the low-order digits of RA, most significant first;
Z is set for zero, C when the value needs more characters, N and V are kept, and no other byte of the sentence changes. -/
def Obligations.ChiselFormat : Prop :=
  ∀ (s : State) (h : Thr) (r : Run) (x : OpsCC), Issues s h r → x.ofs ≠ 0 → x.rd = 0 →
    let t := onward (found s h r)
    let v := (val t x.ra).toNat
    let w := x.ofs.toNat
    let writes (c : Instr) (excess : Bool) (cs : Bytes) : Prop :=
      does s h c (ran s h { t with
        fc := t.fc + w, z := decide (v = 0), c := excess,
        run := some { charged r with sent := r.sent.take t.fc ++ cs ++ r.sent.drop (t.fc + w) } })
    t.fc + w ≤ r.sent.length →
    (∃ ds : List Nat, ds.length = w ∧ (∀ d ∈ ds, d < 10) ∧ decimal ds = v % 10 ^ w ∧
      writes (.fmtU h x) (decide (10 ^ w ≤ v)) (ascii ds) ∧
      (v < 2 ^ 31 → writes (.fmtS h x) (decide (10 ^ w ≤ v)) (ascii ds))) ∧
    (∃ ds : List Nat, ds.length = w - 1 ∧ (∀ d ∈ ds, d < 10) ∧ decimal ds = (2 ^ 32 - v) % 10 ^ (w - 1) ∧
      (2 ^ 31 ≤ v → 2 ^ 32 - v < 10 ^ (w - 1) → writes (.fmtS h x) false (45 :: ascii ds))) ∧
    (∃ ds : List Nat, ds.length = w ∧ (∀ d ∈ ds, d < 10) ∧ decimal ds = (2 ^ 32 - v) % 10 ^ w ∧
      (2 ^ 31 ≤ v → 10 ^ (w - 1) ≤ 2 ^ 32 - v → writes (.fmtS h x) true (ascii ds))) ∧
    (∃ ds : List Nat, ds.length = w ∧ (∀ d ∈ ds, d < 16) ∧ ds.foldl (fun u d => 16 * u + d) 0 = v % 16 ^ w ∧
      (w ≤ 8 → writes (.fmtX h x) (decide (16 ^ w ≤ v)) (ds.map fun d => BitVec.ofNat 8 (hexChar d))))

/-- Branches, calls, jumps and loops, and the conditional move (08_chisel_instructions.md R175, Tables CHX-1 and CHX-7): the target of a
branch is its index plus DISP; a taken one goes on there, or raises PC_RANGE at the branch when the target lies outside the code; an
untaken one goes on behind it whatever its target. call pushes the index behind it, ret goes to the address pushed last, loop counts RA
down. No flag changes. -/
def Obligations.ChiselBranch : Prop :=
  ∀ (s : State) (h : Thr) (r : Run) (ra : BitVec 4) (disp : BitVec 18) (x : OpsCD) (y : OpsCA), Issues s h r →
    let t := found s h r
    let u := onward t
    let inCode (p : Int) : Prop := 0 ≤ p ∧ p < s.CHS_PCODE_CODE_END
    let raisesPcRange (c : Instr) : Prop :=
      ∃ addr, does s h c (faulted (ran s h t) h (charged r) 2 (s.fetched (thrIdx h)) addr 0)
    let there : Int := t.pc + disp.toInt
    let away : Int := t.pc + x.disp.toInt
    let holds : List Bool :=
      [true, t.z, !t.z, t.n != t.v, t.n == t.v, !t.z && t.n == t.v, t.z || t.n != t.v, !t.c, t.c, t.c && !t.z, !t.c || t.z, t.n, !t.n,
        t.v, !t.v]
    (val t ra ≠ 0 → does s h (.bz h ra disp) (ran s h u)) ∧
    (val t ra = 0 → does s h (.bnz h ra disp) (ran s h u)) ∧
    (inCode there →
      (val t ra = 0 → does s h (.bz h ra disp) (ran s h { t with pc := there.toNat })) ∧
      (val t ra ≠ 0 → does s h (.bnz h ra disp) (ran s h { t with pc := there.toNat }))) ∧
    (¬inCode there → (val t ra = 0 → raisesPcRange (.bz h ra disp)) ∧ (val t ra ≠ 0 → raisesPcRange (.bnz h ra disp))) ∧
    (∀ (i : Nat) (c : Bool), holds[i]? = some c →
      does s h (.movc h y (BitVec.ofNat 14 i)) (ran s h (put u y.rd (if c then val t y.ra else val t y.rb))) ∧
      (x.cond = BitVec.ofNat 4 i → x.ra = 0 →
        (c = false → does s h (.bCond h x) (ran s h u)) ∧
        (c = true → inCode away → does s h (.bCond h x) (ran s h { t with pc := away.toNat })) ∧
        (c = true → ¬inCode away → raisesPcRange (.bCond h x)))) ∧
    (x.cond = 0 →
      (x.ra = 0 → inCode away → t.stack.length < 8 →
        does s h (.call h x) (ran s h { t with pc := away.toNat, stack := nextPc t.pc :: t.stack })) ∧
      (x.ra = 0 → ¬inCode away → raisesPcRange (.call h x)) ∧
      (∀ p rest, x.ra = 0 → x.disp = 0 → t.stack = p :: rest →
        does s h (.ret h x) (ran s h { t with pc := p, stack := rest })) ∧
      (inCode ((val t x.ra).toNat + x.disp.toInt) →
        does s h (.jr h x) (ran s h { t with pc := ((val t x.ra).toNat + x.disp.toInt).toNat })) ∧
      (¬inCode ((val t x.ra).toNat + x.disp.toInt) → raisesPcRange (.jr h x)) ∧
      (x.ra ≠ 0 →
        (val t x.ra = 1 → does s h (.loop h x) (ran s h (put u x.ra 0))) ∧
        (val t x.ra ≠ 1 → inCode away →
          does s h (.loop h x) (ran s h (put { t with pc := away.toNat } x.ra (val t x.ra - 1)))) ∧
        (val t x.ra ≠ 1 → ¬inCode away → raisesPcRange (.loop h x))))

/-- Checks (08_chisel_instructions.md R176, Table CHX-8, 05_sentences_checks.md Table SNT-4): cinit gives the start value of the algorithm,
cfold folds the bytes named one after the other, cfin and cver give the final value, and cver compares it with the field in the sentence.
For ALG 4 the folded state is the exclusive-or of the state and every byte. Clauses that no rule states word for word follow the model's
readings, log entry 58. -/
def Obligations.ChiselCheck : Prop :=
  ∀ (s : State) (h : Thr) (r : Run) (x : OpsCA) (y : OpsCB) (alg : Nat), Issues s h r → alg ≤ 4 →
    let t := onward (found s h r)
    let a := (val t x.ra).toNat
    let n := (val t x.rb).toNat
    let state (v : BitVec 32) : Nat := v.toNat % 2 ^ (8 * checkBytes alg)
    let start : Nat := [0xFFFF, 0xFFFF, 0xFFFFFFFF, 0xFFFFFFFF, 0].getD alg 0
    let fin (v : BitVec 32) : Nat := if alg = 2 ∨ alg = 3 then 0xFFFFFFFF - state v else state v
    let fold (bs : Bytes) : Nat := bs.foldl (fun c b => checkFold alg c b.toNat) (state (val t x.rd))
    let field := spaceRange s h r 0 n (checkBytes alg)
    (y.imm = BitVec.ofNat 16 alg → does s h (.cinit h y 0) (ran s h (put t y.rd (BitVec.ofNat 32 start)))) ∧
    (y.imm = 11 →
      let g := (val t y.ra).toNat
      does s h (.cinit h y 0)
        (ran s h (put t y.rd (BitVec.ofNat 32 ((foldPrefix s.ARM_ID_DEVICE_ID (g / 2 ^ 16 % 2 ^ 13) (g % 2 ^ 16)).foldl
          (fun c b => checkFold 3 c b.toNat) 0xFFFFFFFF))))) ∧
    (n = 0 → does s h (.cfold h x (BitVec.ofNat 14 alg)) (ran s h t) ∧
      does s h (.cfold h x (BitVec.ofNat 14 (alg + 8))) (ran s h t)) ∧
    (n ≠ 0 → a + n ≤ 4096 →
      does s h (.cfold h x (BitVec.ofNat 14 alg))
        (ran s h (put t x.rd (BitVec.ofNat 32 (fold (spaceRange s h r 0 a n)))))) ∧
    (n ≠ 0 → a + n ≤ 65536 → s.localBad h.e.val a n = [] →
      does s h (.cfold h x (BitVec.ofNat 14 (alg + 8)))
        (ran s h (put t x.rd (BitVec.ofNat 32 (fold (spaceRange s h r 2 a n)))))) ∧
    does s h (.cfin h x (BitVec.ofNat 14 alg)) (ran s h (put t x.rd (BitVec.ofNat 32 (fin (val t x.ra))))) ∧
    (n + checkBytes alg ≤ 4096 →
      does s h (.cver h x (BitVec.ofNat 14 alg))
        (ran s h (put { t with z := decide (beNat field = fin (val t x.ra)), v := false } x.rd
          (BitVec.ofNat 32 (fin (val t x.ra))))) ∧
      does s h (.cver h x (BitVec.ofNat 14 (alg + 8)))
        (ran s h (put { t with z := decide (leNat field = fin (val t x.ra)), v := false } x.rd
          (BitVec.ofNat 32 (fin (val t x.ra)))))) ∧
    (alg = 4 → n + 2 ≤ 4096 →
      (∀ v : Nat, hex2 (spaceRange s h r 0 n 2) = some v →
        does s h (.cver h x 20)
          (ran s h (put { t with z := decide (v = fin (val t x.ra)), v := false } x.rd (BitVec.ofNat 32 (fin (val t x.ra)))))) ∧
      (hex2 (spaceRange s h r 0 n 2) = none →
        does s h (.cver h x 20)
          (ran s h (put { t with z := false, v := true } x.rd (BitVec.ofNat 32 (fin (val t x.ra))))))) ∧
    (alg = 4 → ∀ bs, fold bs = (bs.foldl (fun c b => c ^^^ b) ((val t x.rd).setWidth 8)).toNat)

/-- Time instructions (08_chisel_instructions.md R177, Table CHX-9, 03_time_base.md R49): T registers hold device time, seconds and a binary
fraction; an amount of ns converts by R49, so that converting back gives the same ns. tadd adds a signed amount, tdiff saturates, tgrid
takes the nearest grid point of a domain, the earlier one at a tie. No flag changes. Clauses that no rule states word for word follow the
model's readings, log entry 19. -/
def Obligations.ChiselTime : Prop :=
  ∀ (s : State) (h : Thr) (r : Run) (x : OpsCF), Issues s h r →
    let t := onward (found s h r)
    let g := val t x.ra
    let ta := t.t.at 0 x.ta.toNat
    let td := t.t.at 0 x.td.toNat
    let ns (v : BitVec 64) : Nat := v.toNat / 2 ^ 32 * 10 ^ 9 + v.toNat % 2 ^ 32 * 10 ^ 9 / 2 ^ 32
    let isTime (v : BitVec 64) (n : Int) : Prop := (ns v : Int) = n % (2 ^ 32 * 10 ^ 9)
    (x.ta = 0 → x.ra = 0 → x.imm = 0 → ∃ v, does s h (.tnow h x) (ran s h (putT t x.td v)) ∧ isTime v s.tim.dt) ∧
    (x.ra = 0 → x.imm = 0 → does s h (.tmov h x) (ran s h (putT t x.td ta))) ∧
    (x.imm = 0 →
      (∃ v, does s h (.tadd h x) (ran s h (putT t x.td v)) ∧ isTime v (ns ta + g.toInt)) ∧
      does s h (.tdiff h x)
        (ran s h (put t x.ra (BitVec.ofInt 32 (held (-0x80000000) 0x7FFFFFFF ((ns td : Int) - ns ta))))) ∧
      (x.td = 0 →
        does s h (.tgets h x) (ran s h (put t x.ra (BitVec.ofNat 32 (ta.toNat / 2 ^ 32)))) ∧
        does s h (.tgetns h x) (ran s h (put t x.ra (BitVec.ofNat 32 (ns ta % 10 ^ 9))))) ∧
      (x.ta = 0 → does s h (.tsets h x) (ran s h (putT t x.td (g ++ 0#32))))) ∧
    (x.imm < 16 → 0 < s.rateOf x.imm.toNat →
      ∃ i v, let p := gridPt (s.rateOf x.imm.toNat) i
        does s h (.tgrid h x) (ran s h (put (putT t x.td v) x.ra (BitVec.ofInt 32 ((ns ta : Int) - p)))) ∧ isTime v p ∧
        ∀ j, let q := gridPt (s.rateOf x.imm.toNat) j
          ((ns ta : Int) - p).natAbs < ((ns ta : Int) - q).natAbs ∨
            ((ns ta : Int) - p).natAbs = ((ns ta : Int) - q).natAbs ∧ p ≤ q) ∧
    (x.ra.toNat ≤ 13 → x.imm = 0 →
      let b := (val t (x.ra + 1)).toNat
      let base := (val t (x.ra + 2)).toNat
      (∃ v, does s h (.c37tod h x) (ran s h (putT t x.td v)) ∧ isTime v (s.fromC37 g.toNat b base (ns ta))) ∧
      (s.TIM_UTC_PENDING = 0 ∨ s.TIM_UTC_VALID = 0 →
        s.fromC37 g.toNat b base (ns ta) =
          (g.toNat + sxt 16 s.TIM_UTC_OFS) * 10 ^ 9 + (if base = 0 then 0 else (2 * (b % 2 ^ 24 * 10 ^ 9) + base) / (2 * base) : Nat)) ∧
      (x.td = 0 →
        let c := (2 * (ns ta % 10 ^ 9 * base) + 10 ^ 9) / (2 * 10 ^ 9)
        does s h (.todc37 h x)
          (ran s h (put (put t x.ra (BitVec.ofInt 32
              ((ns ta / 10 ^ 9 : Nat) - s.offsetAt (ns ta) + (if base ≠ 0 ∧ c = base then 1 else 0)))) (x.ra + 1)
            (BitVec.ofNat 32 (s.timeQualityByte (ns ta) s.tim.quality * 2 ^ 24 + (if base ≠ 0 ∧ c = base then 0 else c) % 2 ^ 24))))))

/-- Time submissions (08_chisel_instructions.md R179, Table CHX-10): each acts on the time base at issue and writes its status to G[RA]. A
refused one changes nothing but G[RA]. The statuses of ppslabel are tested in the order of R179. Clauses that no rule states word for word
follow the model's readings, log entries 16 and 17. -/
def Obligations.ChiselTimeSubmission : Prop :=
  ∀ (s : State) (h : Thr) (r : Run) (x : OpsCF), Issues s h r → x.td = 0 → x.imm = 0 →
    let t := onward (found s h r)
    let g := val t x.ra
    let s0 := ran s h (found s h r)
    let utc := t.tns x.ta.toNat
    let answers (c : Instr) (s' : State) (status : Nat) : Prop :=
      does s h c (s'.setThread (thrIdx h) (put t x.ra (BitVec.ofNat 32 status)))
    let late : Prop := ∃ e, s.tim.edge = some e ∧ 999000000 < 4 * (s.tim.ticks - e.tick)
    let noEdge : Prop := ∀ e, s.tim.edge = some e → e.step ≠ s.tim.step ∨ e.live = false
    (x.ta = 0 → x.ra ≠ 15 →
      answers (.ptpsample h x) (s0.ptpSample g.toInt (val t (x.ra + 1)).toNat) 0) ∧
    (x.ta = 0 → s.tim.source = 1 →
      (g.toInt.natAbs ≤ 1000000 → answers (.ptpadj h x) { s0 with tim := { s.tim with
        slew := g.toInt * accUnit, slewing := decide (g ≠ 0) } } 0) ∧
      (1000000 < g.toInt.natAbs → answers (.ptpadj h x) (s0.stepTime g.toInt 2) 0) ∧
      answers (.ptpfreq h x) { s0 with tim := { s.tim with
        freq := held (-549755813) 549755813 g.toInt, fHist := (held (-549755813) 549755813 g.toInt :: s.tim.fHist).take 64 } } 0) ∧
    (x.ta = 0 → s.tim.source ≠ 1 → answers (.ptpadj h x) s0 2 ∧ answers (.ptpfreq h x) s0 2) ∧
    (s.tim.source = 1 →
      answers (.ptpstep h x) (s0.stepTime ((utc : Int) - s.tim.dt) 2) 0 ∧
      (utc < 2 ^ 32 * 10 ^ 9 → (s0.stepLocal ((utc : Int) - s.tim.dt) 2).tim.dt = utc ∧
        (s0.stepLocal ((utc : Int) - s.tim.dt) 2).tim.slew = 0 ∧ (s0.stepLocal ((utc : Int) - s.tim.dt) 2).tim.step = s.tim.step + 1)) ∧
    (s.tim.source ≠ 1 → answers (.ptpstep h x) s0 2) ∧
    (∃ s', answers (.utcset h x) s' 0 ∧ s'.reg R_TIM_UTC = g &&& 0x7FFFF#32 ∧
      s'.reg R_TIM_LEAPAT = BitVec.ofNat 32 ((t.t.at 0 x.ta.toNat).toNat / 2 ^ 32) ∧
      ∀ o, o ≠ R_TIM_UTC → o ≠ R_TIM_LEAPAT → s'.reg o = s0.reg o) ∧
    (r.entry.flow ≠ s.TIM_PPSCFG_LABEL_FLOW → answers (.ppslabel h x) s0 1) ∧
    (r.entry.flow = s.TIM_PPSCFG_LABEL_FLOW →
      (late → answers (.ppslabel h x) s0 3) ∧
      (¬late → utc % 10 ^ 9 ≠ 0 → answers (.ppslabel h x) s0 4) ∧
      (¬late → utc % 10 ^ 9 = 0 → s.TIM_UTC_VALID = 0 → answers (.ppslabel h x) s0 5) ∧
      (¬late → utc % 10 ^ 9 = 0 → s.TIM_UTC_VALID ≠ 0 → noEdge → answers (.ppslabel h x) s0 6) ∧
      (∀ e, s.tim.edge = some e → ¬late → utc % 10 ^ 9 = 0 → s.TIM_UTC_VALID ≠ 0 → ¬noEdge →
        (e.labelled = true → answers (.ppslabel h x) s0 7) ∧
        (e.labelled = false → ∃ s', answers (.ppslabel h x) s' 0 ∧
          (s.live = false → s'.tim.edge = some { e with labelled := true } ∧
            s'.tim.pps.theta = (utc : Int) + s.offsetAt (s.edgeTime e).toNat * 10 ^ 9 - s.edgeTime e))))

/-- Table and flow instructions (08_chisel_instructions.md R180, Table CHX-11): tld and tst reach table words counted from TABLE_BASE, ldesc
gives a word of a layout descriptor, and the flow instructions change the run's copy of the flow context. tst changes that one word of the
program store and no other. A table word beyond 65,535 raises TABLE_RANGE. Clauses that no rule states word for word follow the model's
readings, log entry 58. -/
def Obligations.ChiselTableAndFlow : Prop :=
  ∀ (s : State) (h : Thr) (r : Run) (x : OpsCB) (y : OpsCA), Issues s h r →
    let t := onward (found s h r)
    let a := s.CHS_PTABLE_TABLE_BASE + (val t x.ra).toNat + x.imm.toNat
    let n := (val t x.ra).toNat
    let g := val t y.ra
    let withRun (r' : Run) : State := ran s h { t with run := some r' }
    let c := charged r
    let raisesTableRange (i : Instr) : Prop :=
      ∃ addr, does s h i (faulted (ran s h (found s h r)) h c 7 (s.fetched (thrIdx h)) addr 0)
    (65535 < a → raisesTableRange (.tld h x) ∧ raisesTableRange (.tst h x)) ∧
    (a ≤ 65535 →
      does s h (.tld h x) (ran s h (put t x.rd (s.chs.prog.at 0 a))) ∧
      (s.granted 18 (8 + h.e.val / 6) 17 (4 * a) 4 = true →
        ∃ s', does s h (.tst h x) s' ∧ s' = { ran s h t with
            chs := { (ran s h t).chs with prog := s.chs.prog.put 0 a (val t x.rd) } } ∧
          ∀ b, s'.chs.prog.at 0 b = if b = a then val t x.rd else s.chs.prog.at 0 b)) ∧
    (x.imm.toNat ≤ 31 → 1 ≤ n → n ≤ s.CHS_LAYOUT_COUNT →
      does s h (.ldesc h x) (ran s h (put t x.rd (BitVec.ofNat 32 (s.CHS_LAYOUT_BASE + 32 * (n - 1) + x.imm.toNat))))) ∧
    (y.rd = 0 → y.rb = 0 →
      (y.ra = 0 → does s h (.fquar h y) (withRun { c with quar := true })) ∧
      (g.toNat % 2 ^ 16 ≤ s.CHS_LAYOUT_COUNT →
        does s h (.flayout h y) (withRun { c with
          ctx := r.ctx.setBytes 0 0x2C [g.extractLsb' 0 8, g.extractLsb' 8 8], layoutSet := true })) ∧
      does s h (.fexp h y) (withRun { c with
        ctx := r.ctx.setBytes 0 0x30 [g.extractLsb' 0 8, g.extractLsb' 8 8, g.extractLsb' 16 8, g.extractLsb' 24 8], expSet := true })) ∧
    (y.rd = 0 → y.ra = 0 → y.rb < 4 →
      does s h (.flastmt h y) (withRun { c with ctx := r.ctx.setBytes 0 0x40 (leBytes 8 (t.t.at 0 y.rb.toNat).toNat), mtSet := true }))

/-- Dispositions and emits (08_chisel_instructions.md R181, Table CHX-12, 07_chisel_machine.md R156, R157): a disposition ends the run with
its code and leaves everything else for the write-back, but forward, hold and host raise DISP_INVALID in a timer run, and host with a
queue above 15 in every run; an emit takes a copy of its bytes behind those the run holds, at most eight, and the thread waits while the
egress store has no room for the copy. What the store holds is a reading of the model (log entry 144). -/
def Obligations.ChiselDispositionAndEmit : Prop :=
  ∀ (s : State) (h : Thr) (r : Run) (x : OpsCF), Issues s h r →
    let t := found s h r
    let c := charged r
    let ended (e : Ending) : State := ran s h { t with run := some { c with ending := some e } }
    let emits (e : Emit) : State :=
      ran s h { onward t with run := some { c with emits := r.emits ++ [e] }, waitRoom := !(ran s h t).egrRoom e.bytes.length }
    let a := (val t x.ra).toNat
    let n := (val t (x.ra + 1)).toNat
    let raisesDispInvalid (i : Instr) : Prop :=
      ∃ addr, does s h i (faulted (ran s h t) h c 10 (s.fetched (thrIdx h)) addr 0)
    (r.entry.timer ≠ none →
      (x.td = 0 → x.ta = 0 → x.ra = 0 → x.imm = 0 → raisesDispInvalid (.forward h x)) ∧
      (x.td = 0 → x.ra = 0 → x.imm = 0 → raisesDispInvalid (.hold h x)) ∧
      (x.td = 0 → x.ta = 0 → x.ra = 0 → raisesDispInvalid (.host h x))) ∧
    (x.td = 0 → x.ta = 0 → x.ra = 0 → 15 < x.imm.toNat → raisesDispInvalid (.host h x)) ∧
    (x.td = 0 → x.ta = 0 → x.ra = 0 →
      (x.imm = 0 → does s h (.drop h x) (ended .drop)) ∧
      (r.entry.timer = none →
        (x.imm = 0 → does s h (.forward h x) (ended .forward)) ∧
        (x.imm.toNat ≤ 15 → does s h (.host h x) (ended (.host x.imm.toNat)))) ∧
      (r.emits.length < 8 →
        (x.imm.toNat < 1024 → does s h (.emitG h x) (emits ⟨false, x.imm.toNat, r.sent⟩)) ∧
        (x.imm.toNat ≤ 15 → does s h (.emitQ h x) (emits ⟨true, x.imm.toNat, r.sent⟩)))) ∧
    (x.td = 0 → x.ra = 0 → x.imm = 0 → r.entry.timer = none →
      does s h (.hold h x) (ended (.hold (ofDev64 (t.t.at 0 x.ta.toNat).toNat)))) ∧
    (x.td = 0 → x.ta = 0 → x.ra ≠ 15 → 1 ≤ n → n ≤ 4096 → a + n ≤ 65536 → s.localBad h.e.val a n = [] → r.emits.length < 8 →
      (x.imm.toNat < 1024 → does s h (.emitGl h x) (emits ⟨false, x.imm.toNat, spaceRange s h r 2 a n⟩)) ∧
      (x.imm.toNat ≤ 15 → does s h (.emitQl h x) (emits ⟨true, x.imm.toNat, spaceRange s h r 2 a n⟩)))

/-- System instructions (08_chisel_instructions.md R183, Table CHX-14, 07_chisel_machine.md Table CHS-4): nop only goes on, wait holds the
thread for IMM12 cycles and waitt until T[TA], yield lets the other READY threads of the engine issue first, csrr reads a control and
status word. Clauses that no rule states word for word follow the model's readings, log entries 60, 120 and 121. -/
def Obligations.ChiselSystem : Prop :=
  ∀ (s : State) (h : Thr) (r : Run) (x : OpsCF), Issues s h r →
    let t := onward (found s h r)
    let e := r.entry.sent
    let word : Nat → Option Nat := fun n =>
      [h.e.val + 32 * h.t.val,
       (match r.entry.timer with | some k => 1 + 16 * k | none => 0),
       (r.ctx.at 0 0).toNat % 4 + 256 * (r.ctx.at 0 1).toNat + 65536 * ((r.ctx.at 0 2).toNat % 8),
       b1 e.noisy + 2 * b1 e.noCs + 4 * b1 e.checkFailed + 8 * b1 r.quar,
       r.budget - (r.issued + 1), r.entry.step.toNat, s.tim.step.toNat, s.glb.epoch.toNat,
       s.ARM_ID_DEVICE_ID + 16384 * b1 s.glb.side, s.glb.mode.code + 16 * s.glb.shed, s.tim.quality][n]?
    (x.imm = 0 →
      does s h (.chiselNop h x) (ran s h t) ∧
      does s h (.waitt h x)
        (ran s h { t with waitUntil := let at' := ofDev64 (t.t.at 0 x.ta.toNat).toNat; if at' ≤ s.tim.dt then none else some at' }) ∧
      ∃ s', does s h (.yield h x) s' ∧
        (∃ l, s' = { ran s h t with chs := { (ran s h t).chs with yields := l } }) ∧
        ∀ j : Fin 4, j ≠ h.t →
          let k := thrIdx ⟨h.e, j⟩
          (thrIdx h, k) ∈ s'.chs.yields ↔ (s.ready k).isSome ∨ (thrIdx h, k) ∈ s.chs.yields) ∧
    (x.imm ≠ 0 → does s h (.wait h x) (ran s h { t with waitTick := s.tickAt 0 + x.imm.toNat })) ∧
    (∀ n v, word n = some v → x.imm = BitVec.ofNat 12 n → does s h (.csrr h x) (ran s h (put t x.ra (BitVec.ofNat 32 v)))) ∧
    (11 ≤ x.imm.toNat → does s h (.csrr h x) (ran s h (put t x.ra 0)))

/-- Whatever instruction a thread issues, its checks are made in this order (07_chisel_machine.md R153, R155, 08_chisel_instructions.md R167):
the budget, the code range, and the assignment of the word at PC. A thread that cannot issue is left as it is, and so is one whose program
has another instruction at PC (log entries 2 and 56). -/
def Obligations.ChiselIssueOrder : Prop :=
  ∀ (i : Instr) (s : State) (h : Thr) (w : Nat), chiselThread i = some h → chiselWord i = some w →
    (s.issuing (thrIdx h) = none → exec i s = .next s) ∧
    ∀ r, s.issuing (thrIdx h) = some r →
      let pc := (s.thread (thrIdx h)).pc
      let word := s.fetched (thrIdx h)
      (r.budget ≤ r.issued → exec i s = .next (s.abortRun (thrIdx h) r false)) ∧
      (r.issued < r.budget → s.CHS_PCODE_CODE_END ≤ pc → exec i s = .next (s.threadFault (thrIdx h) r 2 word 0 0)) ∧
      (r.issued < r.budget → pc < s.CHS_PCODE_CODE_END →
        (assigned word = false → exec i s = .next ((ran s h (found s h r)).threadFault (thrIdx h) (charged r) 1 word 0 0)) ∧
        (assigned word = true → w ≠ word → exec i s = .next s))

/-- Thread faults (07_chisel_machine.md R158, Table CHS-10): what a fault records, counts and ends, for a flow that the fault does not
quarantine and with no entry waiting behind it; the fault instruction and trap raise PROGRAM with IMM12, csrw is always illegal (R146). -/
def Obligations.ChiselThreadFault : Prop :=
  (∀ (s : State) (h : Thr) (r : Run) (code word addr imm : Nat),
    s.fFaultLimit r.entry.flow = 0 → s.fState r.entry.flow ≠ 4 → s.chs.blocked = [] → code < 16 →
    let k := thrIdx h
    let f := r.entry.flow
    let s' := s.threadFault k r code word addr imm
    s'.reg R_CHS_LFAULT0 = BitVec.ofNat 32
      (code + h.e.val * 2 ^ 8 + h.t.val * 2 ^ 13 + (if r.entry.timer.isSome then 2 ^ 15 else 0) + f % 2 ^ 13 * 2 ^ 16) ∧
    s'.reg R_CHS_LFAULT1 = BitVec.ofNat 32 ((s.thread k).pc % 2 ^ 16 + imm % 2 ^ 12 * 2 ^ 16) ∧
    s'.reg R_CHS_LFAULT2 = BitVec.ofNat 32 word ∧ s'.reg R_CHS_LFAULT3 = BitVec.ofNat 32 addr ∧
    s'.reg (R_CHS_FCNT code) = s.reg (R_CHS_FCNT code) + 1 ∧
    (s'.reg R_CHS_FLAGS).getLsbD 0 = true ∧
    (s'.thread k).run = (s.thread k).ahead ∧ (s'.thread k).ahead = none ∧
    s'.fctx f (0xE0 + 4 * 5) 4 = (s.fctx f (0xE0 + 4 * 5) 4 + 1) % 2 ^ 32) ∧
  (∀ (s : State) (h : Thr) (r : Run) (x : OpsCF), Issues s h r →
    let s0 := ran s h (found s h r)
    let raises (c : Instr) (code imm : Nat) : Prop :=
      does s h c (s0.threadFault (thrIdx h) (charged r) code (s.fetched (thrIdx h)) 0 imm)
    (x.td = 0 → x.ta = 0 → x.ra = 0 → raises (.fault h x) 12 x.imm.toNat) ∧
    raises (.trap h x) 12 x.imm.toNat ∧ raises (.csrw h x) 1 0)

/-- Encoding and meaning agree (07_chisel_machine.md R153, Table CHS-7): the word that stands for an instruction, read by its fields, has
exactly the meaning of that instruction, with every operand at every value; and a word has a meaning exactly when the tables assign it.
Clauses that no rule states word for word follow the model's readings, log entry 56. -/
def Obligations.ChiselWordsAndMeaningsAgree : Prop :=
  (∀ (i : Instr) (h : Thr) (w : Nat), chiselThread i = some h → chiselWord i = some w →
    w < 2 ^ 32 ∧ chiselMeaning h w = some (exec i)) ∧
  ∀ (h : Thr) (w : Nat), w < 2 ^ 32 →
    (chiselMeaning h w = none ↔ assigned w = false)

/-- Edges at the inputs (03_time_base.md R59, 11_analysis_triggers.md R245): an edge of the chosen polarity is stamped with the device time of
`ago` ns before now and with STEP_COUNT; one within 900 ms of the edge before is not accepted; 1.5 s without an edge sets PPS_MISSING; a
trigger edge is kept as a stamp. Clauses that no rule states word for word follow the model's readings, log entries 3 and 16. -/
def Obligations.TimeEdgeInputs : Prop :=
  ∀ (s : State) (rising : Bool) (ago : Nat),
    let tick := s.tim.ticks - ago / 4
    let sameScale : Prop := s.tim.stepTick = 0 ∨ ago ≤ 4 * (s.tim.ticks - s.tim.stepTick)
    let tooSoon : Prop := ∃ e, s.tim.edge = some e ∧ 4 * (tick - e.tick) < 900000000
    (s.glb.mode ≠ .reset → (s.TIM_PPSCFG_EDGE = 0 ↔ rising = true) → ¬tooSoon →
      ∃ stamp step, exec (.ppsEdge rising ago) s = .next { s with
          tim := { s.tim with edge := some ⟨stamp, step, tick, s.live, false⟩, edgeMissed := false } } ∧
        (sameScale → stamp = s.tim.dt - ago ∧ step = s.tim.step) ∧
        (¬sameScale → (stamp : Int) = max 0 ((s.tim.dt : Int) - ago - s.tim.stepDelta) ∧ step = s.tim.step - 1)) ∧
    (tooSoon → exec (.ppsEdge rising ago) s = .next s) ∧
    (∀ e, s.glb.mode ≠ .reset → s.tim.edge = some e → 1500000000 ≤ 4 * (s.tim.ticks - e.tick) → s.tim.edgeMissed = false →
      ∃ t, exec .ppsMissing s = .next t ∧ t.tim = { s.tim with edgeMissed := true } ∧ flagged s t R_TIM_FLAGS (R_TIM_FLAGCNT 0) 10) ∧
    (s.live = true → sameScale →
      exec (.trigInEdge 0 ago) s = .next { s with tim := { s.tim with trig0 := (s.tim.dt - ago) :: s.tim.trig0 } } ∧
      exec (.trigInEdge 1 ago) s = .next { s with tim := { s.tim with trig1 := (s.tim.dt - ago) :: s.tim.trig1 } })

/-- PPS_OUT and time quality (03_time_base.md R67, R69): an edge is driven at a whole second where it may be, for its width; the quality code
follows the error bound, and a change of it sets QUALITY_CHANGE. Clauses that no rule states word for word follow the model's readings,
log entries 2 and 3. -/
def Obligations.TimePpsOutAndQuality : Prop :=
  ∀ s : State,
    let stepped : Prop := s.tim.ppsTick ≤ s.tim.stepTick ∧ s.tim.stepTick ≠ 0
    (s.ppsAllowed = true → (¬stepped → s.tim.ppsSec ≠ some (s.tim.dt / 10 ^ 9)) →
      (stepped → s.tim.ppsSec = none ∨ 10 ^ 9 ≤ 4 * (s.tim.ticks - s.tim.ppsTick)) →
      exec .ppsOutEdge s = .next { s with
        tim := { s.tim with ppsOut := true, ppsSec := some (s.tim.dt / 10 ^ 9), ppsTick := s.tim.ticks },
        out := .ppsPin true :: s.out }) ∧
    (s.tim.ppsOut = true →
      exec .ppsOutWidthEnd s = .next { s with tim := { s.tim with ppsOut := false }, out := .ppsPin false :: s.out }) ∧
    (s.glb.mode ≠ .reset →
      ∃ t, exec .holdoverQualityChange s = .next t ∧
        (s.glb.mode = .plinth → t.tim.quality = 15) ∧
        (s.glb.mode ≠ .plinth → s.tim.everLocked = false → s.tim.everSet = false → t.tim.quality = 15) ∧
        (s.glb.mode ≠ .plinth → s.tim.everLocked = true ∨ s.tim.everSet = true →
          ∀ e, s.errBound = some e →
            (s.tim.locked = true → e ≤ 1000 → t.tim.quality = 0) ∧
            (s.tim.locked = false ∨ 1000 < e →
              (10 ^ 10 < e → t.tim.quality = 15) ∧
              (e ≤ 10 ^ 10 → ∃ k ≤ 10, t.tim.quality = k + 1 ∧ e ≤ 10 ^ k ∧ (k = 0 ∨ 10 ^ (k - 1) < e)))) ∧
        (t.tim.quality ≠ s.tim.quality → flagged s t R_TIM_FLAGS (R_TIM_FLAGCNT 0) 4) ∧
        (t.tim.quality = s.tim.quality → t.regs = s.regs))

/-- The time base's reference, slews and leap seconds (03_time_base.md R50, R53, R61, R63): F takes the measured ratio when the reference
changes, within 500 ppm; a TCLK cycle adds 4 ns times 1 + F and at most 100 ppm of a slew, which ends when none of it is left; LEAP_AT
reached sets LEAP_APPLIED; a day later the leap is taken into OFS. Clauses that no rule states word for word follow the model's readings,
log entries 2, 3, 12, 14 and 18. -/
def Obligations.TimeReferenceSlewAndLeap : Prop :=
  ∀ (s : State) (ratio : BitVec 32), s.glb.mode ≠ .reset →
    let f := held (-549755813) 549755813 (s.tim.freq + ratio.toInt)
    let to10 : Tim := { s.tim with ref10 := true, freq := f }
    (s.TIM_SRCPRI_REF10_EN = 1 → s.tim.ref10 = false →
      exec (.ref10Qualified ratio) s = .next { s with tim := to10 } ∧
      ∃ t, exec (.ref10Restored ratio) s = .next t ∧ t.tim = to10 ∧ flagged s t R_TIM_FLAGS (R_TIM_FLAGCNT 0) 6) ∧
    (s.tim.ref10 = true →
      ∃ t, exec (.ref10Loss ratio) s = .next t ∧ t.tim = { s.tim with ref10 := false, freq := f } ∧
        flagged s t R_TIM_FLAGS (R_TIM_FLAGCNT 0) 5) ∧
    (s.tim.slew = 0 → exec .slewEnd s = .next { s with tim := { s.tim with slewing := false } }) ∧
    (s.tim.slew ≠ 0 → exec .slewEnd s = .next s) ∧
    (-549755813 ≤ s.tim.freq → ∃ p : Int, p.natAbs ≤ 4 * 2 ^ 40 ∧ p.natAbs ≤ s.tim.slew.natAbs ∧
      (s.glb.mode = .halt → p = 0) ∧ (s.glb.mode ≠ .halt → p = 0 → s.tim.slew = 0) ∧
      s.tick.tim.slew = s.tim.slew - p ∧ s.tick.tim.acc < accUnit ∧
      (s.tick.tim.dt * accUnit + s.tick.tim.acc : Nat) =
        ((s.tim.dt * accUnit + s.tim.acc : Nat) + 4 * ((accUnit : Int) + s.tim.freq * 10 ^ 4) + p) % (2 ^ 32 * 10 ^ 9 * accUnit : Nat)) ∧
    (s.TIM_UTC_PENDING = 1 → s.leapAtNs ≤ s.tim.dt → s.tim.leapDone = false →
      ∃ t, exec .leapAtReached s = .next t ∧ t.tim = { s.tim with leapDone := true } ∧ flagged s t R_TIM_FLAGS (R_TIM_FLAGCNT 0) 8) ∧
    (s.TIM_UTC_PENDING = 1 → s.leapAtNs + 86400 * 10 ^ 9 ≤ s.tim.dt →
      ∃ t, exec .leapRetire s = .next t ∧ t.TIM_UTC_PENDING = 0 ∧
        t.TIM_UTC_OFS = wrapI 16 (sxt 16 s.TIM_UTC_OFS + (if s.TIM_UTC_DIR = 0 then 1 else -1)) ∧
        ∀ o, o ≠ R_TIM_UTC → t.reg o = s.reg o)

/-- Discipline sources (03_time_base.md R55, R56, R60, R62): a source lost by its timeout is disqualified and no longer selected; a source
before the selected one is taken after SWITCH_HOLD; an IRIG frame and an ARM window each give a sample, here of a source that is not the
selected one, and a bad frame sets IRIG_BAD. Clauses that no rule states word for word follow the model's readings, log entries 2, 3, 13
and 21. -/
def Obligations.TimeSources : Prop :=
  ∀ (s : State), s.live = true →
    (∀ k : Fin 4, (s.src k).state ≠ 0 →
      ∃ t, exec (.sourceLossTimeout k) s = .next t ∧ (t.src k).state = 3 ∧ (t.src k).good = 0 ∧
        (s.tim.source ≠ k.val + 1 → t.tim.source = s.tim.source) ∧
        (s.tim.source = k.val + 1 → t.tim.source ≠ k.val + 1 ∧ flagged s t R_TIM_FLAGS (R_TIM_FLAGCNT 0) 1 ∧
          (t.tim.source = 0 → t.tim.holdover = true ∧ t.tim.slew = 0))) ∧
    (∀ k : Fin 4, s.tim.source ≠ 0 → (s.src k).state = 2 → s.tim.source ≠ k.val + 1 →
      s.priorities.findIdx (· == k.val + 1) < s.priorities.findIdx (· == s.tim.source) →
      ∃ t, exec (.sourceSwitchHold k) s = .next t ∧ t.tim.source = k.val + 1 ∧ t.tim.holdover = false ∧ t.tim.locked = false ∧
        flagged s t R_TIM_FLAGS (R_TIM_FLAGCNT 0) 1) ∧
    (∀ elems ago, (s.src 2).state ≠ 0 →
      (s.irigDecode elems = none → (s.src 2).bad < 2 →
        ∃ t, exec (.irigFrame elems ago) s = .next t ∧ t.tim.irig.bad = s.tim.irig.bad + 1 ∧ t.tim.irig.state = s.tim.irig.state ∧
          flagged s t R_TIM_FLAGS (R_TIM_FLAGCNT 0) 9) ∧
      (∀ utc ofs adv day, s.irigDecode elems = some (utc, ofs, adv, day) → s.tim.source = 1 →
        s.tim.stepTick = 0 ∨ ago ≤ 4 * (s.tim.ticks - s.tim.stepTick) →
        ∃ t, exec (.irigFrame elems ago) s = .next t ∧ t.tim.irig.bad = 0 ∧ t.tim.irigDay = day ∧ t.tim.irigOfs = ofs ∧
          t.tim.irig.lastStamp = s.tim.dt - ago ∧
          t.tim.irig.theta = ((utc : Int) + s.offsetAt (s.tim.dt - ago)) * 10 ^ 9 - (s.tim.dt - ago : Nat))) ∧
    (∀ (k : Fin 8) theta delay bound q, s.linksOf 0 = [k.val] → s.arm.active = some k.val → (s.link k).windowMean = some (theta, delay, bound, q) →
      q ≠ 15 → s.tim.source = 1 → (s.src 3).state ≠ 0 →
      ∃ t, exec .armSampleWindow s = .next t ∧ (t.link k).window = [] ∧ (t.link k).delay = some delay ∧ t.tim.armQuality = q ∧
        t.tim.arm.theta = theta ∧ t.tim.arm.bound = some bound ∧ t.tim.arm.lastStamp = s.tim.dt)

/-- Serial reception (04_serial_ports.md R75, R76, R79, R81, R85, Table SER-5): each bit is the majority of its three samples, data bits come
least significant first, and the decided character is queued with its flags and its stamp; a full queue drops it, counts it and marks the
next entry. Clauses that no rule states word for word follow the model's readings, log entries 24 and 25. -/
def Obligations.SerialReceive : Prop :=
  ∀ (s : State) (n : Fin 96) (line : RxLine) (ago : Nat),
    let p := s.port n
    let dec := line.samples.map majority
    let nb := cfgBits p.rxCfg
    let par := cfgPar p.rxCfg
    let data := (dec.drop 1).take nb
    let ones := (data.filter id).length
    let pbit := dec.getD (1 + nb) true
    let stop := dec.getD (1 + nb + if par = 0 then 0 else 1) true
    let expected : Bool := if par = 1 then decide (ones % 2 = 1) else if par = 2 then decide (ones % 2 = 0) else decide (par = 3)
    s.rxOn n = true → p.line = .alive → s.tim.stepTick = 0 ∨ ago + 28 ≤ 4 * (s.tim.ticks - s.tim.stepTick) →
    s.SER_PCFG_LOOP n ≠ 1 → cfgIr p.rxCfg = 0 → dec.getD 0 true = false →
    (stop = true →
      (p.rxq.length < 64 →
        ∃ t e, exec (.characterReceive n line ago) s = .next t ∧ (t.port n).rxq = p.rxq ++ [e] ∧
          e.d = BitVec.ofNat 9 (bitsVal data) ∧ e.pe = (decide (par ≠ 0) && (pbit != expected)) ∧ e.fe = false ∧ e.brk = false ∧
          e.nf = line.samples.any (fun x => x != 0 && x != 7) ∧ e.loss = p.lossPending ∧ e.stamp = s.tim.dt - (ago + 28) ∧ e.step = s.tim.step ∧
          (t.port n).lossPending = false ∧ t.reg (R_SER_PRXCNT n) = s.reg (R_SER_PRXCNT n) + 1 ∧ ∀ m, m ≠ n.val → t.port m = s.port m) ∧
      (64 ≤ p.rxq.length →
        ∃ t, exec (.characterReceive n line ago) s = .next t ∧ (t.port n).rxq = p.rxq ∧ (t.port n).lossPending = true ∧
          t.reg (R_SER_POVRCNT n) = s.reg (R_SER_POVRCNT n) + 1 ∧ flagged s t (R_SER_PFLAGS n) (R_SER_PFLAGCNT n 0) 0)) ∧
    (stop = false → (∀ b ∈ data, b = false) → par = 0 ∨ pbit = false → p.rxq.length < 64 →
      ∃ t e, exec (.breakReceive n ⟨line, ago⟩) s = .next t ∧ (t.port n).rxq = p.rxq ++ [e] ∧ e.brk = true ∧ e.fe = true ∧ e.d = 0 ∧
        e.pe = (decide (par = 2) || decide (par = 3)) ∧ e.nf = line.samples.any (fun x => x != 0 && x != 7) ∧
        e.stamp = s.tim.dt - (ago + 28) ∧ (t.port n).line = .brk ∧ flagged s t (R_SER_PFLAGS n) (R_SER_PFLAGCNT n 0) 2 ∧
        flagged s t (R_SER_PFLAGS n) (R_SER_PFLAGCNT n 0) 4)

/-- Serial transmission (04_serial_ports.md R83, R84, R87): the head of the transmit queue is sent with the data bits of the setting, the
parity bit and the stop bits (in IR mode a pulse for each 0), a break low for BREAK_LEN character times and then one bit time at mark;
with flow control it waits while CTS is deasserted. A new setting is taken by each direction on its own, and RATE_APPLIED follows the
later one. Clauses that no rule states word for word follow the model's readings, log entries 2 and 24. -/
def Obligations.SerialTransmit : Prop :=
  ∀ (s : State) (n : Fin 96) (level : Bool) (e : TxEntry) (rest : List TxEntry),
    let p := s.port n
    let asserted : Bool := if s.SER_PCTL2_CTS_POL n = 1 then level else !level
    let cfg := p.txCfg
    let div := cfgDiv cfg
    let inv : Bool := decide (s.SER_PCTL2_IR_TXINV n = 1)
    let data := (List.range (cfgBits cfg)).map (fun i => e.d.getLsbD i)
    let ones := (data.filter id).length
    let parity : List Bool :=
      if cfgPar cfg = 0 then [] else if cfgPar cfg = 1 then [decide (ones % 2 = 1)] else if cfgPar cfg = 2 then [decide (ones % 2 = 0)]
      else [decide (cfgPar cfg = 3)]
    let pulse := if cfgIr cfg = 1 then 3 * div else 240
    let spelt : List (Bool × Nat) :=
      if cfgIr cfg = 0 then (false :: data ++ parity).map (fun b => (b, 16 * div)) ++ [(true, (2 + cfgStop cfg) * (8 * div))]
      else (false :: data ++ parity).flatMap (fun b =>
          if b then [(inv, 16 * div)] else [(inv, 7 * div), (!inv, pulse), (inv, 16 * div - 7 * div - pulse)]) ++
        [(inv, (2 + cfgStop cfg) * (8 * div))]
    let sends (c : Instr) (o : Output) : Prop :=
      ∃ t, exec c s = .next t ∧ t.out = o :: s.out ∧ t.port n = { p with txq := rest, txBusy := true, ctsWait := false, cts := asserted } ∧
        t.reg (R_SER_PTXCNT n) = s.reg (R_SER_PTXCNT n) + 1 ∧ ∀ m, m ≠ n.val → t.port m = s.port m
    (s.txOn n = true → p.txPend = false → p.txq = e :: rest → s.glb.silenced = false → s.SER_PCFG_LOOP n ≠ 1 →
      (s.SER_PCFG_FLOW n ≠ 1 ∨ asserted = true →
        (e.brk = false →
          sends (.characterTransmit n level) (.serial n spelt)) ∧
        (e.brk = true → cfgIr cfg = 0 →
          sends (.breakTransmit n level)
            (.serial n [(false, s.SER_PCTL2_BREAK_LEN n * charHalfBits cfg * (8 * div)), (true, 16 * div)]))) ∧
      (s.SER_PCFG_FLOW n = 1 → asserted = false →
        ∃ t, exec (.characterTransmit n level) s = .next t ∧ t.port n = { p with cts := false, ctsWait := true, txBusy := false } ∧
          t.out = s.out)) ∧
    (p.rxPend = true →
      ∃ t, exec (.rxRateApply n) s = .next t ∧ t.port n = { p with rxCfg := s.reg (R_SER_PCFG n), rxPend := false } ∧
        (p.txPend = false → flagged s t (R_SER_PFLAGS n) (R_SER_PFLAGCNT n 0) 8) ∧ (p.txPend = true → t.regs = s.regs)) ∧
    (p.txPend = true →
      ∃ t, exec (.txRateApply n) s = .next t ∧ t.port n = { p with txCfg := s.reg (R_SER_PCFG n), txPend := false, txBusy := false } ∧
        (p.rxPend = false → flagged s t (R_SER_PFLAGS n) (R_SER_PFLAGCNT n 0) 8) ∧ (p.rxPend = true → t.regs = s.regs))

/-- The state of a line and of a bank's supply (04_serial_ports.md R85, R86, R92, R93): the end of a break, a dead and a live line, whose
flows go SILENT, and a bank whose supply fails, which holds every enabled port. Clauses that no rule states word for word follow the
model's readings, log entries 2 and 3. -/
def Obligations.SerialLineAndBank : Prop :=
  ∀ (s : State) (n : Fin 96) (b : Fin 8),
    let p := s.port n
    let at' (l : Line) : State := s.setPort n { p with line := l, stuckFrom := none }
    (s.rxOn n = true → p.line = .brk → exec (.breakEnd n) s = .next (at' .alive)) ∧
    (s.rxOn n = true → p.line = .dead ∨ p.line = .held →
      ∃ t, exec (.lineAlive n) s = .next t ∧ t.ports = (at' .alive).ports ∧ flagged s t (R_SER_PFLAGS n) (R_SER_PFLAGCNT n 0) 6) ∧
    (∀ since, s.rxOn n = true → p.line = .brk ∨ p.line = .held → p.stuckFrom = some since →
      since + 1000000 * s.SER_PCTL_STUCK_TIME n ≤ s.now / 1000 * 1000 →
      ∃ t, exec (.lineDead n) s = .next t ∧ t.ports = (at' .dead).ports ∧ flagged s t (R_SER_PFLAGS n) (R_SER_PFLAGCNT n 0) 5 ∧
        ∀ f ∈ s.flowsUsed, s.fSrc f = (0, n.val) → s.fState f = 1 ∨ s.fState f = 2 → t.fState f = 3) ∧
    (s.hasBank b = true → s.bankUsed b = true → s.glb.mode ≠ .reset →
      ∃ t, exec (.vioFault b) s = .next t ∧ t.bank b = { s.bank b with vioOk := false, fault := true } ∧
        flagged s t (R_SER_BFLAGS b) (R_SER_BFLAGCNT b 0) 0 ∧
        ∀ m ∈ bankPorts b, s.portEnabled m = true →
          (t.port m).line = .held ∧ (t.port m).rxq = [] ∧ (t.port m).txq = [] ∧ (t.port m).rts = false ∧ t.asmOf m = none) ∧
    ((s.bank b).fault = true →
      ∃ t, exec (.vioRestored b) s = .next t ∧ t.bank b = { s.bank b with vioOk := true, fault := false } ∧
        flagged s t (R_SER_BFLAGS b) (R_SER_BFLAGCNT b 0) 1) ∧
    ((s.bank b).fault = false →
      exec (.vioRestored b) s = .next (s.setBank b { s.bank b with vioOk := true, fault := false }))

/-- Assembly on a serial port (05_sentences_checks.md R96, R102, R103): in hunt state an opener opens a sentence and any other character
counts as stray; a raw run takes every character; a gap abandons an open sentence and closes a raw run, which then waits for
classification with its bytes and stamp. Clauses that no rule states word for word follow the model's readings, log entries 2 and 3. -/
def Obligations.SentenceAssembly : Prop :=
  ∀ (s : State) (n : Fin 96) (e : RxEntry) (rest : List RxEntry), s.asmOn n = true →
    let clean : Prop := e.brk = false ∧ e.loss = false ∧ e.pe = false ∧ e.fe = false ∧ e.nf = false
    let opened (k : AsmKind) (tag : Nat) : OpenSent :=
      { kind := k, chars := [e.d.setWidth 8], tagLen := tag, stamp := e.stamp, step := e.step, noisy := false, lastStamp := e.stamp,
        lastStep := e.step, lastTick := e.tick, cus := s.watches 0 n }
    let opens (k : AsmKind) (tag : Nat) : Prop :=
      ∃ t, exec (.assemblyEntry n) s = .next t ∧ t.asmOf n = some (opened k tag) ∧ (t.port n).rxq = rest ∧ t.regs = s.regs
    (s.live = true → (s.port n).rxq = e :: rest → s.eccBad = [] → clean → s.asmCell n = true →
      (s.asmOf n = none →
        (s.SNT_PCFG_MODE n = 0 ∨ s.SNT_PCFG_MODE n = 2 →
          (e.d = 0x24 ∨ e.d = 0x21 → opens (.ascii .addr) 0) ∧ (e.d = 0x5C → opens (.ascii .tagKey) 1)) ∧
        (s.SNT_PCFG_MODE n = 1 ∨ s.SNT_PCFG_MODE n = 2 → e.d = 0xAA → opens .c37 0) ∧
        (s.SNT_PCFG_MODE n = 3 → opens .raw 0) ∧
        (s.SNT_PCFG_MODE n = 0 → e.d ≠ 0x24 → e.d ≠ 0x21 → e.d ≠ 0x5C →
          ∃ t, exec (.assemblyEntry n) s = .next t ∧ t.asmOf n = none ∧ (t.port n).rxq = rest ∧
            t.reg (R_SNT_SCNT n 7) = s.reg (R_SNT_SCNT n 7) + 1)) ∧
      (∀ o, s.asmOf n = some o → o.kind = .raw → o.chars.length < 1023 → e.stamp = o.lastStamp → e.step = o.lastStep → e.tick = o.lastTick →
        0 < charNs (s.port n).rxCfg →
        ∃ t, exec (.assemblyEntry n) s = .next t ∧ t.asmOf n = some { o with chars := o.chars ++ [e.d.setWidth 8] } ∧
          (t.port n).rxq = rest)) ∧
    (∀ o, s.asmOf n = some o → o.kind ≠ .raw → s.SNT_PCFG_GAP_CT n ≠ 0 → (s.port n).rxq = [] → o.lastStep = s.tim.step →
      (1 + s.SNT_PCFG_GAP_CT n) * charNs (s.port n).rxCfg < s.tim.dt - o.lastStamp →
      ∃ t, exec (.gapTimeout n) s = .next t ∧ t.asmOf n = none ∧ t.reg (R_SNT_SCNT n cFragment) = s.reg (R_SNT_SCNT n cFragment) + 1 ∧
        flagged s t R_SNT_FLAGS (R_SNT_FLAGCNT 0) 3) ∧
    (∀ o, s.asmOf n = some o → o.kind = .raw → s.live = true → (s.port n).rxq = [] → o.lastStep = s.tim.step →
      (2 + s.SNT_PCFG_RAW_GAP n) * charNs (s.port n).rxCfg ≤ 2 * (s.tim.dt - o.lastStamp) →
      ∃ t x, exec (.rawGapClose n) s = .next t ∧ t.asmOf n = none ∧ t.snt.classQ = s.snt.classQ ++ [x] ∧ x.data = o.chars ∧
        x.typ = 0 ∧ x.idx = n.val ∧ x.fmt = 2 ∧ x.stamp = o.stamp ∧ x.step = o.step ∧ x.checkFailed = false ∧
        t.reg (R_SNT_SCNT n cSentences) = s.reg (R_SNT_SCNT n cSentences) + 1)

/-- Network frames, classification and silence (05_sentences_checks.md R105, R106, 06_flows.md R122 to R126): a good frame addressed to the
port gives what its receive rule says, a lost or regained block lock is shown and flagged, the oldest closed sentence is classified to its
flow and queued in order of stamp, and a flow that has been quiet for three expected periods goes SILENT. The clauses state each where
nothing else waits for the pool. Clauses that no rule states word for word follow the model's readings, log entry 3. -/
def Obligations.NetworkAndClassification : Prop :=
  ∀ (s : State), s.live = true →
    (∀ (k : Fin 4) (lock : Bool), s.npOn k = true → (s.np k).blockLock ≠ lock →
      ∃ t, exec (.networkBlockLockChange k lock) s = .next t ∧ t.np k = { s.np k with blockLock := lock, fecLock := lock } ∧
        flagged s t R_SNT_FLAGS (R_SNT_FLAGCNT 0) 9) ∧
    (s.eccBad = [] → (∀ j, (s.np j).fifo = []) → (∀ j, (s.link j).rxBuf = []) →
      (∀ (k : Fin 4) (bytes : Bytes) (ago : Nat), s.npOn k = true → (s.np k).blockLock = true → 60 ≤ bytes.length →
        bytes.length ≤ 9212 → s.npAddressed k bytes = true → (frameParts bytes).2.1 ≠ 0x8808 →
        let f : NetFrame := ⟨bytes, (s.stampAt ago).1, (s.stampAt ago).2⟩
        (∀ a ∈ s.netActs k f, ∀ h, a ≠ .host h) → s.refillReserves.poolUsed + actCells (s.netActs k f) ≤ 8192 →
        (∃ t, exec (.networkFrameReceive k bytes true ago) s = .next t ∧ (t.np k).fifo = [] ∧
          t.snt.classQ = s.snt.classQ ++ (s.netActs k f).filterMap (fun a => match a with | .sentence x => some x | _ => none)) ∧
        ∃ t, exec (.networkFrameReceive k bytes false ago) s = .next t ∧ t.snt = s.snt ∧
          t.reg (R_SNT_SCNT (96 + k.val) 9) = s.reg (R_SNT_SCNT (96 + k.val) 9) + 1) ∧
      (∀ (x : Sentence) (rest : List Sentence), s.snt.classQ = x :: rest →
        (∀ f, s.findKey (keyOf x (s.maskOf x)) = some f → f < 8192 → s.fState f = 2 → x.checkFailed = false → x.fmt = 1 ∨ x.fmt = 2 →
          s.glb.shed ≠ 4 → s.flowBusy f = false →
          ∃ t, exec .classify s = .next t ∧ t.snt.classQ = rest ∧ t.fSeq f = (s.fSeq f + 1) % 2 ^ 16 ∧
            t.queue (s.fPrio f) =
              placeEntry (s.sealEntry { flow := f, prio := s.fPrio f, stamp := x.stamp, step := x.step, sent := x, seq := (s.fSeq f + 1) % 2 ^ 16 })
                (s.queue (s.fPrio f))) ∧
        (s.findKey (keyOf x (s.maskOf x)) = none → x.checkFailed = true →
          ∃ t, exec .classify s = .next t ∧ t.snt.classQ = rest ∧ t.reg (R_FLW_GCNT 4) = s.reg (R_FLW_GCNT 4) + 1))) ∧
    ∃ t, exec .silenceScan s = .next t ∧
      ∀ f ∈ s.flowsUsed,
        let since := (s.flw.silBase.at none f).getD (s.fLastArr f)
        (s.fExpPeriod f ≠ 0 → since + 3000 * s.fExpPeriod f ≤ s.tim.dt → s.fState f = 1 ∨ s.fState f = 2 → t.fState f = 3) ∧
        (s.fExpPeriod f = 0 ∨ s.tim.dt < since + 3000 * s.fExpPeriod f → t.fState f = s.fState f)


/-- Host commands that are refused (02_modes.md R40, 15_host_interface.md R317, R320, R321): a command of the ring, with nothing else under
way, ends with the status of the first check it fails, in the order epoch, alive counter, arguments, units, access, mode; the refusal
changes only the host interface, the alive references, registers and the log. Clauses that no rule states word for word follow the model's
readings, log entries 67 and 68. -/
def Obligations.HostCommandRefusals : Prop :=
  ∀ (s : State) (c : HostCmd), c.remote = false →
    ∀ p ∈ [((0x00 : Nat), Instr.nop c), (0x01, .run c), (0x02, .halt c), (0x03, .reboot c true), (0x03, .reboot c false), (0x04, .standby c),
        (0x05, .takeover c), (0x08, .imageWrite c), (0x09, .commit c), (0x0A, .confirm c), (0x0B, .rollback c), (0x0C, .flashWrite c),
        (0x10, .flowSet c), (0x11, .flowClear c), (0x12, .resync c), (0x14, .timeSet c), (0x14, .timeSetUtcOnly c), (0x15, .timeAdjust c),
        (0x18, .captureArm c), (0x19, .captureForce c), (0x1C, .shedTest c), (0x20, .logFetch c), (0x21, .diagDump c),
        (0x24, .streamSend c)],
      Ready s p.1 c →
      let ends (status result : Nat) (t : State) : Prop :=
        exec p.2 s = .next t ∧ Answered s t c status result ∧
          t = { s with regs := t.regs, hst := t.hst, out := t.out, snt := t.snt, log := t.log }
      let may : Prop := ∀ tg r, cmdTarget p.1 = some (tg, r) → s.granted tg 0 r 0 1 = true
      (c.epoch ≠ s.glb.epoch ∨ c.epoch = 0 →
        ∃ t, ends 5 s.glb.epoch.toNat t ∧ t.snt = s.snt ∧ t.reg (R_HST_GCNT 2) = s.reg (R_HST_GCNT 2) + 1) ∧
      (c.epoch = s.glb.epoch → c.epoch ≠ 0 →
        (s.snt.alive0 = some c.alive.toNat →
          ∃ t, ends 0x0B 0 t ∧ t.snt = s.snt ∧ t.reg (R_SNT_REPEAT 0) = s.reg (R_SNT_REPEAT 0) + 1) ∧
        (inSequence s c →
          (s.argsOk p.1 c = false → ∃ t, ends 4 0 t) ∧
          (s.argsOk p.1 c = true →
            (s.cmdAbsent p.1 c = true → ∃ t, ends 2 0 t) ∧
            (s.cmdAbsent p.1 c = false →
              (¬may → ∃ t, ends 3 0 t ∧ t.reg (R_PRT_VIOCNT 0) = s.reg (R_PRT_VIOCNT 0) + 1) ∧
              (may → s.cmdLegal p.1 = false → ∃ t, ends 1 0 t ∧ t.reg (R_HST_GCNT 3) = s.reg (R_HST_GCNT 3) + 1)))))

/-- Commands of time, shedding and NOP (15_host_interface.md R322, 03_time_base.md R53, R63, R66, 02_modes.md R44): NOP answers the device
time; SHED_TEST sets the floor of the required level; TIME_SET sets UTC or, with no source selected, device time; TIME_ADJUST slews up to
1 ms and steps above. Clauses that no rule states word for word follow the model's readings, log entry 67. -/
def Obligations.HostTimeCommands : Prop :=
  ∀ (s : State) (c : HostCmd),
    (Accepted s 0x00 c → ∃ t, exec (.nop c) s = .next t ∧ Answered s t c 0 (dev64 s.tim.dt) ∧ hostOnly s t c) ∧
    (Accepted s 0x1C c →
      ∃ t, exec (.shedTest c) s = .next t ∧ Answered s t c 0 0 ∧ hostOnly { s with pwr := { s.pwr with floor := c.arg 0 } } t c) ∧
    (Accepted s 0x14 c →
      ((c.arg 0).testBit 0 = true →
        let u : State := (s.setReg R_TIM_UTC (BitVec.ofNat 32 (c.arg 4))).setReg R_TIM_LEAPAT (BitVec.ofNat 32 (c.arg 5))
        let done : Bool := (c.arg 4).testBit 17 && decide (c.arg 5 * 10 ^ 9 ≤ s.tim.dt)
        ∃ t, exec (.timeSetUtcOnly c) s = .next t ∧ exec (.timeSet c) s = .next t ∧ Answered s t c 0 0 ∧
          hostOnly { u with tim := { s.tim with leapDone := done } } t c) ∧
      ((c.arg 0).testBit 0 = false → s.tim.source ≠ 0 →
        ∃ t, exec (.timeSet c) s = .next t ∧ Answered s t c 6 0 ∧ hostOnly s t c) ∧
      ((c.arg 0).testBit 0 = false → s.tim.source = 0 →
        ∃ t, exec (.timeSet c) s = .next t ∧ Answered s t c 0 0 ∧ t.tim.dt = c.arg 1 * 10 ^ 9 + c.arg 2 * 10 ^ 9 / 2 ^ 32 ∧
          t.tim.step = s.tim.step + 1 ∧ t.tim.slew = 0 ∧ t.tim.everSet = true ∧ t.tim.eBase = some (c.arg 3) ∧
          flagged s t R_TIM_FLAGS (R_TIM_FLAGCNT 0) 0)) ∧
    (Accepted s 0x15 c →
      let a := (c.args.getD 0 0).toInt
      (s.tim.source ≠ 0 → ∃ t, exec (.timeAdjust c) s = .next t ∧ Answered s t c 6 0 ∧ hostOnly s t c) ∧
      (s.tim.source = 0 → -1000000 ≤ a → a ≤ 1000000 →
        ∃ t, exec (.timeAdjust c) s = .next t ∧ Answered s t c 0 0 ∧
          hostOnly { s with tim := { s.tim with slew := a * accUnit, slewing := decide (a ≠ 0) } } t c) ∧
      (s.tim.source = 0 → a < -1000000 ∨ 1000000 < a →
        ∃ t, exec (.timeAdjust c) s = .next t ∧ Answered s t c 0 0 ∧
          (t.tim.dt : Int) = ((s.tim.dt : Int) + a) % (2 ^ 32 * 10 ^ 9) ∧ t.tim.step = s.tim.step + 1 ∧ t.tim.slew = 0 ∧
          flagged s t R_TIM_FLAGS (R_TIM_FLAGCNT 0) 0))

/-- Capture groups, the log and dumps (12_event_capture.md R268, 18_protection_integrity.md R379, 15_host_interface.md R322, R326):
CAPTURE_ARM arms every named group that is DONE or none, CAPTURE_FORCE forces every named group, LOG_FETCH and DIAG_DUMP write their bytes
to host memory before their completion. What DIAG_DUMP writes but for the flow store is open (log entry 71). Clauses that no rule states
word for word follow the model's readings, log entries 71 and 89. -/
def Obligations.HostCaptureAndLogCommands : Prop :=
  ∀ (s : State) (c : HostCmd),
    let named (g : Nat) : Bool := (c.arg 0).testBit g
    (∀ p ∈ [((0x18 : Nat), Instr.captureArm c), (0x19, .captureForce c)], Accepted s p.1 c →
      (∃ g < 16, named g = true ∧ s.CAP_GCFG_ENABLE g = 0) → ∃ t, exec p.2 s = .next t ∧ Answered s t c 4 0 ∧ hostOnly s t c) ∧
    ((∀ g < 16, named g = true → s.CAP_GCFG_ENABLE g ≠ 0) →
      (Accepted s 0x18 c →
        let room (g : Nat) : Bool := s.CAP_GCFG_OVERWRITE g == 1 || decide ((s.group g).seq + 1 ≤ s.CAP_GSIZE_RECORDS g + s.CAP_GACK_SEQ g)
        ((∃ g < 16, named g = true ∧ (s.group g).state = 5 ∧ room g = false) →
          ∃ t, exec (.captureArm c) s = .next t ∧ Answered s t c 8 0 ∧ hostOnly s t c) ∧
        ((∀ g < 16, named g = true → (s.group g).state = 5 → room g = true) →
          ∃ t, exec (.captureArm c) s = .next t ∧ Answered s t c 0 0 ∧ hostOnly { s with cap := t.cap } t c ∧
            (∀ g < 16, named g = true → (s.group g).state = 5 →
              (t.group g).state = 1 ∧ (t.group g).rearm = 0 ∧ (t.group g).ring = [] ∧ (t.group g).slot = s.slotOf g ((s.group g).seq + 1)) ∧
            ∀ g < 16, named g = false ∨ (s.group g).state ≠ 5 → t.group g = s.group g)) ∧
      (Accepted s 0x19 c →
        ∃ t, exec (.captureForce c) s = .next t ∧ Answered s t c 0 0 ∧ hostOnly { s with cap := t.cap } t c ∧
          ∀ g < 16, t.group g = if named g then { s.group g with forced := true } else s.group g)) ∧
    (Accepted s 0x20 c →
      let next := (s.reg R_PRT_LOGNEXT).toNat
      s.log.length ≤ next → (∀ i (h : i < s.log.length), (s.log[i]).no = next - 1 - i) →
      let first := max (c.arg 2) (next - s.log.length)
      let es := (s.log.reverse.filter (fun e => decide (first ≤ e.no))).take (c.arg 3)
      ∃ t l, exec (.logFetch c) s = .next t ∧ Answered s t c 0 (es.length + 2 ^ 32 * (min first next + es.length)) ∧ hostOnly s t c ∧ t.out = l ++ s.out ∧
        hostCells l = cellsAt (c.arg 0 + 2 ^ 32 * c.arg 1) (es.flatMap LogEntry.bytes) ++
          cellsAt (replyAddr s) (replyBytes s c 0 (es.length + 2 ^ 32 * (min first next + es.length)))) ∧
    (Accepted s 0x21 c →
      ∃ t l bs, exec (.diagDump c) s = .next t ∧ Answered s t c 0 (c.arg 2) ∧ hostOnly s t c ∧ t.out = l ++ s.out ∧ bs.length = c.arg 2 ∧
        (c.arg 3 = 2 → bs = s.flw.ctx.bytes 0 (c.arg 4) (c.arg 2)) ∧
        hostCells l = cellsAt (c.arg 0 + 2 ^ 32 * c.arg 1) bs ++ cellsAt (replyAddr s) (replyBytes s c 0 (c.arg 2)))

/-- Commands of mode (02_modes.md R36, R37, R39, R41, 16_peer_bridge_twin.md R348): RUN, HALT, REBOOT, STANDBY and TAKEOVER. The clauses of
RUN state the effect where no shed level is required. Clauses that no rule states word for word follow the model's readings, log entries
98 and 100. -/
def Obligations.HostModeCommands : Prop :=
  ∀ (s : State) (c : HostCmd),
    (Accepted s 0x01 c →
      (s.cfg.committed = false → ∃ t, exec (.run c) s = .next t ∧ Answered s t c 8 0 ∧ hostOnly s t c) ∧
      (s.cfg.committed = true → s.runReady = false → ∃ t, exec (.run c) s = .next t ∧ Answered s t c 6 0 ∧ hostOnly s t c) ∧
      (s.runReady = true → s.pwr.required = 0 →
        ∃ t, exec (.run c) s = .next t ∧ t.glb.mode = .run ∧ t.glb.prevMode = .plinth ∧ t.glb.shed = 0 ∧ t.glb.epoch = s.glb.epoch ∧
          Answered s t c 0 0 ∧ flagged s t R_PWR_FLAGS (R_PWR_FLAGCNT 0) 5)) ∧
    (Accepted s 0x02 c →
      ∃ t l, exec (.halt c) s = .next t ∧ t.glb.mode = .halt ∧ t.glb.prevMode = s.glb.mode ∧ t.glb.haltCause = 1 ∧ t.glb.active = false ∧
        t.glb.epoch = (if s.glb.epoch = 0xFFFF then 1 else s.glb.epoch + 1) ∧ t.out = l ++ s.out ∧
        .hostWrite (replyAddr s) (replyBytes s c 0 0) ∈ l ∧ t.hst.flights = [] ∧ t.hst.fetched = [] ∧ t.chs.threads = [] ∧ t.chs.queues = [] ∧
        t.snt.alive0 = none ∧ t.cfg.waiting = none ∧ t.cfg.window = none ∧ t.cfg.job = none) ∧
    (∀ flashOk, Accepted s 0x03 c →
      ∃ t, exec (.reboot c flashOk) s = .next t ∧ t.glb = { s.glb with rebootPending := true } ∧ Answered s t c 0 0 ∧
        (s.cap.unflushed = 0 → t.flash = s.flash ∧ t.cap = s.cap) ∧
        (MayFlush s → flashOk = true → t.cap.unflushed = 0) ∧
        (s.cap.unflushed ≠ 0 → flashOk = true → s.granted 21 6 17 (summAddr s.cap.place) 32 = false →
          t.flash = s.flash ∧ t.cap = s.cap ∧ t.reg (R_PRT_VIOCNT 6) = s.reg (R_PRT_VIOCNT 6) + 1) ∧
        (s.cap.unflushed ≠ 0 → flashOk = false → t.flash = s.flash ∧ t.cap = s.cap ∧ flagged s t R_CAP_FLAGS (R_CAP_FLAGCNT 0) 5)) ∧
    (Accepted s 0x04 c → exec (.standby c) s = .next (begun s 0x04 c 0 s.handoverAt)) ∧
    (Accepted s 0x05 c →
      (s.cfg.twinImage = false → ∃ t, exec (.takeover c) s = .next t ∧ Answered s t c 8 0 ∧ hostOnly s t c) ∧
      (s.cfg.twinImage = true → s.pbr.claimLine = false →
        exec (.takeover c) s = .next { begun s 0x05 c with pbr := { s.pbr with claimFor := 2 } }) ∧
      (s.cfg.twinImage = true → s.pbr.claimLine = true → s.hasPeer = true → s.pbr.up = false →
        ∃ hb, exec (.takeover c) s = .next { begun s 0x05 c with
            pbr := { s.pbr with hbCount := (s.pbr.hbCount + 1) % 2 ^ 32, hbQ := s.pbr.hbQ ++ [hb] } } ∧
          hb.typ = 4 ∧ hb.epoch = s.glb.epoch.toNat ∧ (byteAt hb.payload 1).testBit 2 = true ∧ (byteAt hb.payload 1).testBit 1 = false))

/-- Commands of images and versions (17_configuration.md R353 to R355, R360, R361, R365): what IMAGE_WRITE, COMMIT, CONFIRM, ROLLBACK and
FLASH_WRITE come to when accepted. A COMMIT in PLINTH is a commit at its instant at once. Clauses that no rule states word for word follow
the model's readings, log entries 80, 81, 82, 83 and 102. -/
def Obligations.HostImageCommands : Prop :=
  ∀ (s : State) (c : HostCmd),
    let key := s.hst.nextKey
    let same (t : State) : Prop :=
      t = { s with regs := t.regs, hst := t.hst, out := t.out, snt := { s.snt with alive0 := some c.alive.toNat }, cfg := t.cfg }
    let len := leNat (s.srcRead .maquette 12 4)
    let goBack (src : ImgSrc) : Waiting :=
      { at_ := (s.tim.dt + (10 ^ 9 - 1)) / 10 ^ 9 * 10 ^ 9, src := src, rollback := true, cmd := some key }
    (Accepted s 0x08 c →
      let a := c.arg 0 + 2 ^ 32 * c.arg 1
      (s.hasDdr = false → a ≠ s.hostArea + c.arg 2 → ∃ t, exec (.imageWrite c) s = .next t ∧ Answered s t c 4 0 ∧ hostOnly s t c) ∧
      (s.hasDdr = true ∨ a = s.hostArea + c.arg 2 →
        (s.cfg.waiting ≠ none ∨ s.cfg.window ≠ none ∨ s.areasUp = false →
          ∃ t, exec (.imageWrite c) s = .next t ∧ Answered s t c 6 0 ∧ hostOnly s t c) ∧
        (s.cfg.waiting = none → s.cfg.window = none → s.areasUp = true →
          (c.arg 3 = 0 → ∃ t, exec (.imageWrite c) s = .next t ∧ Answered s t c 0 0 ∧ hostOnly s t c) ∧
          (c.arg 3 ≠ 0 →
            exec (.imageWrite c) s = .next { begun s 0x08 c (c.arg 3) with out := readsOf a (c.arg 3) ++ s.out })))) ∧
    (Accepted s 0x09 c →
      let b := begun s 0x09 c
      let t0 := c.arg 1 * 10 ^ 9 + c.arg 2
      let waits (t : State) (at_ : Nat) : Prop :=
        same t ∧ t.cfg = { s.cfg with waiting := some { at_ := at_, src := .maquette, cmd := some key } } ∧ t.out = s.out ∧
          t.hst.flights = [flightOf s 0x09 c 0 0] ∧ (t.reg R_CFG_COMMITSEC).toNat = at_ / 10 ^ 9 % 2 ^ 32 ∧
          (t.reg R_CFG_COMMITNS).toNat = at_ % 10 ^ 9
      (s.cfg.waiting ≠ none ∨ s.cfg.window ≠ none → ∃ t, exec (.commit c) s = .next t ∧ Answered s t c 6 0 ∧ hostOnly s t c) ∧
      (s.cfg.waiting = none → s.cfg.window = none →
        (∀ e, b.loadCheck .maquette = .refused e →
          ∃ t, exec (.commit c) s = .next t ∧ Answered s t c e.status e.result ∧ same t ∧ t.cfg = s.cfg ∧
            flagged s t R_CFG_FLAGS (R_CFG_FLAGCNT 0) 3 ∧ t.reg (R_CFG_GCNT 2) = s.reg (R_CFG_GCNT 2) + 1) ∧
        (∀ x, b.loadCheck .maquette = .good x →
          (s.glb.mode = .plinth →
            ∃ u t, same u ∧ u.cfg = { s.cfg with waiting := some { at_ := s.tim.dt, src := .maquette, cmd := some key } } ∧ u.out = s.out ∧
              exec .commitInstant u = .next t ∧ exec (.commit c) s = .next t.deliver.drain) ∧
          (s.glb.mode ≠ .plinth → c.arg 0 = 0 →
            ∃ t, exec (.commit c) s = .next t ∧ waits t ((s.tim.dt + 10 ^ 8 + (10 ^ 9 - 1)) / 10 ^ 9 * 10 ^ 9)) ∧
          (s.glb.mode ≠ .plinth → c.arg 0 = 1 →
            (s.onEveryGrid t0 = true → x.st.onEveryGrid t0 = true → ∃ t, exec (.commit c) s = .next t ∧ waits t t0) ∧
            (s.onEveryGrid t0 = false ∨ x.st.onEveryGrid t0 = false →
              ∃ t, exec (.commit c) s = .next t ∧ Answered s t c 4 0 ∧ same t ∧ t.cfg = s.cfg))))) ∧
    (Accepted s 0x0A c →
      let img := s.srcRead .maquette 0 len
      let open_ : Prop := ∃ t, s.cfg.window = some t ∧ s.tim.ticks < t
      (¬open_ ∨ c.arg 0 ≠ s.cfg.runVer → ∃ t, exec (.confirm c) s = .next t ∧ Answered s t c 4 0 ∧ hostOnly s t c) ∧
      (open_ → c.arg 0 = s.cfg.runVer →
        let good : Prop := s.holdsVersion .maquette (c.arg 0) = true ∧ s.srcBad .maquette len = false ∧
          checkOf 2 (img.take (len - 4)) = le img (len - 4) 4
        (¬good → ∃ t, exec (.confirm c) s = .next t ∧ Answered s t c 7 0 ∧ t.cfg = s.cfg ∧ t.ddr = s.ddr ∧ t.glb = s.glb) ∧
        (good →
          ∃ t, exec (.confirm c) s = .next t ∧ Answered s t c 0 0 ∧ t.cfg.window = none ∧ t.cfg.confirmed = true ∧ t.cfg.retVer = c.arg 0 ∧
            t.cfg.retLen = len ∧ t.srcRead .retained 0 len = img ∧ flagged s t R_CFG_FLAGS (R_CFG_FLAGCNT 0) 1 ∧
            ((∀ i < 2, (s.slot i).state = 1 → (s.slot i).version ≠ c.arg 0) → t.cfg.job = s.cfg.job) ∧
            (s.cfg.job = none → (s.slot 0).state = 1 → (s.slot 0).version = c.arg 0 →
              ∃ j, t.cfg.job = some j ∧ j.slot = 0 ∧ j.stage = 4 ∧ j.cmd = none)))) ∧
    (Accepted s 0x0B c → s.cfg.window = none →
      (s.cfg.waiting ≠ none → ∃ t, exec (.rollback c) s = .next t ∧ Answered s t c 6 0 ∧ hostOnly s t c) ∧
      (s.cfg.waiting = none →
        ((∀ i < 2, (s.slot i).state ≠ 2) → ∃ t, exec (.rollback c) s = .next t ∧ Answered s t c 8 0 ∧ hostOnly s t c) ∧
        (∀ i < 2, (s.slot i).state = 2 → (i = 1 → (s.slot 0).state ≠ 2) →
          ((s.slot i).version = s.cfg.runVer → ∃ t, exec (.rollback c) s = .next t ∧ Answered s t c 8 0 ∧ hostOnly s t c) ∧
          (∀ x, (s.slot i).version ≠ s.cfg.runVer → (begun s 0x0B c).loadCheck (.slot i) = .good x →
            ∃ t, exec (.rollback c) s = .next t ∧ same t ∧ t.out = s.out ∧ t.hst.flights = [flightOf s 0x0B c 0 0] ∧
              t.cfg = { s.cfg with waiting := some (goBack (.slot i)) })))) ∧
    (∀ retained, Accepted s 0x0B c → s.cfg.window = some retained → s.cfg.retVer = s.cfg.prevVer → s.cfg.prevVer ≠ 0 →
      ({ begun s 0x0B c with cfg := { s.cfg with window := none } } : State).passes .retained = true →
      ∃ t, exec (.rollback c) s = .next t ∧ same t ∧ t.cfg = { s.cfg with window := none, waiting := some (goBack .retained) }) ∧
    (Accepted s 0x0C c →
      (s.holdsVersion .maquette (c.arg 1) = false → s.holdsVersion .retained (c.arg 1) = false →
        ∃ t, exec (.flashWrite c) s = .next t ∧ Answered s t c 4 0 ∧ hostOnly s t c) ∧
      (∀ src, src = ImgSrc.maquette ∨ (src = .retained ∧ s.holdsVersion .maquette (c.arg 1) = false) → s.holdsVersion src (c.arg 1) = true →
        let n := leNat (s.srcRead src 12 4)
        let job : FlashJob := { slot := c.arg 0, version := c.arg 1, src := src, length := n, crc := leNat (s.srcRead src (n - 4) 4), erasing := s.nextRecord.2, cmd := some key }
        (s.CFG_FLASHGEO_SLOT_64K * 0x10000 < n → ∃ t, exec (.flashWrite c) s = .next t ∧ Answered s t c 8 0 ∧ hostOnly s t c) ∧
        (n ≤ s.CFG_FLASHGEO_SLOT_64K * 0x10000 →
          ((s.slot (c.arg 0)).state = 2 → ∃ t, exec (.flashWrite c) s = .next t ∧ Answered s t c 3 0 ∧ hostOnly s t c) ∧
          ((s.slot (c.arg 0)).state ≠ 2 →
            exec (.flashWrite c) s = .next { begun s 0x0C c with cfg := { s.cfg with job := some job } }))))

/-- Commands of flows, lanes and streams (15_host_interface.md R322, R323, R326, 06_flows.md R134, 10_rate_conversion.md R221): FLOW_SET asks
for its 512 bytes; FLOW_CLEAR waits for a run of the flow, then clears the context, the key and what is queued; RESYNC resets the streams
of a lane or one stream; STREAM_SEND asks for its frame. Clauses that no rule states word for word follow the model's readings, log
entries 85 and 89. -/
def Obligations.HostFlowCommands : Prop :=
  ∀ (s : State) (c : HostCmd),
    let f := c.arg 0 % 8192
    (Accepted s 0x10 c →
      exec (.flowSet c) s = .next { begun s 0x10 c 512 with out := .hostRead (c.arg 2 + 2 ^ 32 * c.arg 3) 512 :: s.out }) ∧
    (Accepted s 0x11 c →
      (s.runOn f = true → exec (.flowClear c) s = .next (begun s 0x11 c)) ∧
      (s.runOn f = false → s.fUsed f = false → ∃ t, exec (.flowClear c) s = .next t ∧ Answered s t c 4 0 ∧ hostOnly s t c) ∧
      (s.runOn f = false → s.fUsed f = true →
        ∃ t, exec (.flowClear c) s = .next t ∧ Answered s t c 0 0 ∧ t.fbytes f 0 512 = List.replicate 512 0 ∧
          t.findKey (s.fbytes f 0 30) ≠ some f ∧ (∀ p < 8, ∀ x ∈ t.queue p, x.flow ≠ f) ∧ (∀ x ∈ t.chs.blocked, x.flow ≠ f) ∧
          (∀ g, g ≠ f → t.fbytes g 0 512 = s.fbytes g 0 512) ∧ t.glb = s.glb ∧ t.tim = s.tim)) ∧
    (Accepted s 0x12 c →
      ((c.arg 0).testBit 31 = false →
        let l := c.arg 0 % 16
        (s.RCV_LCFG_ENABLE l ≠ 1 → ∃ t, exec (.resync c) s = .next t ∧ Answered s t c 4 0 ∧ hostOnly s t c) ∧
        (s.RCV_LCFG_ENABLE l = 1 →
          ∃ t, exec (.resync c) s = .next t ∧ Answered s t c 0 (s.laneStreams l).length ∧ (t.lane l).streams = [] ∧ (t.lane l).latest = none ∧
            t.reg (R_RCV_LCNT l 10) = s.reg (R_RCV_LCNT l 10) + BitVec.ofNat 32 (s.laneStreams l).length ∧ (∀ m, m ≠ l → t.lane m = s.lane m) ∧
            t.glb = s.glb ∧ t.tim = s.tim ∧ t.flw = s.flw)) ∧
      ((c.arg 0).testBit 31 = true →
        let on : Bool := s.fUsed f && s.fLaneEn f && s.RCV_LCFG_ENABLE (s.fLane f) == 1
        (on = false → ∃ t, exec (.resync c) s = .next t ∧ Answered s t c 4 0 ∧ hostOnly s t c) ∧
        (on = true → s.laneRuns (s.fLane f) = false → ∃ t, exec (.resync c) s = .next t ∧ Answered s t c 0 0 ∧ hostOnly s t c) ∧
        (on = true → f ∈ s.laneStreams (s.fLane f) →
          ∃ t, exec (.resync c) s = .next t ∧ Answered s t c 0 1 ∧ (t.lane (s.fLane f)).stream f = {} ∧
            (∀ g, g ≠ f → (t.lane (s.fLane f)).stream g = (s.lane (s.fLane f)).stream g) ∧ (∀ m, m ≠ s.fLane f → t.lane m = s.lane m) ∧
            t.reg (R_RCV_LCNT (s.fLane f) 10) = s.reg (R_RCV_LCNT (s.fLane f) 10) + 1 ∧
            flagged s t R_RCV_FLAGS (R_RCV_FLAGCNT 0) 3 ∧ t.flw = s.flw))) ∧
    (Accepted s 0x24 c →
      let p := s.np (c.arg 0 % 4)
      (p.blockLock = false ∨ p.shed = true → ∃ t, exec (.streamSend c) s = .next t ∧ Answered s t c 8 0 ∧ hostOnly s t c) ∧
      (p.blockLock = true → p.shed = false →
        exec (.streamSend c) s = .next { begun s 0x24 c (c.arg 1) with
          out := readsOf (c.arg 2 + 2 ^ 32 * c.arg 3) (c.arg 1) ++ s.out }))

/-- Remote commands and reads of host memory (15_host_interface.md R323, R324, R326, 17_configuration.md R354): a remote command leaves in a
COMMAND cell and ends after 100 ms with its timeout status; the bytes a command reads reach the Maquette, a flow context or a network
port, and the last of them completes it. Clauses that no rule states word for word follow the model's readings, log entries 86 and 88. -/
def Obligations.HostRemoteAndReads : Prop :=
  ∀ (s : State),
    (∀ (op : BitVec 8) (c : HostCmd), c.remote = true → Ready s op.toNat c → c.epoch = s.glb.epoch → c.epoch ≠ 0 → inSequence s c →
      s.argsOk op.toNat c = true → s.live = true →
      let d := c.dest.toNat
      ((s.codeLink d).bind s.steer = none → ∃ t, exec (.remoteCommand op c) s = .next t ∧ Answered s t c 8 0 ∧ hostOnly s t c) ∧
      (∀ r k steered, s.codeLink d = some r → s.steer r = some (k, steered) →
        (s.linkUp r = true → k = r ∧ steered = false) ∧ (s.linkUp r = false → steered = true ∧ s.otherRing r = some k ∧ s.linkUp k = true) ∧
        ∃ t, exec (.remoteCommand op c) s = .next t ∧ t.hst.flights = [{ flightOf s op.toNat c 0 0 with sent := true }] ∧ t.out = s.out ∧
          (t.link k).txq = (s.link k).txq ++ [s.newCell 3 d ((0 : Byte) :: remoteEntry op.toNat (s.nextOutAlive d) c)] ∧
          t.hst.outAlive.head? = some (d, s.nextOutAlive d) ∧ t.reg (R_HST_GCNT 5) = s.reg (R_HST_GCNT 5) + 1 ∧
          t.reg (R_ARM_LCNT r 13) = s.reg (R_ARM_LCNT r 13) + (if steered then 1 else 0) ∧
          ∀ m, m ≠ k → t.link m = s.link m)) ∧
    (∀ f : Flight, s.hst.flights = [f] → s.hst.held = [] → s.hst.fetched = [] → s.HST_CTL_KR_EN = 1 → s.unconsumed < 511 → f.cmd.src = none →
      (f.sent = true →
        ∃ t, exec (.remoteCommandTimeout f.cmd.tag) s = .next t ∧ Answered s t f.cmd 9 0 ∧ flagged s t R_HST_FLAGS (R_HST_FLAGCNT 0) 2 ∧
          t.reg (R_HST_GCNT 6) = s.reg (R_HST_GCNT 6) + 1) ∧
      (∀ bytes : Bytes, bytes ≠ [] → bytes.length ≤ f.awaited →
        let left : Flight := { f with
          awaited := f.awaited - bytes.length, done := f.done + bytes.length, data := if f.op = 8 then [] else f.data ++ bytes }
        (f.op = 0x08 →
          ∃ t, exec (.dmaReadCompletion f.cmd.tag bytes) s = .next t ∧ t.areaRead (f.cmd.arg 2 + f.done) bytes.length = bytes ∧
            t.cfg.maqUsed = true ∧ (bytes.length = f.awaited → Answered s t f.cmd 0 0) ∧
            (bytes.length < f.awaited → t.hst = { s.hst with flights := [left] } ∧ t.regs = s.regs ∧ t.out = s.out)) ∧
        (f.op = 0x10 ∨ f.op = 0x24 → bytes.length < f.awaited →
          exec (.dmaReadCompletion f.cmd.tag bytes) s = .next { s with hst := { s.hst with flights := [left] } }) ∧
        (f.op = 0x24 → bytes.length = f.awaited → s.outOn = true →
          let k := f.cmd.arg 0 % 4
          ∃ t, exec (.dmaReadCompletion f.cmd.tag bytes) s = .next t ∧ Answered s t f.cmd 0 0 ∧
            (t.netOut k).jobs = (s.netOut k).jobs ++
              [{ prio := bits (f.cmd.arg 0) 8 3, src := 256, len := max 64 ((f.data ++ bytes).length + 4), job := .raw (f.data ++ bytes),
                 id := s.egr.nextJob }]) ∧
        (f.op = 0x10 → f.sent = false → bytes.length = f.awaited →
          let n := f.cmd.arg 0 % 8192
          let mask := f.cmd.arg 1
          let bs := f.data ++ bytes
          s.runOn n = false →
          (∀ st, s.flowSetRefusal n mask bs = some st →
            ∃ t, exec (.dmaReadCompletion f.cmd.tag bytes) s = .next t ∧ Answered s t f.cmd st 0 ∧ t.flw = s.flw) ∧
          (s.flowSetRefusal n mask bs = none → bs.length = 512 →
            ∃ t, exec (.dmaReadCompletion f.cmd.tag bytes) s = .next t ∧ Answered s t f.cmd 0 0 ∧ t.fFaultRun n = 0 ∧
              (∀ x ∈ flowFields, mask.testBit x.1 = true → t.fbytes n x.2.1 x.2.2 = (bs.drop x.2.1).take x.2.2) ∧
              (∀ x ∈ flowFields, mask.testBit x.1 = false →
                t.fbytes n x.2.1 x.2.2 = if s.fUsed n then s.fbytes n x.2.1 x.2.2 else List.replicate x.2.2 0) ∧
              (mask.testBit 1 = true → t.fState n = byteAt bs 0x20) ∧
              (mask.testBit 0 = true → s.eccBad = [] → s.findKey (bs.take 30) = none →
                t.fbytes n 0 30 = bs.take 30 ∧ t.fUsed n = true ∧ t.findKey (bs.take 30) = some n) ∧
              (∀ g, g ≠ n → t.fbytes g 0 512 = s.fbytes g 0 512)))))

/-- Writes of the host interface's own registers (15_host_interface.md R315, R316, R320, R328, 13_egress.md R285, 18_protection_integrity.md
R377, 19_register_map.md R383): doorbell, heads, ring bases, control, acknowledgements and the window page; and what a plain write does to
a register of each access code. A write that may open the completion ring lets commands that wait go on (`drain`, R317, log entry 66).
Clauses that no rule states word for word follow the model's readings, log entries 90, 91 and 114. -/
def Obligations.HostInterfaceWrites : Prop :=
  ∀ (s : State) (v : BitVec 32),
    (MayAccess s 0 R_HST_CRTAIL 4 17 →
      let ahead := (v.toNat % 65536 + 65536 - s.HST_CRHEAD_HEAD) % 65536
      (ahead ≤ 256 → ∃ t, exec (.commandDoorbell v) s = .next t ∧ t.HST_CRTAIL_TAIL = v.toNat % 65536 ∧ onlyRegs s t [R_HST_CRTAIL]) ∧
      (256 < ahead →
        ∃ t, exec (.commandDoorbell v) s = .next t ∧ t.HST_CRTAIL_TAIL = s.HST_CRTAIL_TAIL ∧ flagged s t R_HST_FLAGS (R_HST_FLAGCNT 0) 0)) ∧
    (MayAccess s 0 R_HST_KRHEAD 4 17 → s.eccBad = [] →
      ∃ t, exec (.completionHeadWrite v) s = .next t.drain ∧ t.HST_KRHEAD_HEAD = v.toNat % 65536 ∧ onlyRegs s t [R_HST_KRHEAD]) ∧
    (MayAccess s 0 R_HST_CTL 4 17 → s.eccBad = [] →
      ∃ t, exec (.hostControlWrite v) s = .next t.drain ∧ t.HST_CTL_CR_EN = v.toNat % 2 ∧ t.HST_CTL_KR_EN = v.toNat / 2 % 2 ∧
        onlyRegs { s with hst := { s.hst with fetchStopped := false } } t [R_HST_CTL]) ∧
    (∀ which : Fin 4,
      let off := [R_HST_CRBASEL, R_HST_CRBASEH, R_HST_KRBASEL, R_HST_KRBASEH].getD which.val R_HST_CRBASEL
      MayAccess s 0 off 4 17 → s.eccBad = [] →
      (2 ≤ which.val ∨ s.HST_CTL_CR_EN ≠ 1 → exec (.ringBaseWrite which v) s = .next (s.setReg off v)) ∧
      (which.val < 2 → s.HST_CTL_CR_EN = 1 →
        ∃ t, exec (.ringBaseWrite which v) s = .next t ∧ t.reg off = s.reg off ∧ flagged s t R_HST_FLAGS (R_HST_FLAGCNT 0) 5)) ∧
    (∀ (h : Fin 16), MayAccess s 0 (R_EGR_HQACK h) 4 17 →
      (∀ e r, s.EGR_HQCFG_DMA h = 0 → (s.hq h).entries = e :: r → e.seq = v.toNat % 65536 →
        ∃ t, exec (.hostQueueAck h v) s = .next t ∧ (t.hq h).entries = r ∧ (∀ k, k ≠ h.val → t.hq k = s.hq k) ∧ t.regs = s.regs) ∧
      ((s.EGR_HQCFG_DMA h ≠ 0 ∨ (s.hq h).entries = [] ∨ ∃ e r, (s.hq h).entries = e :: r ∧ e.seq ≠ v.toNat % 65536) →
        ∃ t, exec (.hostQueueAck h v) s = .next t ∧ t.egr = s.egr ∧ t.reg (R_EGR_GCNT 1) = s.reg (R_EGR_GCNT 1) + 1 ∧
          flagged s t R_EGR_FLAGS (R_EGR_FLAGCNT 0) 1)) ∧
    (∀ (h : Fin 16), MayAccess s 0 (R_HST_HQRD h) 4 17 →
      let ahead (x : Nat) : Nat := (x + 2 ^ 32 - s.HST_HQRD_RD h) % 2 ^ 32
      (ahead v.toNat ≤ ahead (s.HST_HQWR_WR h) →
        ∃ t, exec (.hqReadOffsetWrite h v) s = .next t ∧ (∀ o, t.reg o = if o = R_HST_HQRD h then v else s.reg o) ∧
          t = { s with regs := t.regs, hst := t.hst, out := t.out } ∧
          (v.toNat = s.HST_HQWR_WR h → t.hst = s.hst ∧ t.out = s.out)) ∧
      (ahead (s.HST_HQWR_WR h) < ahead v.toNat →
        ∃ t, exec (.hqReadOffsetWrite h v) s = .next t ∧ t.reg (R_HST_HQRD h) = s.reg (R_HST_HQRD h) ∧
          flagged s t R_HST_FLAGS (R_HST_FLAGCNT 0) 5)) ∧
    (∀ jtag : Bool,
      (MayAccess s (masterOf jtag) R_GLB_WINPAGE 4 17 →
        exec (.windowPageWrite jtag v) s = .next { s with glb :=
          if jtag then { s.glb with page4 := v.toNat % 512 } else { s.glb with page0 := v.toNat % 512 } }) ∧
      (∀ (off : BitVec 21) (row : RegRow), regRow off.toNat = some row → MayAccess s (masterOf jtag) off.toNat 4 17 →
        (row.cls = .flags → row.w1c < 2 ^ 32 →
          ∃ t, exec (.flagClear jtag off v) s = .next t ∧
            (∀ o, t.reg o = if o = off.toNat then s.reg o &&& ~~~(v &&& BitVec.ofNat 32 row.w1c) else s.reg o) ∧
            t = { s with regs := t.regs, hst := t.hst, out := t.out }) ∧
        (row.cls = .counter →
          ∃ t, exec (.counterClear jtag off v) s = .next t ∧ (∀ o, t.reg o = if o = off.toNat then 0 else s.reg o) ∧
            t = { s with regs := t.regs, eccBad := s.eccBad.filter (· ≠ (13, off.toNat / 8)) }) ∧
        (row.cls = .ro → exec (.registerWrite jtag false off (leBytes 4 v.toNat)) s = .next s.drain)) ∧
      (∀ p ∈ [(0x0000C, (0xFFFFFFFF : BitVec 32)), (R_CAP_WINBASE, 0x3FFFFF), (R_HST_KCOAL, 0xFFFFFF), (R_CU_EXP 15, 0xFFFFFFFF),
          (R_PBR_MIRUSER 31 1, 0xFFFFFFFF), (R_CFG_HOSTRAML, 0xFFFFFFFF)],
        MayAccess s (masterOf jtag) p.1 4 17 → (p.1 = R_CFG_HOSTRAML → s.hasDdr = false) →
        ∃ t : State, exec (.registerWrite jtag false (BitVec.ofNat 21 p.1) (leBytes 4 v.toNat)) s = .next t.drain ∧
          (∀ o, t.reg o = if o = p.1 then (s.reg o &&& ~~~p.2) ||| (v &&& p.2) else s.reg o) ∧
          t = { s with regs := t.regs, eccBad := s.eccBad.filter (· ≠ (13, p.1 / 8)) }))

/-- Writes of the units' own registers (03_time_base.md R51, 09_alignment.md R188, 10_rate_conversion.md R223, R224, 11_analysis_triggers.md
R253, 12_event_capture.md R269, 16_peer_bridge_twin.md R338, 06_flows.md R133, 19_register_map.md R384): snapshots and latches, a lane
swap, a capture acknowledgement, locked sequences, and a word of the window. Clauses that no rule states word for word follow the model's
readings, log entries 91 and 93. -/
def Obligations.UnitRegisterWrites : Prop :=
  ∀ (s : State) (v : BitVec 32) (jtag : Bool),
    let m := masterOf jtag
    (MayAccess s m R_TIM_SNAP 4 17 →
      (v.getLsbD 0 = true →
        ∃ t, exec (.timSnap jtag v) s = .next t ∧ onlyRegs s t [R_TIM_SNAPSEC, R_TIM_SNAPFRAC] ∧
          (t.reg R_TIM_SNAPSEC).toNat = s.tim.dt / 10 ^ 9 % 2 ^ 32 ∧
          (t.reg R_TIM_SNAPFRAC).toNat = (s.tim.dt % 10 ^ 9 * 2 ^ 32 + (10 ^ 9 - 1)) / 10 ^ 9) ∧
      (v.getLsbD 0 = false → exec (.timSnap jtag v) s = .next s)) ∧
    (MayAccess s m R_ALN_FREEMIN 4 17 →
      exec (.freeminWrite jtag v) s = .next (s.setReg R_ALN_FREEMIN (BitVec.ofNat 32 s.freeSlots))) ∧
    (∀ l : Fin 16, MayAccess s 0 (R_RCV_LSWAP l) 4 17 →
      let b := v.toNat % 64
      let start := (s.reg (R_RCV_LSWAPSEC l)).toNat * 10 ^ 9 + s.RCV_LSWAPNS_NS l
      let ready : Bool := s.laneRuns l && s.bankHdr b 0 4 != 0 && s.depthOk l (s.lane l).bank b
      (v.getLsbD 8 = false →
        ∃ t, exec (.laneSwapRequest l v) s = .next t ∧ onlyRegs s t [R_RCV_LSWAP l] ∧ t.fld (R_RCV_LSWAP l) 0 6 = b) ∧
      (v.getLsbD 8 = true → (s.lane l).fade = none → ready = true → b ≠ (s.lane l).bank →
        ∃ t x, exec (.laneSwapRequest l v) s = .next t ∧ t.lane l = { s.lane l with fade := some x } ∧ x.target = b ∧
          (∀ k, k ≠ l.val → t.lane k = s.lane k) ∧ (∀ o, o ≠ R_RCV_LSWAP l → t.reg o = s.reg o) ∧
          gridCeil (s.rateOf (s.RCV_LCFG_DOMAIN l)) start ≤ x.gs ∧ (∀ g, (s.lane l).latest = some g → g + 1 ≤ x.gs)) ∧
      (v.getLsbD 8 = true → (s.lane l).fade = none → ready = true → b = (s.lane l).bank →
        ∃ t, exec (.laneSwapRequest l v) s = .next t ∧ t.rcl = s.rcl ∧ t.reg (R_RCV_LCNT l 16) = s.reg (R_RCV_LCNT l 16) + 1 ∧
          flagged s t R_RCV_FLAGS (R_RCV_FLAGCNT 0) 0) ∧
      (v.getLsbD 8 = true → (s.lane l).fade = none → ready = false →
        ∃ t, exec (.laneSwapRequest l v) s = .next t ∧ t.rcl = s.rcl ∧ t.reg (R_RCV_LCNT l 18) = s.reg (R_RCV_LCNT l 18) + 1 ∧
          flagged s t R_RCV_FLAGS (R_RCV_FLAGCNT 0) 2)) ∧
    (∀ g : Fin 16, MayAccess s 0 (R_CAP_GACK g) 4 17 →
      (v.toNat < s.CAP_GACK_SEQ g ∨ (s.group g).newest < v.toNat → exec (.captureAck g v) s = .next s) ∧
      (s.CAP_GACK_SEQ g ≤ v.toNat → v.toNat ≤ (s.group g).newest →
        ∃ t, exec (.captureAck g v) s = .next t ∧ (∀ o, t.reg o = if o = R_CAP_GACK g then v else s.reg o) ∧
          t = { s with regs := t.regs, cap := t.cap } ∧ (∀ k, k ≠ g.val → t.group k = s.group k) ∧ ((s.group g).state ≠ 6 → t = s.setReg (R_CAP_GACK g) v) ∧
          ((s.group g).state = 6 → (s.group g).seq + 1 ≤ s.CAP_GSIZE_RECORDS g + v.toNat → s.glb.shed < 3 → s.ddrUsable = true →
            (t.group g).state = 1) ∧
          ((s.group g).state = 6 → s.CAP_GSIZE_RECORDS g + v.toNat < (s.group g).seq + 1 → s.CAP_GCFG_OVERWRITE g ≠ 1 →
            t = s.setReg (R_CAP_GACK g) v))) ∧
    (MayAccess s 0 R_ANA_RSEL 4 17 →
      let n := v.toNat % 1024
      let b := v.toNat / 1024 % 8
      ∃ t, exec (.resultSelect v) s = .next t ∧
        onlyRegs s t [R_ANA_RSEL, R_ANA_RAMP, R_ANA_RFREQ, R_ANA_RDAMP, R_ANA_RFLAGS, R_ANA_RSETSEC, R_ANA_RSETNS, R_ANA_RVAL] ∧
        t.reg R_ANA_RSEL = v &&& 0x1FFF ∧ t.reg R_ANA_RAMP = BitVec.ofNat 32 (s.bandAmp n b) ∧
        t.reg R_ANA_RSETSEC = BitVec.ofNat 32 ((s.sig n).setTime / 10 ^ 9) ∧
        t.reg R_ANA_RSETNS = BitVec.ofNat 32 ((s.sig n).setTime % 10 ^ 9) ∧ (∀ x, (s.sig n).last = some x → t.reg R_ANA_RVAL = BitVec.ofNat 32 x) ∧
        (t.reg R_ANA_RFLAGS).getLsbD 2 = (s.sig n).invalid) ∧
    (MayAccess s 0 R_ANA_PSEL 4 17 →
      let i := v.toNat % 32
      let j := v.toNat / 256 % 32
      ∃ t, exec (.pairSelect v) s = .next t ∧ onlyRegs s t [R_ANA_PSEL, R_ANA_PDF, R_ANA_PPHI, R_ANA_PSTAT] ∧ t.reg R_ANA_PSEL = v &&& 0x1F1F ∧
        (j ≤ i ∨ s.ANA_AREA_ENABLE i = 0 ∨ s.ANA_AREA_ENABLE j = 0 → t.reg R_ANA_PSTAT = 0) ∧
        (i < j → s.ANA_AREA_ENABLE i ≠ 0 → s.ANA_AREA_ENABLE j ≠ 0 →
          t.reg R_ANA_PDF = BitVec.ofNat 32 (s.pair i j).df ∧ t.reg R_ANA_PPHI = BitVec.ofNat 32 (s.pair i j).phi ∧
          (t.reg R_ANA_PSTAT).getLsbD 0 = (s.pair i j).islanded)) ∧
    (∀ block : BitVec 5, MayAccess s m R_PBR_LOCK 4 17 →
      (s.PBR_LOCK_STATE = 0 → s.glb.mode = .halt → s.requestRoom false 0 = true →
        ∃ t, exec (.lockStart jtag block) s = .next t ∧ onlyRegs s t [R_PBR_LOCK] ∧ t.PBR_LOCK_STATE = 0) ∧
      (s.PBR_LOCK_STATE = 0 → s.glb.mode ≠ .halt → s.live = false ∨ s.pbr.up = false → s.requestRoom false 0 = true →
        ∃ t, exec (.lockStart jtag block) s = .next t ∧ t.PBR_LOCK_STATE = 0 ∧ t.pbr = s.pbr ∧ flagged s t R_PBR_FLAGS (R_PBR_FLAGCNT 0) 8 ∧
          t.reg R_PBR_NEARADDR = BitVec.ofNat 32 (block.toNat * 0x10000)) ∧
      (s.PBR_LOCK_STATE = 0 → s.live = true → s.pbr.up = true → s.requestRoom false 0 = true →
        ∃ t p, exec (.lockStart jtag block) s = .next t ∧ t.PBR_LOCK_STATE = 1 ∧ t.PBR_LOCK_BLOCK = block.toNat ∧ t.pbr.lockMaster = some m ∧
          t.pbr.reqQ = s.pbr.reqQ ++ [p] ∧ p.typ = 6 ∧ p.lockEnd = false ∧ p.tag = s.pbr.nextTag ∧ p.addr = block.toNat * 0x10000 ∧
          t.pbr.nears.length = s.pbr.nears.length + 1 ∧ ∀ o, o ≠ R_PBR_LOCK → t.reg o = s.reg o) ∧
      (s.PBR_LOCK_STATE ≠ 0 → exec (.lockStart jtag block) s = .next s) ∧
      (s.PBR_LOCK_STATE = 2 → s.requestRoom false 0 = true →
        ∃ t p, exec (.lockEnd jtag block) s = .next t ∧ t.PBR_LOCK_STATE = 0 ∧ t.pbr.lockMaster = none ∧ p.typ = 6 ∧ p.lockEnd = true ∧
          t.pbr.reqQ = s.pbr.reqQ.filter (fun q => q.typ != 6 || q.lockEnd) ++ [p])) ∧
    (∀ word : BitVec 17,
      let page := s.pageOf m
      let x := 4 * word.toNat
      s.glb.mode ≠ .reset → s.masterHeld m = false → (∀ y ∈ s.pbr.waitBus, y.master ≠ m) → page < 8 → s.granted 17 m 17 (page * 0x80000 + x) 4 = true →
      (0xE0 ≤ x % 512 → x % 512 < 0x120 →
        exec (.windowWrite jtag word v) s = .next (s.setFctx (page * 1024 + x / 512) (x % 512) 4 0)) ∧
      (x % 512 < 0xE0 ∨ 0x120 ≤ x % 512 →
        ∃ t, exec (.windowWrite jtag word v) s = .next t ∧ t.flw = s.flw ∧ flagged s t R_FLW_FLAGS (R_FLW_FLAGCNT 0) 5))

/-- Accesses that reach no register (00_scope.md R5, 12_event_capture.md R270, 15_host_interface.md R314, 16_peer_bridge_twin.md R333 to R335,
19_register_map.md R381): an absent unit and a reserved offset read 0 and set their flag, a write of an absent unit does nothing, a bad
size sets BAD_ACCESS, a posted write of the partner's window joins the requests, and BAR2 reads the DDR and drops writes. Clauses that no
rule states word for word follow the model's readings, log entry 97. -/
def Obligations.AccessesBesideRegisters : Prop :=
  ∀ (s : State) (jtag : Bool), s.glb.mode ≠ .reset → s.pbr.nears = [] → s.pbr.waitBus = [] → s.pbr.farLock = none → s.requestRoom false 0 = true →
    let m := masterOf jtag
    let zeros (t : State) (who n : Nat) : Prop := t.out.head? = some (.readData who (List.replicate n 0))
    (∀ (off : BitVec 21) (v : BitVec 32), off.toNat < 0x110000 → off.toNat % 4 = 0 → s.absentAt off.toNat = true →
      exec (.absentUnitAccess jtag off true v) s = .next s ∧
      ∃ t, exec (.absentUnitAccess jtag off false v) s = .next t ∧ flagged s t R_GLB_STATUS (R_GLB_FLAGCNT 0) 0 ∧ zeros t m 4) ∧
    (∀ (off : BitVec 21) (v : BitVec 32), off.toNat % 4 = 0 →
      (off.toNat < 0x110000 ∧ regRow off.toNat = none ∧ s.absentAt off.toNat = false ∧
          (∀ r ∈ [16, 17], s.granted (off.toNat / 0x10000) m r (off.toNat % 0x10000) 4 = true)) ∨ (0x110000 ≤ off.toNat ∧ off.toNat < 0x180000) ∨
        (0x180000 ≤ off.toNat ∧ pageTarget (s.pageOf m) = none ∧ s.farPage m = false) →
      (∃ t, exec (.reservedAccess jtag off true v) s = .next t ∧ flagged s t R_GLB_STATUS (R_GLB_FLAGCNT 0) 1 ∧
        t = { s with regs := t.regs, hst := t.hst, out := t.out }) ∧
      ∃ t, exec (.reservedAccess jtag off false v) s = .next t ∧ flagged s t R_GLB_STATUS (R_GLB_FLAGCNT 0) 1 ∧ zeros t m 4) ∧
    (∀ (bar4 : Bool) (off : BitVec 21) (n : Nat), ¬((n = 4 ∨ n = 8) ∧ off.toNat % n = 0) →
      (∃ t, exec (.badAccess bar4 off n false) s = .next t ∧ flagged s t R_HST_FLAGS (R_HST_FLAGCNT 0) 5 ∧ zeros t 0 n) ∧
      (n ≤ 8 ∨ 256 < n ∨ n % 4 ≠ 0 ∨ off.toNat % 4 ≠ 0 →
        ∃ t, exec (.badAccess bar4 off n true) s = .next t ∧ flagged s t R_HST_FLAGS (R_HST_FLAGCNT 0) 5 ∧
          t = { s with regs := t.regs, hst := t.hst, out := t.out })) ∧
    (∀ (x : BitVec 19) (data : Bytes),
      let far := (s.pageOf m - 0x80) * 0x80000 + x.toNat
      s.farPage m = true → x.toNat % 4 = 0 → data.length = 4 → s.hasPeer = true → s.live = true →
      s.pbr.up = true → s.pbr.lockMaster = none → s.pbr.reqQ = [] →
      (s.granted 22 m 17 far 4 = true → (∀ i < 8, s.PBR_RANGE_ENABLE i = 0) →
        let p : Packet := { typ := 0, size := 2, tag := s.pbr.nextTag, epoch := s.pbr.peerEpoch, status := (s.pbr.alive + 1) % 256, origin := m, addr := far, payload := data }
        exec (.bridgeWindowAccess jtag x 4 true data) s = .next { s with
          pbr := { s.pbr with alive := (s.pbr.alive + 1) % 256, nextTag := (s.pbr.nextTag + 1) % 256, reqQ := [p] } }) ∧
      (s.granted 22 m 16 far 4 = true →
        let p : Packet := { typ := 1, size := 2, tag := s.pbr.nextTag, epoch := s.pbr.peerEpoch, origin := m, addr := far }
        exec (.bridgeWindowAccess jtag x 4 false data) s = .next { s with
          pbr := { s.pbr with nextTag := (s.pbr.nextTag + 1) % 256, reqQ := [p], nears := [⟨s.pbr.nextTag, m, far, 4, false, false, false, false⟩] } })) ∧
    (∀ (x : BitVec 26) (n : Nat),
      let a := s.CAP_WINBASE_BASE * 4096 + x.toNat
      (s.hasDdr = false → ∃ t, exec (.bar2Read x n) s = .next t ∧ flagged s t R_GLB_STATUS (R_GLB_FLAGCNT 0) 0 ∧ zeros t 0 n) ∧
      (s.hasDdr = true → s.ddrUsable = false →
        ∃ t, exec (.bar2Read x n) s = .next t ∧ flagged s t R_CAP_FLAGS (R_CAP_FLAGCNT 0) 7 ∧ zeros t 0 n) ∧
      (∀ r, s.ddrUsable = true → s.ddrRegion a = some r → s.granted (24 + r) 0 16 a n = true → s.eccBad = [] →
        exec (.bar2Read x n) s = .next { s with out := .readData 0 (s.ddrRead a n) :: s.out })) ∧
    (s.hasCapture = true → ∃ t, exec .bar2Write s = .next t ∧ flagged s t R_CAP_FLAGS (R_CAP_FLAGCNT 0) 8 ∧ t.ddr = s.ddr) ∧
    (s.hasCapture = false → exec .bar2Write s = .next s)

/-- Rings, vectors and the PCIe link (02_modes.md R41, 15_host_interface.md R313, R315, R316, R320, R326 to R328): entries are read and join
the queue of commands, a held completion is written once the ring takes it, a vector is raised or its message sent, a failed read stops
fetch or ends its command, a link-down discards what has not started, and the head of a host queue moves to its ring. Clauses that no rule
states word for word follow the model's readings, log entries 65, 66, 87 and 90. -/
def Obligations.RingsAndVectors : Prop :=
  ∀ (s : State), s.glb.mode ≠ .reset →
    let msgOf (n : Nat) : Output :=
      .msix n ((s.hst.msix.get msixReset (16 * n)).toNat + 2 ^ 32 * (s.hst.msix.get msixReset (16 * n + 4)).toNat)
        (s.hst.msix.get msixReset (16 * n + 8)).toNat
    (∀ entries : List Bytes, entries ≠ [] → entries.length ≤ 8 → s.HST_CTL_CR_EN = 1 → s.hst.fetchStopped = false → s.glb.rebootPending = false →
      entries.length ≤ (s.HST_CRTAIL_TAIL + 65536 - s.HST_CRHEAD_HEAD) % 65536 → s.inFlight + entries.length ≤ 256 →
      let news := entries.zipIdx.map fun x => parseEntry x.1 ((s.HST_CRHEAD_HEAD + x.2) % 256) none
      let slot := s.HST_CRHEAD_HEAD % 256
      let m := min entries.length (256 - slot)
      ∃ t : State, exec (.commandFetch entries) s = .next t.drain ∧ t.HST_CRHEAD_HEAD = (s.HST_CRHEAD_HEAD + entries.length) % 65536 ∧
        t.hst = { s.hst with fetched := s.hst.fetched ++ news } ∧ (∀ o, o ≠ R_HST_CRHEAD → t.reg o = s.reg o) ∧
        t = { s with regs := t.regs, hst := t.hst, out := t.out } ∧
        t.out = readsOf s.crBase (64 * (entries.length - m)) ++ readsOf (s.crBase + 64 * slot) (64 * m) ++ s.out ∧
        (s.krOpen = false ∨ (∀ x ∈ s.hst.fetched ++ news, (argMasks x.1 x.2).isSome = true) → t.drain = t)) ∧
    (∀ c rest, s.hst.held = c :: rest →
      (s.HST_CTL_KR_EN = 1 → s.unconsumed < 512 →
        ∃ t l, exec .completionWrite s = .next t.drain ∧ t.hst.held = rest ∧ t.HST_KRTAIL_TAIL = (s.HST_KRTAIL_TAIL + 1) % 65536 ∧
          t.reg (R_HST_GCNT 1) = s.reg (R_HST_GCNT 1) + 1 ∧
          t.out = l ++ .hostWrite (replyAddr s) (c.bytes (decide (s.HST_KRTAIL_TAIL / 512 % 2 = 0))) :: s.out ∧ l.length ≤ 2 ∧
          (s.unconsumed = 511 → flagged s t R_HST_FLAGS (R_HST_FLAGCNT 0) 6)) ∧
      (s.HST_CTL_KR_EN = 0 ∨ 512 ≤ s.unconsumed → exec .completionWrite s = .next s)) ∧
    (s.HST_KCOAL_TIME_US ≠ 0 → s.unconsumed ≠ 0 →
      ((s.hst.msix.get msixReset 12).getLsbD 0 = false → exec .completionCoalesceTimeout s = .next { s with out := msgOf 0 :: s.out }) ∧
      ((s.hst.msix.get msixReset 12).getLsbD 0 = true → ∃ t, exec .completionCoalesceTimeout s = .next t ∧ 0 ∈ t.hst.msixPend ∧ t.out = s.out)) ∧
    (∀ v : Fin 64,
      ∃ t, exec (.msixUnmask v) s = .next t ∧ t.hst.msix.get msixReset (16 * v.val + 12) = 0 ∧ v.val ∉ t.hst.msixPend ∧ t.regs = s.regs ∧
        (v.val ∈ s.hst.msixPend → t.out = msgOf v :: s.out) ∧ (v.val ∉ s.hst.msixPend → t.out = s.out)) ∧
    (s.HST_CTL_CR_EN = 1 → s.HST_CRHEAD_HEAD ≠ s.HST_CRTAIL_TAIL →
      ∃ t, exec (.dmaTimeout none) s = .next t ∧ t.hst.fetchStopped = true ∧ flagged s t R_HST_FLAGS (R_HST_FLAGCNT 0) 4) ∧
    (∀ f : Flight, s.hst.flights = [f] → f.awaited ≠ 0 → f.cmd.src = none → s.hst.held = [] → s.hst.fetched = [] → s.HST_CTL_KR_EN = 1 → s.unconsumed < 512 →
      ∃ t, exec (.dmaTimeout (some f.cmd.tag)) s = .next t ∧ Answered s t f.cmd 9 0 ∧ flagged s t R_HST_FLAGS (R_HST_FLAGCNT 0) 4) ∧
    (∃ t, exec .pcieLinkDown s = .next t ∧ exec .pciePerst s = .next t ∧ t.hst.fetched = [] ∧ t.hst.fetchStopped = false ∧ t.hst.flights = s.hst.flights ∧
      t.reg R_HST_CTL = 0 ∧ t.reg (R_HST_GCNT 4) = s.reg (R_HST_GCNT 4) + BitVec.ofNat 32 s.hst.fetched.length ∧
      flagged s t R_HST_FLAGS (R_HST_FLAGCNT 0) 3 ∧ t.chs = s.chs ∧ t.glb = s.glb) ∧
    (∀ (h : Fin 16) e rest, s.EGR_HQCFG_DMA h = 1 → (s.hq h).entries = e :: rest → s.eccBad = [] →
      let bs := e.ringBytes
      let size := 2 ^ s.HST_HQSIZE_LOG2 h
      let used := (s.HST_HQWR_WR h + 2 ^ 32 - s.HST_HQRD_RD h) % 2 ^ 32
      let base := ((s.reg (R_HST_HQBASEH h)).toNat * 2 ^ 32 + (s.reg (R_HST_HQBASEL h)).toNat) / size * size
      (size < used + bs.length → exec (.hostQueueDma h) s = .next s) ∧
      (used + bs.length ≤ size →
        ∃ t l, exec (.hostQueueDma h) s = .next t ∧ (t.hq h).entries = rest ∧
          t.reg (R_HST_HQWR h) = s.reg (R_HST_HQWR h) + BitVec.ofNat 32 bs.length ∧ t.out = l ++ s.out ∧
          hostCells l = (cellsAt 0 bs).map fun x => (base + (s.HST_HQWR_WR h + x.1) % size, x.2)))

/-- Power and reset (02_modes.md R32, R34, R36, R37, R39, 17_configuration.md R363 to R366): the supply and the pins bring RESET, the end of
the reset sequence reads the header and enters PLINTH, a REBOOT ends in RESET, and DDR, lanes and the auto-run flag lead to RUN. Clauses
that no rule states word for word follow the model's readings, log entries 5, 75, 98, 100 and 102. -/
def Obligations.PowerAndReset : Prop :=
  ∀ (s : State),
    (s.glb.auxUp = false →
      ∃ t, exec .vddAuxUp s = .next t ∧ t.glb = { s.glb with mode := .reset, epoch := 0, failLevels := 0, auxUp := true, resetPin := true } ∧
        t.pbr = { s.pbr with faultDriven := true } ∧ (∀ p < 4, (t.pin p).out = some false) ∧
        t = { s with glb := t.glb, pbr := t.pbr, egr := t.egr, out := t.out }) ∧
    (∃ t, exec .vddAuxRemove s = .next t ∧ Cleared s t ∧ t.glb.mode = .reset ∧ t.glb.auxUp = false ∧ t.glb.epoch = 0 ∧ t.glb.failLevels = 0 ∧
      t.pbr.faultDriven = false ∧ ∀ p < 4, (t.pin p).out = none) ∧
    (s.glb.mode = .reset → exec .resetAssert s = .next { s with glb := { s.glb with resetPin := s.glb.auxUp, rebootPending := false } }) ∧
    (s.glb.mode ≠ .reset →
      ∃ t, exec .resetAssert s = .next t ∧ Cleared s t ∧ t.glb.mode = .reset ∧ t.glb.resetPin = true ∧ t.glb.rebootPending = false ∧
        t.glb.epoch = (if s.glb.mode = .halt then s.glb.epoch else epochAfter s.glb.epoch) ∧ t.glb.failLevels = s.glb.failLevels ∧
        t.pbr.faultDriven = true) ∧
    (s.glb.mode = .reset → s.glb.resetPin = true → s.glb.auxUp = true →
      exec .resetRelease s = .next { s with glb := { s.glb with resetPin := false, epoch := epochAfter s.glb.epoch } }) ∧
    (s.glb.mode = .halt → s.glb.rebootPending = true → s.hst.held = [] →
      ∃ t, exec .rebootReset s = .next t ∧ Cleared s t ∧ t.glb.mode = .reset ∧ t.glb.rebootPending = true ∧ t.glb.epoch = s.glb.epoch ∧
        t.glb.resetPin = false) ∧
    (s.glb.mode = .reset → s.glb.auxUp = true → s.glb.resetPin = false → s.pwr.pfail = false → s.cfg = {} →
      let h := s.flashRead 0 4096
      ∃ t, exec .resetSequenceEnd s = .next t ∧ t.glb.mode = .plinth ∧ t.glb.prevMode = .reset ∧ t.glb.haltCause = 0 ∧
        t.glb.rebootPending = false ∧ t.glb.epoch = (if s.glb.rebootPending then epochAfter s.glb.epoch else s.glb.epoch) ∧
        (hdrGood h = false → t.glb.side = false ∧ t.glb.failLevels = 0 ∧ t.cfg.booting = none ∧ flagged s t R_CFG_FLAGS (R_CFG_FLAGCNT 0) 6 ∧
          flagged s t R_CFG_FLAGS (R_CFG_FLAGCNT 0) 5) ∧
        (hdrGood h = true → t.glb.side = (le h 4 1).testBit 0 ∧ t.glb.failLevels = BitVec.ofNat 4 (le h 5 1) ∧
          (t.cfg.slotA.state = 2 → t.cfg.booting = some (0, false)) ∧
          (t.cfg.slotA.state ≠ 2 → t.cfg.slotB.state = 2 → t.cfg.booting = some (1, false)) ∧
          (t.cfg.slotA.state ≠ 2 → t.cfg.slotB.state ≠ 2 → t.cfg.booting = none ∧ flagged s t R_CFG_FLAGS (R_CFG_FLAGCNT 0) 5))) ∧
    (s.hasDdr = true → s.cfg.training = true → s.glb.mode ≠ .reset →
      exec .ddrTrainingDone s = .next { s with cfg := { s.cfg with training := false }, glb := { s.glb with ddrTrained := true } }) ∧
    (∀ lane : Fin 14, s.cfg.committed = true → lane.val ∈ s.lanesUsed → s.glb.mode ≠ .reset → s.glb.lanesReady.testBit lane = false →
      exec (.laneCalibrationDone lane) s = .next { s with glb := { s.glb with lanesReady := s.glb.lanesReady + 2 ^ lane.val } }) ∧
    (s.glb.mode = .plinth → s.cfg.autoRun = true → s.runReady = true → s.pwr.required = 0 →
      ∃ t, exec .plinthToRun s = .next t ∧ t.glb.mode = .run ∧ t.glb.prevMode = .plinth ∧ t.glb.shed = 0 ∧ t.glb.epoch = s.glb.epoch ∧
        flagged s t R_PWR_FLAGS (R_PWR_FLAGCNT 0) 5) ∧
    (s.glb.mode = .plinth → s.cfg.autoRun = false ∨ s.runReady = false → exec .plinthToRun s = .next s)

/-- Shedding (02_modes.md R44, R45, R162, Table MOD-5): pins and rails set the required level, a level held for 10 µs is entered at once
upward and is left one by one after 50 ms, and runs still going 8 µs after SHED4 entry return to their queue. Clauses that no rule states
word for word follow the model's readings, log entry 3. -/
def Obligations.Shedding : Prop :=
  ∀ (s : State),
    (∀ v : BitVec 2, exec (.pwrWarnChange v) s = .next { s with pwr := { s.pwr with warn := v.toNat } }) ∧
    (∀ level : Fin 5,
      exec (.railThresholdCross 0 level) s = .next { s with pwr := { s.pwr with rail0 := level } } ∧
      exec (.railThresholdCross 1 level) s = .next { s with pwr := { s.pwr with rail1 := level } } ∧
      exec (.railThresholdCross 2 level) s = .next { s with pwr := { s.pwr with rail2 := level } }) ∧
    (let r := max (max s.pinLevel (max s.pwr.rail0 (max s.pwr.rail1 s.pwr.rail2))) s.pwr.floor
     (s.glb.mode = .reset ∨ r = s.pwr.required → exec .shedLevelQualified s = .next s) ∧ (s.glb.mode ≠ .reset → r ≠ s.pwr.required →
      let back (b : Option Nat) : State := { s with pwr := { s.pwr with required := r, backStart := b } }
      (s.glb.mode ≠ .run → s.glb.mode ≠ .shed → exec .shedLevelQualified s = .next { s with pwr := { s.pwr with required := r } }) ∧
      (s.glb.mode = .run ∨ s.glb.mode = .shed →
        (r = s.glb.shed → exec .shedLevelQualified s = .next (back none)) ∧
        (r < s.glb.shed →
          exec .shedLevelQualified s = .next (back (if s.pwr.backStart = none ∨ s.pwr.required < r then some s.tim.ticks else s.pwr.backStart))) ∧
        (s.glb.shed < r → r ≤ 4 →
          ∃ t, exec .shedLevelQualified s = .next t ∧ t.glb.mode = .shed ∧ t.glb.shed = r ∧ t.pwr.required = r ∧ t.pwr.backStart = none ∧
            t.glb.epoch = s.glb.epoch ∧ (t.reg R_PWR_FLAGS).getLsbD 0 = true ∧
            (s.glb.mode = .run → t.glb.prevMode = .run ∧ flagged s t R_PWR_FLAGS (R_PWR_FLAGCNT 0) 5) ∧
            (r = s.glb.shed + 1 → flagged s t R_PWR_FLAGS (R_PWR_FLAGCNT 0) 0) ∧
            (r = 4 → ∀ k, 32 ≤ k → k < 96 → (t.thread k).rest = .off))))) ∧
    (s.glb.mode ≠ .shed ∨ s.pwr.backStart = none ∨ s.glb.shed ≤ s.pwr.required → exec .shedStepBack s = .next s) ∧
    (s.glb.mode = .shed → s.pwr.backStart ≠ none → s.pwr.required < s.glb.shed → s.glb.shed ≤ 4 →
      ∃ t, exec .shedStepBack s = .next t ∧ t.glb.shed = s.glb.shed - 1 ∧ t.glb.mode = (if s.glb.shed = 1 then .run else .shed) ∧
        t.pwr = { s.pwr with backStart := if s.pwr.required < s.glb.shed - 1 then some s.tim.ticks else none } ∧
        flagged s t R_PWR_FLAGS (R_PWR_FLAGCNT 0) 1 ∧
        (s.glb.shed = 4 → ∀ k, 32 ≤ k → k < 96 → (t.thread k).rest ≠ .off)) ∧
    (s.glb.ddrSelfRefresh = true → s.glb.shed < 3 → s.glb.mode ≠ .reset →
      ∃ t, exec .ddrSelfRefreshExit s = .next t ∧ t = { s with glb := { s.glb with ddrSelfRefresh := false }, cap := t.cap } ∧
        (s.live = false → t.cap = s.cap) ∧
        (s.live = true → s.hasDdr = true → s.glb.ddrTrained = true → ∀ g ∈ s.capGroups, (s.group g).state = 7 →
          (t.group g).state = if s.slotFree g ((s.group g).seq + 1) then 1 else 6)) ∧
    (s.glb.shed ≠ 4 → Calm s → exec .shed4RunAbort s = .next s) ∧
    (s.glb.shed = 4 → Calm s → Full s →
      ∃ t, exec .shed4RunAbort s = .next t ∧ t.glb = s.glb ∧ (∀ k < 32, t.thread k = s.thread k) ∧
        (∀ k, 32 ≤ k → k < 96 → ∀ r, (s.thread k).run = some r → r.ending = none → (s.thread k).rest = .off → (s.thread k).ahead = none →
          (t.thread k).run = none) ∧
        (∀ k, 32 ≤ k → k < 96 → ∀ r e, (s.thread k).run = some r → r.ending = some e → (t.thread k).run = some r) ∧
        ∀ p, 3 ≤ p → p < 8 → t.queue p = [])

/-- Failures (02_modes.md R46, Sequence MOD-2, 16_peer_bridge_twin.md R346, 20_electrical.md R391, R392, R396, R405): PFAIL#, a minimum rail,
a lost clock, a thermal trip and the heartbeat watchdog end in HALT with their cause, and the summaries are flushed where the flash takes
them and M6 may write it. Clauses that no rule states word for word follow the model's readings, log entry 2. -/
def Obligations.FailuresEndInHalt : Prop :=
  ∀ (s : State) (flashOk : Bool),
    let running : Prop := s.glb.mode ≠ .reset ∧ s.glb.mode ≠ .halt
    (running → ∃ t, exec (.pfailAssert flashOk) s = .next t ∧ Halted s t 2 ∧ t.pwr.pfail = true ∧ flagged s t R_PWR_FLAGS (R_PWR_FLAGCNT 0) 2 ∧
      (flashOk = true → MayFlush s → t.cap.unflushed = 0) ∧ (flashOk = false → t.flash = s.flash)) ∧
    (s.glb.mode = .halt → s.glb.haltCause = 3 → s.pwr.minrailAt = some s.tim.ticks → s.cap.unflushed = 0 →
      ∃ t, exec (.pfailAssert flashOk) s = .next t ∧ t.glb = { s.glb with haltCause := 2 } ∧ t.pwr = { s.pwr with pfail := true }) ∧
    (s.glb.mode = .reset → exec (.pfailAssert flashOk) s = .next { s with pwr := { s.pwr with pfail := true } }) ∧
    (running → ∃ t, exec (.minrailTrip flashOk) s = .next t ∧ Halted s t 3 ∧ flagged s t R_PWR_FLAGS (R_PWR_FLAGCNT 0) 3 ∧
      (flashOk = true → MayFlush s → t.cap.unflushed = 0) ∧ (flashOk = false → t.flash = s.flash)) ∧
    (s.pwr.pfail = true → s.glb.mode = .halt → s.log.length < 1024 →
      ∃ t, exec .pfailRelease s = .next t ∧ t.pwr = { s.pwr with pfail := false } ∧ t.glb = s.glb ∧
        flagged s t R_PWR_FLAGS (R_PWR_FLAGCNT 0) 4 ∧
        t.log = ⟨(s.reg R_PRT_LOGNEXT).toNat, s.tim.dt, 8, 5 + 16 * s.glb.shed, 1, []⟩ :: s.log) ∧
    (s.pwr.pfail = false ∨ s.glb.mode ≠ .halt → exec .pfailRelease s = .next { s with pwr := { s.pwr with pfail := false } }) ∧
    (running →
      (∃ t, exec (.lossOfClock true) s = .next t ∧ exec .thermalTrip s = .next t ∧ Halted s t 4 ∧ t.glb.silenced = true) ∧
      (s.glb.active = true → exec (.heartbeatWatchdog true) s = exec .thermalTrip s)) ∧
    (s.glb.mode ≠ .reset →
      ∃ t, exec (.lossOfClock false) s = .next t ∧ t.glb = { s.glb with active := false, silenced := true } ∧
        t.pbr = { s.pbr with faultDriven := true } ∧ t = { s with glb := t.glb, pbr := t.pbr, out := t.out } ∧
        (s.glb.active = true → exec (.heartbeatWatchdog false) s = .next t)) ∧
    (s.glb.active = false → ∀ b, exec (.heartbeatWatchdog b) s = .next s)

/-- Dispatch and the start of runs (07_chisel_machine.md R139, R141, R143, R145, R149, Table CHS-3, 01_architecture.md R28): a thread takes
the oldest entry of the highest priority its engine may run, to run or ahead, with a copy of the flow context; the run starts with the
registers of Table CHS-3; a timer fires once for each time it is due, its entry behind those of its flow stamped before it; an idle thread
is gated. Clauses that no rule states word for word follow the model's readings, log entries 2 and 63. -/
def Obligations.RunsBegin : Prop :=
  ∀ (s : State) (h : Thr),
    let k := thrIdx h
    let th := s.thread k
    (Calm s → Full s → s.live = true → s.chs.paused = false → s.glb.shed ≠ 4 → s.eccBad = [] → th.rest ≠ .off →
      ∀ p x rest, p < 8 → s.queue p = x :: rest → (s.CHS_PRIENG_ENGINES p).testBit h.e = true → s.fState x.flow ≠ 4 → s.goodEntry x = true →
        (∀ q < p, s.queue q = [] ∨ (s.CHS_PRIENG_ENGINES q).testBit h.e = false) →
        let fresh (r : Run) : Prop :=
          r = { entry := x, ctx := r.ctx, sent := x.sent.data } ∧ ∀ o < 512, r.ctx.at 0 o = s.flw.ctx.at 0 (512 * x.flow + o)
        (th.run = none →
          ∃ r, fresh r ∧ exec (.dispatch h) s = .next ((s.setQueue p rest).setThread k { th with run := some r })) ∧
        (∀ r0, th.run = some r0 → th.ahead = none → s.anyFree p = false →
          ∃ r, fresh r ∧ exec (.dispatch h) s = .next ((s.setQueue p rest).setThread k { th with ahead := some r })) ∧
        (∀ r0, th.run = some r0 → th.ahead ≠ none ∨ s.anyFree p = true → exec (.dispatch h) s = .next s)) ∧
    (Calm s → s.live = false ∨ s.chs.paused = true → exec (.dispatch h) s = .next s) ∧
    (Calm s → th.rest ≠ .off → ∀ r, th.run = some r → r.started = false →
      (th.reserve < 2 → exec (.runStart h) s = .next s) ∧ (2 ≤ th.reserve →
      ∃ t u, exec (.runStart h) s = .next t ∧ t.thread k = u ∧ u.rest = th.rest ∧ u.ahead = th.ahead ∧ u.run = some { r with started := true } ∧
        u.pc = (match r.entry.timer with | some i => s.CHS_TIMER0_ENTRY_PC i | none => r.ctx.le 0 0x26 2) ∧
        (∀ q : BitVec 4, val u q = if q = 1 then BitVec.ofNat 32 r.sent.length else if q = 2 then BitVec.ofNat 32 r.entry.flow else 0) ∧
        (∀ i < 4, u.t.at 0 i = if i = 0 then BitVec.ofNat 64 (dev64 r.entry.stamp) else if i = 1 then BitVec.ofNat 64 (dev64 s.tim.dt) else 0) ∧
        u.z = false ∧ u.n = false ∧ u.c = false ∧ u.v = false ∧ u.fc = 0 ∧ u.stack = [] ∧ u.waitUntil = none ∧
        t.reg (R_CHS_GCNT 0) = s.reg (R_CHS_GCNT 0) + 1 ∧
        t.reg (R_CHS_GCNT 1) = s.reg (R_CHS_GCNT 1) + (if r.entry.timer = none then 0 else 1) ∧ ∀ j, j ≠ k → t.thread j = s.thread j)) ∧
    (exec (.threadGate h) s = .next (if th.rest = .idle ∧ th.run = none then s.setThread k { th with rest := .gated } else s)) ∧
    (∀ i : Fin 16, s.live = true → s.CHS_TIMER0_ENABLE i = 1 → s.CHS_TIMER1_PERIOD_US i ≠ 0 → 1000 * s.CHS_TPHASE_PHASE_US i ≤ s.tim.dt →
      let due := 1000 * s.CHS_TPHASE_PHASE_US i +
        (s.tim.dt - 1000 * s.CHS_TPHASE_PHASE_US i) / (1000 * s.CHS_TIMER1_PERIOD_US i) * (1000 * s.CHS_TIMER1_PERIOD_US i)
      let f := s.CHS_TIMER0_FLOW i
      (s.chs.timerLast.at none i = some due → exec (.timerFire i) s = .next s) ∧
      (s.chs.timerLast.at none i ≠ some due →
        (s.timerWaits i = true →
          ∃ t, exec (.timerFire i) s = .next t ∧ t.chs = { s.chs with timerLast := s.chs.timerLast.put none i (some due) } ∧
            flagged s t R_CHS_FLAGS (R_CHS_FLAGCNT 0) 3) ∧
        (s.timerWaits i = false → s.fUsed f = true →
          let x : QEntry := { timer := some i.val, flow := f, prio := s.fPrio f, stamp := due, step := s.tim.step, seq := s.fSeq f }
          (s.flowBusy f = false →
            ∃ t, exec (.timerFire i) s = .next t ∧ t.queue (s.fPrio f) = placeEntry x (s.queue (s.fPrio f)) ∧
              (∀ q, q ≠ s.fPrio f → t.queue q = s.queue q) ∧ t.chs.timerLast.at none i = some due ∧ t.regs = s.regs) ∧
          (s.flowBusy f = true → s.flowRuns f = true ∨ s.laterQueued f due = [] →
            ∃ t, exec (.timerFire i) s = .next t ∧ t.chs.blocked = s.chs.blocked ++ [x] ∧ t.chs.queues = s.chs.queues ∧
              t.chs.timerLast.at none i = some due ∧ t.regs = s.regs) ∧
          (∀ p y l, s.flowRuns f = false → s.laterQueued f due = (p, y) :: l →
            let left (q : Nat) : List QEntry := if q = p then (s.queue p).erase y else s.queue q
            ∃ t, exec (.timerFire i) s = .next t ∧ t.chs.blocked = s.chs.blocked ++ [y] ∧
              (∀ q, t.queue q = if q = s.fPrio f then placeEntry x (left q) else left q) ∧
              t.chs.timerLast.at none i = some due ∧ t.regs = s.regs))))

/-- The end of runs (07_chisel_machine.md R149, R154, R155, Table CHS-9, 06_flows.md R128): a run whose disposition has issued is written
back, counted and routed; a run over its budget or the run limit ends without write-back. Clauses that no rule states word for word follow
the model's readings, log entries 2, 60 and 61. -/
def Obligations.RunsEnd : Prop :=
  ∀ (s : State) (h : Thr) (r : Run), Calm s → Full s → s.chs.blocked = [] → (s.thread (thrIdx h)).run = some r → (s.thread (thrIdx h)).ahead = none →
    let k := thrIdx h
    let f := r.entry.flow
    let counted (t : State) (c : Nat) : Prop := t.fctx f (0xE0 + 4 * c) 4 = (s.fctx f (0xE0 + 4 * c) 4 + 1) % 2 ^ 32
    let freed (t : State) : Prop :=
      (t.thread k).run = none ∧ (t.thread k).rest = (if (s.thread k).rest = .off then .off else .idle) ∧ ∀ j, j ≠ k → t.thread j = s.thread j
    f < 8192 → s.fState f ≠ 4 →
    (∀ e, r.ending = some e → r.quar = false → r.emits = [] →
      let back (t : State) : Prop := freed t ∧ t.fFaultRun f = 0 ∧ t.fbytes f 0x140 0xC0 = r.ctx.bytes 0 0x140 0xC0
      (e = .drop → ∃ t, exec (.writeBackDone h) s = .next t ∧ back t ∧ counted t 4 ∧ t.egr = s.egr ∧ t.aln = s.aln ∧ t.regs = s.regs) ∧
      (∀ q, e = .host q → s.live = true →
        ∃ t j, exec (.writeBackDone h) s = .next t ∧ back t ∧ counted t 3 ∧ t.hq = s.hq ∧
          (t.netOut stagerSched).jobs = (s.netOut stagerSched).jobs ++ [j] ∧ j.prio = s.fPrio f ∧ j.src = f ∧
          ∃ x offGrid, j.job = .entry q 0 f x offGrid r.sent ∧ x.data = r.sent) ∧
      (e = .forward → ∃ t, exec (.writeBackDone h) s = .next t ∧ back t ∧ counted t 2) ∧
      (∀ mt, e = .hold mt → s.fLaneEn f = false →
        ∃ t x, exec (.writeBackDone h) s = .next t ∧ back t ∧ counted t 1 ∧ t.fctx f 0x40 8 = dev64 mt % 2 ^ 64 ∧ t.aln.inQ = s.aln.inQ ++ [x] ∧
          x.flow = f ∧ x.mt = mt ∧ x.stamp = r.entry.stamp ∧ x.data = r.sent)) ∧
    (r.started = true → r.ending = none → s.fFaultLimit f = 0 → s.fFaultRun f < 255 →
      (r.issued < r.budget → exec (.budgetAbort h) s = .next s) ∧
      (r.budget ≤ r.issued →
        ∃ t, exec (.budgetAbort h) s = .next t ∧ freed t ∧ counted t 6 ∧ t.fFaultRun f = s.fFaultRun f + 1 ∧
          flagged s t R_CHS_FLAGS (R_CHS_FLAGCNT 0) 1 ∧ t.reg (R_CHS_GCNT 5) = s.reg (R_CHS_GCNT 5) + 1 ∧
          t.fbytes f 0x140 0xC0 = s.fbytes f 0x140 0xC0 ∧ t.egr = s.egr) ∧
      ∃ t, exec (.runLimitAbort h) s = .next t ∧ freed t ∧ counted t 6 ∧ t.fFaultRun f = s.fFaultRun f + 1 ∧
        flagged s t R_CHS_FLAGS (R_CHS_FLAGCNT 0) 2 ∧ t.reg (R_CHS_GCNT 6) = s.reg (R_CHS_GCNT 6) + 1 ∧
        t.fbytes f 0x140 0xC0 = s.fbytes f 0x140 0xC0 ∧ t.egr = s.egr)

/-- Commits, confirm windows, boot and flash operations (17_configuration.md R356, R357, R359, R361, R364 to R366): at its instant a commit
pauses dispatch, waits for the runs to end and puts the image in force; a confirm window that ends unconfirmed rolls back or halts; an
image read at boot is committed or the other slot is read; each flash operation takes a FLASH_WRITE one stage on. Clauses that no rule
states word for word follow the model's readings, log entries 2, 10, 78, 80 and 102. -/
def Obligations.CommitsBootAndFlash : Prop :=
  ∀ (s : State), Calm { s with cfg := { s.cfg with waiting := none } } →
    -- commits
    (s.cfg.waiting = none → exec .commitInstant s = .next s) ∧
    (∀ w, s.cfg.waiting = some w →
      (s.cfg.applying = false → s.tim.dt < w.at_ → exec .commitInstant s = .next s) ∧
      (s.cfg.applying = false → w.at_ ≤ s.tim.dt → (∃ k r, (s.thread k).run = some r ∧ r.started = true) →
        (∀ k r, (s.thread k).ahead = some r → r.started = false) →
        ∃ t, exec .commitInstant s = .next t ∧ t.chs.paused = true ∧ t.cfg = { s.cfg with applying := true, instant := s.tim.ticks } ∧
          t.flw = s.flw ∧ (∀ k, (t.thread k).ahead = none) ∧
          ∀ k r, (s.thread k).run = some r → r.started = true → (t.thread k).run = some r) ∧
      (s.cfg.applying = true → s.runsOpen = false →
        (∀ c, s.loadCheck w.src = .good c →
          ∃ t, exec .commitInstant s = .next t ∧ t.cfg.waiting = none ∧ t.cfg.applying = false ∧ t.cfg.committed = true ∧
            t.cfg.runVer = c.version ∧ t.cfg.prevVer = s.cfg.runVer ∧ t.cfg.autoRun = c.autoRun ∧ t.chs.paused = false ∧
            t.cfg.window = (if w.rollback = true ∨ s.cfg.committed = false then none else some (s.cfg.instant + 250000000 * c.confirmS)) ∧
            t.cfg.confirmed = (t.cfg.window == none) ∧ (t.reg R_CFG_FLAGS).getLsbD 0 = true ∧
            (w.rollback = true → (t.reg R_CFG_FLAGS).getLsbD 2 = true) ∧
            ∃ e, t.log.head? = some e ∧ e.kind = 7 ∧ e.code = (if w.rollback then 2 else 1) ∧ e.data = [(c.version, 4), (s.cfg.runVer, 4)]) ∧
        (∀ e, s.loadCheck w.src = .refused e →
          (w.rollback = false ∨ s.cfg.prevVer = 0 ∨ s.cfg.confirmed = true →
            ∃ t, exec .commitInstant s = .next t ∧ t.cfg = { s.cfg with waiting := none, applying := false } ∧ t.chs.paused = false ∧
              t.glb = s.glb ∧ t.flw = s.flw ∧ flagged s t R_CFG_FLAGS (R_CFG_FLAGCNT 0) 3 ∧
              t.reg (R_CFG_GCNT 2) = s.reg (R_CFG_GCNT 2) + 1) ∧
          (w.rollback = true → s.cfg.prevVer ≠ 0 → s.cfg.confirmed = false → s.glb.mode ≠ .reset → s.glb.mode ≠ .halt →
            ∃ t, exec .commitInstant s = .next t ∧ Halted s t 4)))) ∧
    -- confirm windows
    (∀ c, s.cfg.window = some c →
      let closed : State := { s with cfg := { s.cfg with window := none } }
      (s.tim.ticks < c → exec .confirmWindowExpiry s = .next s) ∧
      (c ≤ s.tim.ticks →
        (s.cfg.retVer = s.cfg.prevVer → s.cfg.prevVer ≠ 0 → closed.passes .retained = true →
          ∃ t, exec .confirmWindowExpiry s = .next t ∧
            t = { s with regs := t.regs, cfg := { s.cfg with
              window := none
              waiting := some { at_ := (s.tim.dt + (10 ^ 9 - 1)) / 10 ^ 9 * 10 ^ 9, src := .retained, rollback := true, cmd := none } } }) ∧
        (s.cfg.retVer ≠ s.cfg.prevVer → s.cfg.slotA.state ≠ 2 → s.cfg.slotB.state ≠ 2 → s.glb.mode ≠ .reset → s.glb.mode ≠ .halt →
          ∃ t, exec .confirmWindowExpiry s = .next t ∧ Halted s t 4))) ∧
    -- boot
    (s.glb.mode ≠ .plinth ∨ s.cfg.booting = none → exec .bootImageLoadDone s = .next s) ∧
    (∀ i fallback, s.glb.mode = .plinth → s.cfg.booting = some (i, fallback) →
      (∀ c, s.loadCheck (.slot i) = .good c →
        ∃ t, exec .bootImageLoadDone s = .next t ∧ t.cfg.booting = none ∧ t.cfg.committed = true ∧ t.cfg.runVer = c.version ∧
          t.cfg.window = none ∧ t.cfg.confirmed = true ∧ t.cfg.bootSrc = (if fallback then 2 else 1) ∧
          t.cfg.training = (t.cfg.ddrBytes != 0) ∧ (t.reg R_CFG_FLAGS).getLsbD 0 = true) ∧
      (∀ e, s.loadCheck (.slot i) = .refused e →
        (fallback = false → ∀ j < 2, (s.slot j).state = 1 → (j = 1 → s.cfg.slotA.state ≠ 1) →
          ∃ t, exec .bootImageLoadDone s = .next t ∧ t = { s with regs := t.regs, hst := t.hst, out := t.out, cfg := { s.cfg with booting := some (j, true) } } ∧
            flagged s t R_CFG_FLAGS (R_CFG_FLAGCNT 0) 3) ∧
        (fallback = true ∨ (s.cfg.slotA.state ≠ 1 ∧ s.cfg.slotB.state ≠ 1) →
          ∃ t, exec .bootImageLoadDone s = .next t ∧ t.glb = s.glb ∧ t.flw = s.flw ∧
            t.cfg = { s.cfg with booting := none, training := s.cfg.ddrBytes != 0 } ∧ flagged s t R_CFG_FLAGS (R_CFG_FLAGCNT 0) 3 ∧
            flagged s t R_CFG_FLAGS (R_CFG_FLAGCNT 0) 5))) ∧
    -- flash operations
    (∀ ok, s.cfg.job = none → exec (.flashOperationDone ok) s = .next s) ∧
    (∀ (j : FlashJob) (f : Flight), s.cfg.job = some j → s.cfg.toActivate = none → j.slot < 2 → j.cmd = some f.key → s.hst.flights = [f] →
      s.hst.held = [] → s.hst.fetched = [] → s.HST_CTL_KR_EN = 1 → s.unconsumed < 512 → f.cmd.src = none →
      let base := 0x10000 + j.slot * (s.CFG_FLASHGEO_SLOT_64K * 0x10000)
      let goes (t : State) (x : FlashJob) : Prop := t.cfg.job = some x ∧ t.hst = s.hst ∧ t.out = s.out
      let p := s.nextRecord.1
      -- the next journal record, on an erased place, states both slots
      let records (t : State) (cause : Nat) : Prop :=
        s.flashRead (0x1000 + 64 * p) 64 = List.replicate 64 0xFF →
          t.flashRead (0x1000 + 64 * p) 64 = t.recordBytes (s.cfg.jseq + 1) cause ∧ t.cfg.jpos = some p ∧ t.cfg.jseq = s.cfg.jseq + 1
      (∃ t, exec (.flashOperationDone false) s = .next t ∧ Answered s t f.cmd 7 0 ∧ t.cfg = { s.cfg with job := none } ∧ t.flash = s.flash ∧
        flagged s t R_CFG_FLAGS (R_CFG_FLAGCNT 0) 8) ∧
      (j.erasing = true →
        ∃ t, exec (.flashOperationDone true) s = .next t ∧ goes t { j with erasing := false } ∧
          ∀ a, t.flashRead a 1 = if a / 4096 = (0x1000 + 64 * p) / 4096 then [0xFF] else s.flashRead a 1) ∧
      (j.erasing = false →
        (j.stage = 0 →
          ∃ t, exec (.flashOperationDone true) s = .next t ∧ goes t { j with stage := 1, idx := 0 } ∧ (t.slot j.slot).state = 0 ∧ records t 1) ∧
        (j.stage = 1 →
          ∃ t, exec (.flashOperationDone true) s = .next t ∧
            goes t (if s.CFG_FLASHGEO_SLOT_64K * 0x10000 ≤ 4096 * (j.idx + 1) then { j with stage := 2, idx := 0 } else { j with idx := j.idx + 1 }) ∧
            ∀ a, t.flashRead a 1 = if a / 4096 = (base + 4096 * j.idx) / 4096 then [0xFF] else s.flashRead a 1) ∧
        (j.stage = 2 →
          (256 * (j.idx + 1) < j.length →
            ∃ t, exec (.flashOperationDone true) s = .next t ∧ goes t { j with idx := j.idx + 1 } ∧
              (s.flashRead (base + 256 * j.idx) 256 = List.replicate 256 0xFF →
                t.flashRead (base + 256 * j.idx) 256 = s.srcRead j.src (256 * j.idx) 256)) ∧
          (j.length ≤ 256 * (j.idx + 1) → ∀ page n, n = min 256 (j.length - 256 * j.idx) →
            page = s.flashProgram (base + 256 * j.idx) (s.srcRead j.src (256 * j.idx) n) →
            let crc := checkOf 2 (page.flashRead base (j.length - 4))
            (crc = j.crc → ∃ t, exec (.flashOperationDone true) s = .next t ∧ t.flash = page.flash ∧
              goes t { j with stage := 3, idx := 0, erasing := t.nextRecord.2 }) ∧
            (crc ≠ j.crc → ∃ t, exec (.flashOperationDone true) s = .next t ∧ t.flash = page.flash ∧ Answered s t f.cmd 7 0 ∧
              t.cfg = { s.cfg with job := none }))) ∧
        (j.stage = 3 →
          ∃ t, exec (.flashOperationDone true) s = .next t ∧ t.slot j.slot = ⟨1, j.version, j.length, j.crc⟩ ∧ records t 2 ∧
            t.reg (R_CFG_GCNT 3) = s.reg (R_CFG_GCNT 3) + 1 ∧
            (s.cfg.runVer = j.version → s.cfg.confirmed = true → goes t { j with stage := 4, idx := 0, erasing := t.nextRecord.2 }) ∧
            (s.cfg.runVer ≠ j.version ∨ s.cfg.confirmed = false → Answered s t f.cmd 0 j.crc ∧ t.cfg.job = none)) ∧
        (j.stage = 4 →
          ∃ t, exec (.flashOperationDone true) s = .next t ∧ t.slot j.slot = { s.slot j.slot with state := 2 } ∧
            (t.slot (1 - j.slot)).state ≠ 2 ∧ records t 3 ∧ Answered s t f.cmd 0 j.crc ∧ t.cfg.job = none)))

/-- The alignment store (09_alignment.md R185, R189, R191, R193 to R199, Table ALN-2, 01_architecture.md R28): what the store makes of the
record at the head of its input, whose trailer it verifies (01_architecture.md R17), when a domain's set is released and with which cause,
a read-back, the expiry of late entries, and the gating of an SRAM bank. The clauses of records are for flows of another FORMAT than 4.
Clauses that no rule states word for word follow the model's readings, log entries 2, 37, 103 and 135. -/
def Obligations.AlignmentStore : Prop :=
  ∀ (s : State), Calm s → s.live = true → s.eccBad = [] →
    (∀ (r : Rec) (rest : List Rec), s.aln.inQ = r :: rest →
      let f := r.flow
      let d := s.fDomain f
      let dm := s.dom d
      let on : Prop := s.fMember f = true ∧ s.ALN_DCFG_ENABLE d = 1 ∧ dm.started = true
      let goes (t : State) : Prop := exec .storeInput s = .next t ∧ t.aln.inQ = rest ∧ t.egr = s.egr
      let flowUp (t : State) (c : Nat) : Prop := t.fctx f (0xE0 + 4 * c) 4 = (s.fctx f (0xE0 + 4 * c) 4 + 1) % 2 ^ 32
      let domUp (t : State) (c : Nat) : Prop := t.reg (R_ALN_DCNT d c) = s.reg (R_ALN_DCNT d c) + 1
      let flag (t : State) (b : Nat) : Prop := flagged s t R_ALN_FLAGS (R_ALN_FLAGCNT 0) b
      (s.goodRec r = false → ∃ t, goes t ∧ flowUp t 7 ∧ t.regs = s.regs ∧ t.aln = { s.aln with inQ := rest }) ∧
      (s.goodRec r = true →
      (¬on → ∃ t, goes t ∧ flowUp t 4 ∧ t.regs = s.regs ∧ t.aln = { s.aln with inQ := rest }) ∧
      (on → onGrid (s.rateOf d) r.mt = none →
        ∃ t, goes t ∧ domUp t 17 ∧ flag t 9 ∧ t.flw = s.flw ∧ t.aln = { s.aln with inQ := rest }) ∧
      (∀ i, on → onGrid (s.rateOf d) r.mt = some i →
        let t0 := gridPt (s.rateOf d) i
        (s.tim.dt + 10 ^ 9 < r.mt → ∃ t, goes t ∧ flowUp t 11 ∧ domUp t 15 ∧ flag t 6 ∧ t.aln = { s.aln with inQ := rest }) ∧
        (r.mt ≤ s.tim.dt + 10 ^ 9 → s.fFormat f ≠ 4 → s.ALN_DCFG_STREAM_UP d ≠ 1 →
          (∀ p, dm.setAt t0 = some p → (∃ x ∈ p.recs, x.flow = f) →
            ∃ t, goes t ∧ domUp t 16 ∧ flag t 10 ∧ t.flw = s.flw ∧ t.aln = { s.aln with inQ := rest }) ∧
          (∀ p, dm.setAt t0 = some p → (∀ x ∈ p.recs, x.flow ≠ f) → s.spillOff = true → slotsFor r.data.length ≤ s.freeSlots →
            s.tim.dt < dm.cursor →
            ∃ t, goes t ∧ domUp t 12 ∧
              (t.dom d).setAt t0 = some { p with recs := p.recs ++ [{ r with slots := pickFree s.usedSlots (slotsFor r.data.length) }] } ∧
              ∀ u, u ≠ t0 → (t.dom d).setAt u = dm.setAt u) ∧
          (dm.setAt t0 = none → t0 < dm.cursor →
            (dm.late.find? (fun e => e.t == t0) = none →
              ∃ t, goes t ∧ flowUp t 10 ∧ domUp t 14 ∧ flag t 5 ∧ t.aln = { s.aln with inQ := rest }) ∧
            (∀ e, dm.late.find? (fun e => e.t == t0) = some e →
              (f ∈ e.present → ∃ t, goes t ∧ domUp t 16 ∧ flag t 10 ∧ t.flw = s.flw ∧ t.aln = { s.aln with inQ := rest }) ∧
              (f ∉ e.present →
                ∃ t, exec .storeInput s = .next t ∧ t.aln.inQ = rest ∧ flowUp t 12 ∧ domUp t 13 ∧
                  (t.dom d).late.find? (fun e => e.t == t0) = some { e with present := e.present ++ [f] } ∧ (t.dom d).pend = dm.pend))))))) ∧
    (∀ (d : Fin 16),
      let dm := s.dom d
      let counted : State := s.setDom d { dm with waited := (s.waitedOf d).length }
      (dm.started = false → exec (.domainEvaluate d) s = .next s) ∧
      (dm.started = true → s.tim.dt < dm.cursor → dm.setAt dm.cursor = none → exec (.domainEvaluate d) s = .next counted) ∧
      (∀ p, dm.started = true → dm.pend = [p] → p.t = dm.cursor → s.glb.mode ≠ .standby → (∀ r ∈ p.recs, r.deep = []) →
        let missing := (s.waitedOf d).filter (fun f => !s.isPresent p f)
        let end_ := p.t + s.wMax d
        let dead (f : Nat) : Nat := if s.fState f = 1 ∨ s.fLq f = 0xFFFFFFFF then end_ else min (p.t + s.fLq f + s.margin d) end_
        let next := gridPt (s.rateOf d) (gridFloor (s.rateOf d) p.t + 1)
        let released (t : State) (cause : Nat) : Prop :=
          exec (.domainEvaluate d) s = .next t ∧ (t.dom d).pend = [] ∧ (t.dom d).cursor = next ∧ (t.dom d).lastCause = cause ∧
            t.reg (R_ALN_DCNT d 0) = s.reg (R_ALN_DCNT d 0) + 1 ∧ t.reg (R_ALN_DCNT d (cause + 1)) = s.reg (R_ALN_DCNT d (cause + 1)) + 1 ∧
            (∀ e, e ≠ d.val → t.dom e = s.dom e) ∧
            ∀ g ∈ s.capGroups, s.CAP_GCFG_DOMAIN g = d → (s.group g).state ≠ 0 →
              ∃ ready, (t.group g).staged = (s.group g).staged ++ [{ set := s.relSet d p cause, ready := ready }]
        let part (t : State) : Prop :=
          (t.dom d).lastPartial = true ∧ t.reg (R_ALN_DCNT d 9) = s.reg (R_ALN_DCNT d 9) + 1 ∧ flagged s t R_ALN_FLAGS (R_ALN_FLAGCNT 0) 0
        (s.tim.dt < next → p.t ≤ next →
          (missing = [] → p.t + s.wMin d ≤ s.tim.dt → ∃ t, released t 0) ∧
          (missing ≠ [] → (∀ f ∈ missing, dead f ≤ s.tim.dt) → s.tim.dt < end_ → ∃ t, released t 1 ∧ part t) ∧
          (missing ≠ [] → end_ ≤ s.tim.dt → ∃ t, released t 2 ∧ part t)) ∧
        (s.tim.dt < end_ → (missing = [] ∧ s.tim.dt < p.t + s.wMin d) ∨ (∃ f ∈ missing, s.tim.dt < dead f) →
          exec (.domainEvaluate d) s = .next counted)) ∧
      (∀ (p : Sys2Proof.Machine.PSet) rest (i : Nat) (r : Rec), dm.pend = p :: rest → p.recs[i]? = some r → r.deep ≠ [] → (∀ (j : Nat) (x : Rec), j ≠ i → p.recs[j]? = some x → x.deep = []) →
        r.deep.length ≤ s.freeSlots →
        ∃ t q, exec (.readBackDone d) s = .next t ∧ (t.dom d).pend.head? = some q ∧ q.t = p.t ∧ q.spilled = true ∧
          q.recs.map (·.data) = p.recs.map (·.data) ∧ (∀ r ∈ q.recs, r.deep = []) ∧ ∀ e, e ≠ d.val → t.dom e = s.dom e) ∧
      ((∀ p ∈ dm.pend.head?, ∀ r ∈ p.recs, r.deep = []) → exec (.readBackDone d) s = .next s) ∧
      (∃ t, exec (.lateRingExpiry d) s = .next t ∧
        t.dom d = { dm with late := dm.late.filter (fun e => decide (s.tim.dt < e.rel + s.hLate d)), ring := (t.dom d).ring } ∧
        (t.dom d).ring.length = ((t.dom d).late.length + 7) / 8 ∧ ∀ e, e ≠ d.val → t.dom e = s.dom e)) ∧
    ∀ bank : Nat,
      exec (.sramBankGate bank) s = .next (if s.sramUsed bank = true ∨ bank ∈ s.aln.gated then s
        else { s with aln := { s.aln with gated := s.aln.gated ++ [bank] } })

/-- Rate conversion lanes (10_rate_conversion.md R209 to R211, R213, R220, R221, R224, R225, R227, Table RCV-3): a lane that runs takes the
record at the head of its queue; one whose trailer fails (01_architecture.md R17), too far ahead, or of a bad layout or rate, is discarded
and counted; the first input starts its flow's stream, the next one goes on with it, one not later than the last resets it. At the end of
a fade its target is the current bank. Clauses that no rule states word for word follow the model's readings, log entries 2, 38, 40 and
135. -/
def Obligations.RateConversionLanes : Prop :=
  ∀ (s : State) (l : Fin 16), Calm s → Full s → s.live = true → s.eccBad = [] →
    let ln := s.lane l
    let lUp (t : State) (c n : Nat) : Prop := t.reg (R_RCV_LCNT l c) = s.reg (R_RCV_LCNT l c) + BitVec.ofNat 32 n
    let flag (t : State) (b : Nat) : Prop := flagged s t R_RCV_FLAGS (R_RCV_FLAGCNT 0) b
    (s.laneRuns l = false ∨ ln.inQ = [] → exec (.laneInput l) s = .next s) ∧
    (∀ (r : Rec) (copy : Bool) (rest : List (Rec × Bool)), s.laneRuns l = true → ln.inQ = (r, copy) :: rest →
      let f := r.flow
      let n := s.fLayout f
      let rate := sxt 16 (s.layoutWord n 0 / 2 ^ 16 % 2 ^ 16)
      let took : State := s.setLane l { ln with inQ := rest }
      let fits : Prop := n ≠ 0 ∧ n ≤ s.CHS_LAYOUT_COUNT ∧ s.layoutWord n 1 % 65536 = r.data.length
      (s.goodRec r = false →
        ∃ t, exec (.laneInput l) s = .next t ∧ t.rcl = took.rcl ∧ t.aln = s.aln ∧
          t.fctx f (0xE0 + 28) 4 = (s.fctx f (0xE0 + 28) 4 + 1) % 2 ^ 32) ∧
      (s.goodRec r = true →
      (s.tim.dt + 10 ^ 9 < r.mt →
        (copy = true → exec (.laneInput l) s = .next took) ∧
        (copy = false → ∃ t, exec (.laneInput l) s = .next t ∧ t.rcl = took.rcl ∧ t.fctx f (0xE0 + 44) 4 = (s.fctx f (0xE0 + 44) 4 + 1) % 2 ^ 32 ∧
          t.reg (R_ALN_DCNT (s.fDomain f) 15) = s.reg (R_ALN_DCNT (s.fDomain f) 15) + 1 ∧ flagged s t R_ALN_FLAGS (R_ALN_FLAGCNT 0) 6)) ∧
      (r.mt ≤ s.tim.dt + 10 ^ 9 →
        (¬fits → ∃ t, exec (.laneInput l) s = .next t ∧ t.rcl = took.rcl ∧ t.aln = s.aln ∧ lUp t 13 1 ∧ flag t 5) ∧
        (fits → rate < 1 ∨ 240 < rate → ∃ t, exec (.laneInput l) s = .next t ∧ t.rcl = took.rcl ∧ t.aln = s.aln ∧ lUp t 14 1 ∧ flag t 5) ∧
        (fits → 1 ≤ rate → rate ≤ 240 → slotsFor r.data.length + 1 ≤ took.freeSlots →
          let x := ln.stream f
          let taken (t : State) (inputs : Nat) : Prop :=
            exec (.laneInput l) s = .next t ∧ (t.lane l).inQ = rest ∧ lUp t 0 1 ∧ (copy = true → lUp t 1 1) ∧ (copy = false → lUp t 1 0) ∧
              (∀ m, m ≠ l.val → t.lane m = s.lane m) ∧ (∀ g, g ≠ f → (t.lane l).stream g = ln.stream g) ∧
              let y := (t.lane l).stream f
              y.started = true ∧ y.inputs = inputs ∧ y.layout = n ∧ (y.rate : Int) = rate ∧
                (y.hist.head?).map (fun v => (v.mt, v.data)) = some (r.mt, r.data)
          (x = {} → ∃ t, taken t 1 ∧ ((t.lane l).stream f).count = 1) ∧
          (∀ last old, x.started = true → x.hist = last :: old →
            let dlt : Int := (r.mt : Int) - last.mt
            (r.mt ≤ last.mt → slotsFor r.data.length + 1 ≤ (took.clearStream l f).freeSlots → ∃ t, taken t 1 ∧ ((t.lane l).stream f).count = 1 ∧ lUp t 7 1 ∧ flag t 3) ∧
            (roundDiv (dlt * rate) (10 ^ 9) = 1 → (dlt - roundDiv (10 ^ 9) rate).natAbs ≤ 1000 → n = x.layout → rate = x.rate → 1 ≤ s.tSpan l →
              ∃ t, taken t (x.inputs + 1) ∧ ((t.lane l).stream f).count = x.count + 1 ∧ lUp t 7 0)))))) ∧
    (ln.fade = none → exec (.fadeEnd l) s = .next s) ∧
    (∀ f, ln.fade = some f →
      let d := s.RCV_LCFG_DOMAIN l
      let ended := gridPt (s.rateOf d) (f.gs + s.RCV_LCFG_FADE_N l) + s.wMax d
      (s.tim.dt < ended → exec (.fadeEnd l) s = .next s) ∧
      (ended ≤ s.tim.dt →
        let done : Lane := { ln with bank := f.target, fade := none, pending := none }
        ∃ t, exec (.fadeEnd l) s = .next t ∧ (∀ m, m ≠ l.val → t.lane m = s.lane m) ∧ t.aln = s.aln ∧
          (ln.pending = none → t.lane l = done ∧ lUp t 16 1 ∧ flag t 0) ∧
          (∀ b start, ln.pending = some (b, start) →
            (b = f.target → t.lane l = done ∧ lUp t 16 2) ∧
            (b ≠ f.target → lUp t 16 1 ∧ flag t 0 ∧ 
              let first := match ln.latest with | some g => g + 1 | none => gridCeil (s.rateOf d) s.tim.dt
              t.lane l = { done with fade := some ⟨b, max first (gridCeil (s.rateOf d) start)⟩ }))))

/-- States of an Armature link (14_armature_links.md R292, R294, R295, R303): block lock leads from TRAINING to HELLO, a lost link or an ended
bring-up back to TRAINING, an elastic buffer error to FAULT, from which the link tries again; HELLOs are sent in HELLO and on a quiet UP
link; the preferred uplink takes over again. Clauses that no rule states word for word follow the model's readings, log entry 2. -/
def Obligations.LinkStates : Prop :=
  ∀ (s : State) (k : Fin 8),
    let l := s.link k
    let kUp (t : State) (c : Nat) : Prop := t.reg (R_ARM_LCNT k c) = s.reg (R_ARM_LCNT k c) + 1
    let flag (t : State) (b : Nat) : Prop := flagged s t R_ARM_FLAGS (R_ARM_FLAGCNT 0) b
    let left (st : Nat) : Link :=
      { l with
        state := st, blockLock := false, hellos := 0, acked := false, exch := none, lastSync := none, window := [], arriving := none }
    let others (t : State) : Prop := ∀ m, m ≠ k.val → t.link m = s.link m
    let hello : Bytes :=
      [2] ++ beBytes 2 s.ARM_ID_DEVICE_ID ++ [BitVec.ofNat 8 (if s.glb.side then 1 else 0), BitVec.ofNat 8 (if s.activeBit then 1 else 0),
        BitVec.ofNat 8 (s.ARM_LCFG_ROLE k), BitVec.ofNat 8 k, 1]
    let greets (c : Instr) : Prop :=
      ∃ t, exec c s = .next t ∧ t = { s with regs := t.regs, out := .cell k ((s.newCell 3 16383 hello).bytes 0) :: s.out } ∧ kUp t 1 ∧
        ∀ o, o ≠ R_ARM_LCNT k 1 → t.reg o = s.reg o
    (l.state = 1 → exec (.linkBlockLock k) s = .next (s.setLink k { l with state := 2, blockLock := true, hellos := 0, acked := false })) ∧
    (l.state ≠ 1 → exec (.linkBlockLock k) s = .next s) ∧
    (l.state = 2 → s.glb.silenced = false → greets (.helloSend k)) ∧ (l.state ≠ 2 → exec (.helloSend k) s = .next s) ∧
    (l.state = 3 → s.glb.silenced = false →
      (s.watches 5 k = [] → greets (.keepaliveHello k)) ∧
      ∃ t, exec (.keepaliveHello k) s = .next t ∧ t = { s with regs := t.regs, hst := t.hst, out := t.out } ∧ kUp t 1 ∧
        t.out.head? = some (.cell k ((s.newCell 3 16383 hello).bytes 0))) ∧
    (l.state ≠ 3 → exec (.keepaliveHello k) s = .next s) ∧
    (l.state = 1 ∨ l.state = 2 →
      ∃ t, exec (.linkBringupTimeout k) s = .next t ∧ t.link k = left 1 ∧ kUp t 9 ∧ (l.exch ≠ none → kUp t 11) ∧ others t ∧ t.out = s.out) ∧
    (l.state ≠ 1 → l.state ≠ 2 → exec (.linkBringupTimeout k) s = .next s) ∧
    (l.state = 4 → exec (.linkFaultRetry k) s = .next (s.setLink k { l with state := 1, cause := 0 })) ∧
    (l.state ≠ 4 → exec (.linkFaultRetry k) s = .next s) ∧
    (l.state = 2 →
      (∃ t, exec (.linkDown k) s = .next t ∧ t.link k = left 1 ∧ kUp t 9 ∧ flag t 1 ∧ others t) ∧
      ∃ t, exec (.elasticBufferError k) s = .next t ∧ t.link k = { left 4 with cause := 4 } ∧ kUp t 8 ∧ flag t 2 ∧ flag t 5 ∧ others t) ∧
    (l.state = 3 →
      let away (t : State) (st : Nat) : Prop :=
        (t.link k).state = st ∧ (t.link k).blockLock = false ∧ (t.link k).txq = [] ∧ (s.arm.active = some k.val → t.arm.active ≠ some k.val) ∧
          ∀ m, m ≠ k.val → (t.link m).state = (s.link m).state
      (∃ t, exec (.linkDown k) s = .next t ∧ away t 1 ∧ kUp t 9 ∧ flag t 1) ∧
      ∃ t, exec (.elasticBufferError k) s = .next t ∧ away t 4 ∧ (t.link k).cause = 4 ∧ kUp t 8 ∧ flag t 2 ∧ flag t 5) ∧
    (l.state ≠ 2 → l.state ≠ 3 → exec (.linkDown k) s = .next s ∧ exec (.elasticBufferError k) s = .next s) ∧
    (∀ p, s.prefUplink = some p → s.linkUp p = true → ∀ a, s.arm.active = some a →
      (s.ARM_CFG_REVERT ≠ 1 ∨ a = p → exec .uplinkRevert s = .next s) ∧
      (s.ARM_CFG_REVERT = 1 → a ≠ p →
        ∃ t, exec .uplinkRevert s = .next t ∧ t.arm.active = some p ∧ flag t 3 ∧ t.tim = { s.tim with arm := { s.tim.arm with good := 0, first := none } } ∧
          (s.ARM_CFG_UP_MODE ≠ 1 → (t.link a).txq = (s.link a).txq.filter (fun c => !(c.cls == 0 || c.cls == 1 || c.cls == 2 || c.cls == 5))) ∧
          ∀ m, m ≠ a → t.link m = s.link m))

/-- Cells (14_armature_links.md R293, R296, R297, R299, R306, R309, 09_alignment.md R207): a received cell is judged by its length, its
header, its trailer with the SEQ expected, and its SEQ, and acts in order; a HELLO is judged while the link is in HELLO; the device sends
status cells, starts time exchanges and sends the records of a domain upward. Clauses that no rule states word for word follow the model's
readings, log entry 2. -/
def Obligations.CellsReceivedAndOriginated : Prop :=
  ∀ (s : State), Calm s → Full s → s.live = true → s.eccBad = [] → s.arm.inbox = [] →
    (∀ (k : Fin 8) (bytes : Bytes) (ago : Nat),
      let l := s.link k
      let counts (t : State) (c : Nat) : Prop :=
        exec (.cellReceive k bytes ago) s = .next t ∧ t.reg (R_ARM_LCNT k c) = s.reg (R_ARM_LCNT k c) + 1 ∧ t.link k = l
      let failed (t : State) : Prop := counts t 2 ∧ flagged s t R_ARM_FLAGS (R_ARM_FLAGCNT 0) 6
      (s.linkOn k = false ∨ (l.state ≠ 2 ∧ l.state ≠ 3) → exec (.cellReceive k bytes ago) s = .next s) ∧
      (s.linkOn k = true → l.state = 2 ∨ l.state = 3 →
        (bytes.length < 20 → ∃ t, counts t 12) ∧
        (20 ≤ bytes.length → headerOk bytes = false → ∃ t, failed t) ∧
        (headerOk bytes = true → 20 ≤ bytes.length → bytes.length ≠ 20 + be2 bytes 12 → ∃ t, counts t 12)) ∧
      ∀ (c : TxCell) (seq : Nat), bytes = c.bytes seq → seq < 65536 → c.cls < 7 → c.dest < 16384 → 1 ≤ c.source → c.source < 16383 →
        c.hop < 256 → c.dom < 16 → c.flow < 8192 → c.prio < 8 → c.payload.length ≤ 240 → s.linkOn k = true →
        let heard (t : State) (lost : Nat) : Prop :=
          exec (.cellReceive k bytes ago) s = .next t ∧ t.reg (R_ARM_LCNT k 0) = s.reg (R_ARM_LCNT k 0) + 1 ∧
            t.reg (R_ARM_LCNT k 3) = s.reg (R_ARM_LCNT k 3) + BitVec.ofNat 32 lost
        (l.state = 3 → c.cls = 6 → c.dest = s.ARM_ID_DEVICE_ID → c.dest ≠ 0 → c.source ≠ c.dest → l.rxSeq < 65536 →
          let ahead := (seq + 65536 - l.rxSeq) % 65536
          let next : Link := { l with
            rxSeq := (seq + 1) % 65536, neighMode := byteAt c.payload 0 % 8, neighShed := byteAt c.payload 1 % 8,
            neighQuality := byteAt c.payload 2 % 16, neighActive := (byteAt c.payload 3).testBit 0 }
          let tells : Prop :=
            foldCrc c.source c.flow l.rxSeq (bytes.take (bytes.length - 4)) ≠ foldCrc c.source c.flow seq (bytes.take (bytes.length - 4))
          (ahead = 0 → ∃ t, heard t 0 ∧ t.link k = next) ∧
          (1 ≤ ahead → ahead ≤ 32767 → tells → ∃ t, heard t 1 ∧ t.link k = { next with arriving := none }) ∧
          (32767 < ahead → tells → ∃ t, counts t 4)) ∧
        (l.state = 2 → c.cls = 3 → c.payload.length = 8 → byteAt c.payload 0 = 2 →
          let id := be2 c.payload 1
          let role := byteAt c.payload 5
          (byteAt c.payload 7 ≠ 1 → ∃ t, heard t 0 ∧ (t.link k).state = 4 ∧ (t.link k).cause = 3 ∧ flagged s t R_ARM_FLAGS (R_ARM_FLAGCNT 0) 2) ∧
          (byteAt c.payload 7 = 1 → id = 0 ∨ 16382 < id → ∃ t, heard t 0 ∧ t.link k = { l with hellos := 0 }) ∧
          (byteAt c.payload 7 = 1 → 1 ≤ id → id ≤ 16382 →
            (rolesPair (s.ARM_LCFG_ROLE k) role = false →
              ∃ t, heard t 0 ∧ (t.link k).state = 4 ∧ (t.link k).cause = 1 ∧ flagged s t R_ARM_FLAGS (R_ARM_FLAGCNT 0) 2) ∧
            (rolesPair (s.ARM_LCFG_ROLE k) role = true →
              (id = s.ARM_ID_DEVICE_ID →
                ∃ t, heard t 0 ∧ (t.link k).state = 4 ∧ (t.link k).cause = 2 ∧ flagged s t R_ARM_FLAGS (R_ARM_FLAGCNT 0) 2) ∧
              (id ≠ s.ARM_ID_DEVICE_ID → l.hellos < 2 →
                ∃ t, heard t 0 ∧ t.link k =
                  { l with neighId := id, neighSide := byteAt c.payload 3 == 1, neighRole := role % 4, hellos := l.hellos + 1 }))))) ∧
    (∀ k : Fin 8,
      let l := s.link k
      let n := (l.exchNo + 1) % 65536
      let cell := s.newCell 4 l.neighId
        ([(0 : Byte)] ++ beBytes 2 n ++ List.replicate 8 0 ++ beBytes 4 s.boundWord ++ beBytes 1 s.tim.quality ++ beBytes 1 s.tim.step.toNat)
      (s.ARM_LCFG_ROLE k = 1 → s.timeOk k = true →
        exec (.timeExchangeStart k) s = .next (s.setLink k { l with exchNo := n, txq := l.txq ++ [cell] })) ∧
      (s.ARM_LCFG_ROLE k ≠ 1 ∨ s.timeOk k = false → exec (.timeExchangeStart k) s = .next s)) ∧
    (∃ t, exec .statusCellSend s = .next t ∧ t = { s with arm := t.arm } ∧ t.arm = { s.arm with links := t.arm.links } ∧
      ∀ k, t.link k =
        if k < 8 ∧ s.linkUp k = true then
          { s.link k with txq := (s.link k).txq ++ [s.newCell 6 (s.link k).neighId
              (beBytes 1 s.glb.mode.code ++ beBytes 1 s.glb.shed ++ beBytes 1 s.tim.quality ++ beBytes 1 (if s.activeBit then 1 else 0) ++
                beBytes 4 s.boundWord ++ (List.range 16).flatMap fun d => beBytes 8 (if s.ALN_DCFG_STREAM_UP d = 1 then dev64 (s.dom d).cursor else 0))] }
        else s.link k) ∧
    (∀ d : Fin 16,
      ((∀ f ∈ s.arm.frags, f.dom ≠ d.val) → exec (.fragmentSend d) s = .next s) ∧
      (∀ f a, s.arm.frags.filter (fun f => f.dom == d.val) = [f] → s.outOn = true → s.ARM_CFG_UP_MODE ≠ 1 → s.arm.active = some a → s.linkUp a = true →
        f.body.data.length ≤ 224 →
        let r := f.body
        let marks := (if r.settle then 16 else 0) + (if r.resampled then 8 else 0) + (if r.noisy then 4 else 0) + (if r.lost then 2 else 0) +
          (if r.step = s.tim.step then 0 else 1)
        let payload := beBytes 8 (dev64 f.t) ++ beBytes 2 (r.flow % 8192) ++ beBytes 2 r.data.length ++ [0, 0] ++ beBytes 2 marks ++ r.data
        ∃ t, exec (.fragmentSend d) s = .next t ∧ t.arm.frags = s.arm.frags.filter (fun f => f.dom != d.val) ∧ (∀ m, m ≠ a → t.link m = s.link m) ∧
          t.link a = { s.link a with txq := (s.link a).txq ++
            [{ s.newCell 0 (s.link a).neighId payload with dom := d, late := f.late, resend := f.resend }] } ∧ t.regs = s.regs))

/-- The peer link (16_peer_bridge_twin.md R329, R330, R337, R343, R349): its lanes and its going down, the packets waiting leave in their
order, heartbeats are sent, judged and missed. The places of a heartbeat's contents are the model's (log entry 96). Clauses that no rule
states word for word follow the model's readings, log entries 2, 92 and 96. -/
def Obligations.PeerLinkAndHeartbeats : Prop :=
  ∀ (s : State), s.pbr.waitBus = [] →
    let pUp (t : State) (c : Nat) : Prop := t.reg (R_PBR_GCNT c) = s.reg (R_PBR_GCNT c) + 1
    let flag (t : State) (b : Nat) : Prop := flagged s t R_PBR_FLAGS (R_PBR_FLAGCNT 0) b
    (∀ lane : Fin 2,
      let on : Bool := s.pbr.lanes / 2 ^ lane.val % 2 == 1
      (s.peerRuns = false ∨ on = false → exec (.peerLaneLoss lane) s = .next s ∧ exec (.peerElasticBufferError lane) s = .next s) ∧
      (s.peerRuns = true → on = true →
        (s.pbr.lanes = 3 →
          ∃ t, exec (.peerLaneLoss lane) s = .next t ∧ t.pbr = { s.pbr with lanes := 3 - 2 ^ lane.val } ∧
            (s.pbr.up = true → flag t 1) ∧ (s.pbr.up = false → t.regs = s.regs)) ∧
        (s.pbr.lanes ≠ 3 → ∃ t, exec (.peerLaneLoss lane) s = .next t ∧ PeerFell s t) ∧
        ∃ t, exec (.peerElasticBufferError lane) s = .next t ∧ PeerFell s t ∧ pUp t 11) ∧
      (s.peerRuns = true → on = false →
        (s.pbr.lanes ≠ 0 → ∃ t, exec (.peerLaneRetrain lane) s = .next t ∧ onlyRegs s t [R_PBR_GCNT 12] ∧ pUp t 12) ∧
        exec (.peerLaneBlockLock lane) s = .next { s with pbr := { s.pbr with lanes := s.pbr.lanes + 2 ^ lane.val } }) ∧
      (s.peerRuns = false ∨ on = true → exec (.peerLaneRetrain lane) s = .next s ∧ exec (.peerLaneBlockLock lane) s = .next s)) ∧
    (s.pbr.up = true → ∃ t, exec .peerLinkDown s = .next t ∧ PeerFell s t) ∧
    (s.pbr.up = false → exec .peerLinkDown s = .next s) ∧
    (s.peerRuns = true → s.pbr.lanes ≠ 0 → s.eccBad = [] → s.glb.silenced = false →
      let leaves (p : Packet) (b : Pbr) : Prop :=
        let seq := if s.pbr.up then s.pbr.txSeq.at 0 p.typ else 0
        ∃ t, exec .peerPacketSend s = .next t ∧ t.out.head? = some (.packet (wire s.ARM_ID_DEVICE_ID p seq)) ∧ pUp t 1 ∧
          (t.pbr.hbQ, t.pbr.mirQ, t.pbr.respQ, t.pbr.reqQ, t.pbr.syncQ) = (b.hbQ, b.mirQ, b.respQ, b.reqQ, b.syncQ) ∧
          t.pbr.txSeq = (if s.pbr.up then s.pbr.txSeq.put 0 p.typ ((seq + 1) % 65536) else s.pbr.txSeq)
      (∀ p r, s.pbr.hbQ = p :: r → leaves p { s.pbr with hbQ := r }) ∧
      (s.pbr.hbQ = [] → s.pbr.up = true →
        (∀ p r, s.pbr.mirQ = p :: r → leaves p { s.pbr with mirQ := r }) ∧
        (∀ p r, s.pbr.mirQ = [] → s.pbr.respQ = p :: r → leaves p { s.pbr with respQ := r }) ∧
        (∀ p r, s.pbr.mirQ = [] → s.pbr.respQ = [] → s.pbr.reqQ = p :: r → leaves p { s.pbr with reqQ := r }) ∧
        (∀ p r, s.pbr.mirQ = [] → s.pbr.respQ = [] → s.pbr.reqQ = [] → s.pbr.syncQ = p :: r → leaves p { s.pbr with syncQ := r }))) ∧
    (s.peerRuns = true → s.pbr.hbQ = [] → s.pbr.up = false → exec .peerPacketSend s = .next s) ∧
    (s.peerRuns = false → exec .heartbeatSend s = .next s ∧ exec .peerPacketSend s = .next s ∧ exec .heartbeatMiss s = .next s) ∧
    (s.peerRuns = true →
      let beat : Packet := { typ := 4, epoch := s.glb.epoch.toNat, payload := s.heartbeat false false }
      ∃ t, exec .heartbeatSend s = .next t ∧ t = { s with pbr := t.pbr } ∧ t.pbr.hbQ = s.pbr.hbQ ++ [beat] ∧
        t.pbr.hbCount = (s.pbr.hbCount + 1) % 2 ^ 32 ∧ (s.pbr.up = false → t.pbr.mirQ = s.pbr.mirQ) ∧
        (s.pbr.up = true → ∀ w < 64, ∃ p ∈ t.pbr.mirQ, p.typ = 3 ∧ p.key = w ∧ p.payload = beBytes 8 (s.mirrorWord w))) ∧
    (s.peerRuns = true →
      ∃ t, exec .heartbeatMiss s = .next t ∧ pUp t 10 ∧ t.glb = s.glb ∧
        t.pbr = { s.pbr with
          missed := min 255 (s.pbr.missed + 1), good := 0
          claimFor := if 7 ≤ s.pbr.missed ∧ s.glb.mode = .standby ∧ s.PBR_CFG_TWIN = 1 then 2 else s.pbr.claimFor } ∧
        (s.pbr.missed = 7 → flag t 2)) ∧
    (∀ (p : Packet) (seq : Nat), p.typ = 4 → Fits p seq → s.peerRuns = true → s.pbr.lanes ≠ 0 → (s.pbr.up = true → seq = s.pbr.rxSeq.at 0 4) →
      let id := be2 p.payload 6
      let bit (n : Nat) : Bool := (byteAt p.payload 1).testBit n
      let bytes := wire id p seq
      (id ≠ s.ARM_ID_DEVICE_ID →
        ∃ t, exec (.heartbeatReceive bytes) s = .next t ∧ t.pbr.cause = 1 ∧ t.pbr.good = 0 ∧ t.pbr.missed = s.pbr.missed ∧ pUp t 0) ∧
      (id = s.ARM_ID_DEVICE_ID → bit 7 = s.glb.side →
        ∃ t, exec (.heartbeatReceive bytes) s = .next t ∧ t.pbr.cause = 2 ∧ t.pbr.good = 0 ∧ t.pbr.missed = s.pbr.missed ∧ pUp t 0) ∧
      (id = s.ARM_ID_DEVICE_ID → bit 7 ≠ s.glb.side → s.glb.active = false →
        ∃ t, exec (.heartbeatReceive bytes) s = .next t ∧ t.pbr.cause = 0 ∧ t.pbr.missed = 0 ∧ t.pbr.good = min 3 (s.pbr.good + 1) ∧
          t.pbr.peerMode = byteAt p.payload 0 % 8 ∧ t.pbr.peerShed = byteAt p.payload 0 / 16 % 8 ∧ t.pbr.peerActive = bit 0 ∧
          t.pbr.peerSync = byteAt p.payload 1 / 16 % 4 ∧ t.pbr.peerEpoch = be2 p.payload 2 ∧
          t.pbr.peerVer = beNat ((p.payload.drop 8).take 4) ∧ t.pbr.up = (s.pbr.up || decide (2 ≤ s.pbr.good)) ∧ t.glb = s.glb ∧
          (bit 1 = true → s.glb.mode = .standby → s.PBR_CFG_TWIN = 1 → t.pbr.claimFor = 2)) ∧
      (id = s.ARM_ID_DEVICE_ID → bit 7 ≠ s.glb.side → s.glb.active = true → bit 0 = true → s.glb.side = true →
        ∃ t, exec (.heartbeatReceive bytes) s = .next t ∧ t.glb = { s.glb with active := false } ∧ t.pbr.silentAt = some s.handoverAt ∧
          pUp t 13 ∧ flag t 6))

/-- Twin operation (16_peer_bridge_twin.md R344, R345, R347, R348): the pins are sensed, a device takes ACTIVE_CLAIM or goes silent, a standby
takes over when it is due, and the active side hands over at a boundary. Clauses that no rule states word for word follow the model's
readings, log entries 2, 94 and 95. -/
def Obligations.TwinTakeoverAndHandover : Prop :=
  ∀ (s : State),
    let flag (t : State) (b : Nat) : Prop := flagged s t R_PBR_FLAGS (R_PBR_FLAGCNT 0) b
    (∀ held, exec (.activeClaimChange held) s = .next { s with pbr := { s.pbr with claimLine := held } }) ∧
    (exec .peerFaultRelease s = .next { s with pbr := { s.pbr with faultLine := false } }) ∧
    (s.pbr.faultDriven = true ∨ s.pbr.faultLine = true ∨ s.glb.mode = .reset →
      exec .peerFaultAssert s = .next { s with pbr := { s.pbr with faultLine := true } }) ∧
    (s.pbr.faultDriven = false → s.pbr.faultLine = false → s.glb.mode ≠ .reset →
      ∃ t, exec .peerFaultAssert s = .next t ∧ flag t 3 ∧ t.glb = s.glb ∧
        t.pbr = { s.pbr with
          faultLine := true, claimFor := if s.glb.mode = .standby ∧ s.PBR_CFG_TWIN = 1 then 2 else s.pbr.claimFor }) ∧
    (s.pbr.claimFor = 1 → s.glb.mode = .run ∨ s.glb.mode = .shed →
      (s.pbr.claimLine = true →
        exec .claimWaitExpiry s = .next { s with pbr := { s.pbr with claimFor := 0, silentAt := some s.handoverAt } }) ∧
      (s.pbr.claimLine = false →
        ∃ t, exec .claimWaitExpiry s = .next t ∧ t.glb = { s.glb with active := true } ∧ t.pbr = { s.pbr with claimFor := 0 } ∧
          (s.glb.active = false → Output.claimPin true ∈ t.out))) ∧
    (let due : Prop := s.PBR_CFG_TWIN = 1 ∧
        (s.pbr.claimFor = 2 ∨ (s.pbr.faultLine = true ∧ s.pbr.faultDriven = false) ∨ 8 ≤ s.pbr.missed)
     s.glb.mode = .standby →
      (due → s.pbr.claimLine = false → s.pwr.required = 0 →
        ∃ t, exec .claimWaitExpiry s = .next t ∧ t.glb.mode = .run ∧ t.glb.prevMode = .standby ∧ t.glb.active = true ∧ t.glb.epoch = s.glb.epoch ∧
          t.pbr.sync = 0 ∧ t.pbr.claimFor = 0 ∧ flag t 4 ∧ (s.pbr.sync ≠ 3 → flag t 5) ∧ (∀ f ∈ t.hst.flights, f.op = 5 → f.sent = true)) ∧
      (¬due ∨ s.pbr.claimLine = true → exec .claimWaitExpiry s = .next s)) ∧
    (∀ b, s.pbr.silentAt = some b →
      (s.tim.dt < b → (∀ f ∈ s.hst.flights, f.op ≠ 4) → s.pbr.handReq = none → exec .handoverBoundary s = .next s) ∧
      (b ≤ s.tim.dt →
        (s.glb.mode = .run → ∃ t, exec .handoverBoundary s = .next t ∧ t.glb.mode = .standby ∧ t.glb.active = false ∧ t.glb.epoch = s.glb.epoch ∧
          t.pbr.standbyAt = s.tim.ticks ∧ t.pbr.silentAt = none) ∧
        (s.glb.mode = .shed → exec .handoverBoundary s = .next { s with pbr := { s.pbr with silentAt := some s.handoverAt } }))) ∧
    (s.pbr.silentAt = none → (∀ f ∈ s.hst.flights, f.op ≠ 4) →
      (s.pbr.handReq = none → exec .handoverBoundary s = .next s) ∧
      (∀ b, s.pbr.handReq = some b →
        (s.tim.dt < b → exec .handoverBoundary s = .next s) ∧
        (b ≤ s.tim.dt →
          (s.glb.mode ≠ .run → exec .handoverBoundary s = .next { s with pbr := { s.pbr with handReq := none } }) ∧
          (s.glb.mode = .run →
            ∃ t, exec .handoverBoundary s = .next t ∧ t.glb.mode = .standby ∧ t.glb.active = false ∧ t.pbr.handReq = none ∧
              (s.PBR_CFG_TWIN = 1 → s.hasPeer = true → ∃ p ∈ t.pbr.hbQ, p.typ = 4 ∧ (byteAt p.payload 1).testBit 1 = true))))) ∧
    (∀ f, s.hst.flights = [f] → f.op = 5 → f.sent = false → s.hst.held = [] → s.hst.fetched = [] → s.HST_CTL_KR_EN = 1 → s.unconsumed < 512 →
      f.cmd.src = none →
      (s.glb.mode = .standby → s.pbr.claimLine = true → s.pbr.claimFor ≠ 2 →
        ∃ t, exec .takeoverTimeout s = .next t ∧ Answered s t f.cmd 6 0 ∧ t.glb = s.glb ∧ t.pbr = s.pbr) ∧
      (s.glb.mode ≠ .standby ∨ s.pbr.claimLine = false ∨ s.pbr.claimFor = 2 → exec .takeoverTimeout s = .next s))

/-- The bridge, its locks, the mirrors and the copy to a standby (16_peer_bridge_twin.md R333 to R336, R338 to R341, R349, 09_alignment.md
R204, 13_egress.md R275): what requests and responses of the partner do, how an access without a response ends, a lock's grant, expiry and
retry, and the words and flow states the partner sends. Clauses that no rule states word for word follow the model's readings, log entries
92, 93, 97 and 146. -/
def Obligations.BridgeLocksAndMirrors : Prop :=
  ∀ (s : State) (p : Packet) (seq : Nat) (bytes : Bytes),
    let pUp (t : State) (c : Nat) : Prop := t.reg (R_PBR_GCNT c) = s.reg (R_PBR_GCNT c) + 1
    let flag (t : State) (b : Nat) : Prop := flagged s t R_PBR_FLAGS (R_PBR_FLAGCNT 0) b
    -- requests
    (Arrives s 1 p seq bytes → p.payload = [] → p.size = 2 → sumList (s.pbr.respQ.map Packet.len) + 24 ≤ 16384 →
      let responds (t : State) (status : Nat) (payload : Bytes) : Prop :=
        exec (.bridgeRequestReceive bytes) s = .next t ∧
          t.pbr = { taken s 1 seq with respQ := s.pbr.respQ ++ [responseTo s p status payload] } ∧ (status ≠ 0 → pUp t 14)
      (p.epoch ≠ s.glb.epoch.toNat → ∃ t, responds t 5 [0, 0, 0, 0]) ∧
      (p.epoch = s.glb.epoch.toNat →
        (p.addr % 4 ≠ 0 → ∃ t, responds t 0x0D [0, 0, 0, 0]) ∧
        (p.addr % 4 = 0 → p.addr / 0x10000 = 1 → s.absentAt p.addr = false →
          (s.granted 1 1 16 (p.addr % 0x10000) 4 = false → ∃ t, responds t 3 (leBytes 4 0x0BAD0ACC)) ∧
          (s.granted 1 1 16 (p.addr % 0x10000) 4 = true → (regRow p.addr).isSome = true → ∃ t, responds t 0 (leBytes 4 (s.readWord 1 p.addr)))))) ∧
    (Arrives s 0 p seq bytes → p.size = 2 →
      (p.epoch ≠ s.glb.epoch.toNat →
        ∃ t, exec (.bridgeRequestReceive bytes) s = .next t ∧ t.pbr = taken s 0 seq ∧ pUp t 14 ∧ t.tim = s.tim ∧ t.snt = s.snt) ∧
      (p.epoch = s.glb.epoch.toNat → (∀ a, s.snt.alive1 = some a → p.status = (a + 1) % 256) → p.addr = R_TIM_SNAP → byteAt p.payload 0 = 1 →
        s.granted 1 1 17 (R_TIM_SNAP % 0x10000) 4 = true → s.glb.mode ≠ .halt →
        ∃ t, exec (.bridgeRequestReceive bytes) s = .next t ∧ t.pbr = taken s 0 seq ∧ t.snt.alive1 = some p.status ∧
          (t.reg R_TIM_SNAPSEC).toNat = s.tim.dt / 10 ^ 9 % 2 ^ 32)) ∧
    (Arrives s 1 p seq bytes → p.payload = [] → p.size = 2 → p.epoch ≠ s.glb.epoch.toNat → 16384 < sumList (s.pbr.respQ.map Packet.len) + 24 →
      ∃ t, exec (.bridgeRequestReceive bytes) s = .next t ∧ t.pbr = taken s 1 seq ∧ pUp t 14) ∧
    -- responses
    (∀ n, Arrives s 2 p seq bytes → s.pbr.nears = [n] → n.left = true → n.lock = false → n.poll = false → n.tag = p.tag → s.glb.silenced = false →
      let ends (t : State) : Prop := exec (.bridgeResponse bytes) s = .next t ∧ t.pbr = { taken s 2 seq with nears := [] }
      (p.status = 0 → n.write = false → ∃ t, ends t ∧ t.out.head? = some (.readData n.master p.payload)) ∧
      (p.status = 0 → n.write = true → ∃ t, ends t) ∧
      (p.status ≠ 0 → p.status ≠ 3 → ∃ t, ends t ∧ flag t 8 ∧ (n.write = false → t.out.head? = some (.readData n.master (List.replicate n.len 0))))) ∧
    (Arrives s 2 p seq bytes → (∀ n ∈ s.pbr.nears, n.tag ≠ p.tag) →
      ∃ t, exec (.bridgeResponse bytes) s = .next t ∧ t.pbr = taken s 2 seq ∧ pUp t 6) ∧
    (∀ (n : Near) (tag : BitVec 8), s.pbr.nears = [n] → n.left = true → n.tag = tag.toNat → s.pbr.waitBus = [] → s.aln.outbox = [] →
      (n.lock = false → n.poll = false →
        ∃ t, exec (.bridgeTimeout tag) s = .next t ∧ t.pbr = { s.pbr with nears := [] } ∧ pUp t 5 ∧ flag t 8 ∧
          (n.write = false → s.glb.silenced = false → t.out.head? = some (.readData n.master (List.replicate n.len 0)))) ∧
      (n.lock = false → n.poll = true → ∃ t, exec (.bridgeTimeout tag) s = .next t ∧ t.pbr = { s.pbr with nears := [] } ∧ pUp t 5 ∧ flag t 8)) ∧
    -- locks
    (∀ n, Arrives s 2 p seq bytes → s.pbr.nears = [n] → n.left = true → n.lock = true → n.tag = p.tag →
      (p.status = 0 → ∃ t, exec (.lockGrant bytes) s = .next t ∧ t.PBR_LOCK_STATE = 2 ∧ t.pbr = { taken s 2 seq with nears := [] }) ∧
      (p.status = 0x0C → ∃ t, exec (.lockGrant bytes) s = .next t ∧ t.PBR_LOCK_STATE = 3 ∧ t.pbr = { taken s 2 seq with nears := [] } ∧
        pUp t 8 ∧ flag t 9)) ∧
    (Arrives s 6 p seq bytes → sumList (s.pbr.respQ.map Packet.len) + 20 ≤ 16384 →
      let block := p.addr / 0x10000
      let responds (t : State) (status : Nat) (far : Option Nat) : Prop :=
        exec (.lockRequestReceive bytes) s = .next t ∧
          t.pbr = { taken s 6 seq with farLock := far, respQ := s.pbr.respQ ++ [responseTo s p status []] }
      (p.lockEnd = true → s.pbr.farLock = some block →
        ∃ t, exec (.lockRequestReceive bytes) s = .next t ∧ t.pbr = { taken s 6 seq with farLock := none }) ∧
      (p.lockEnd = false →
        (p.epoch ≠ s.glb.epoch.toNat → ∃ t, responds t 5 s.pbr.farLock) ∧
        (p.epoch = s.glb.epoch.toNat →
          (s.PBR_LOCK_STATE = 1 → s.glb.side = false → ∃ t, responds t 0x0C s.pbr.farLock) ∧
          (s.PBR_LOCK_STATE ≠ 1 ∨ s.glb.side = true → ∃ t, responds t 0 (some block))))) ∧
    (s.pbr.waitBus = [] → s.aln.outbox = [] →
      (∀ b, s.pbr.farLock = some b →
        ∃ t, exec (.lockExpiry true) s = .next t ∧ t.pbr = { s.pbr with farLock := none } ∧ pUp t 9 ∧ flag t 10) ∧
      (s.PBR_LOCK_STATE = 2 → ∃ t, exec (.lockExpiry false) s = .next t ∧ t.PBR_LOCK_STATE = 4 ∧ t.pbr = s.pbr ∧ pUp t 9 ∧ flag t 10)) ∧
    (let tag := s.pbr.nextTag
     (s.PBR_LOCK_STATE = 3 → s.requestRoom false 0 = true →
      let a := s.PBR_LOCK_BLOCK * 0x10000
      ∃ t, exec .lockBackoffExpiry s = .next t ∧ t.PBR_LOCK_STATE = 1 ∧ t.pbr = { s.pbr with
        nextTag := (tag + 1) % 256, nears := s.pbr.nears ++ [⟨tag, 0, a, 0, false, false, true, false⟩]
        reqQ := s.pbr.reqQ ++ [{ typ := 6, tag := tag, origin := s.pbr.lockMaster.getD 0, addr := a, epoch := s.pbr.peerEpoch }] }) ∧
     (s.PBR_LOCK_STATE ≠ 3 ∨ s.requestRoom false 0 = false → exec .lockBackoffExpiry s = .next s) ∧
     (s.live = false ∨ s.hasPeer = false ∨ s.pbr.up = false ∨ s.requestRoom false 0 = false → exec .farIntPoll s = .next s) ∧
     (s.live = true → s.hasPeer = true → s.pbr.up = true → s.requestRoom false 0 = true →
      exec .farIntPoll s = .next { s with pbr := { s.pbr with
        nextTag := (tag + 1) % 256, nears := s.pbr.nears ++ [⟨tag, 0, R_GLB_INTSUM, 4, false, true, false, false⟩]
        reqQ := s.pbr.reqQ ++ [{ typ := 1, poll := true, size := 2, tag := tag, addr := R_GLB_INTSUM, epoch := s.pbr.peerEpoch }] } })) ∧
    -- mirrors and the copy
    (s.peerRuns = true → s.pbr.up = true →
      ∃ t, exec .mirrorSend s = .next t ∧ t = { s with pbr := t.pbr } ∧
        ∀ w < 64, t.pbr.mirSent.at 0 w = s.mirrorWord w ∧
          (s.pbr.mirSent.at 0 w ≠ s.mirrorWord w → ∃ x ∈ t.pbr.mirQ, x.typ = 3 ∧ x.key = w ∧ x.payload = beBytes 8 (s.mirrorWord w))) ∧
    (Arrives s 3 p seq bytes → 16 ≤ p.key → p.key < 64 →
      ∃ t, exec (.mirrorReceive bytes) s = .next t ∧ t.pbr = taken s 3 seq ∧ t.aln = s.aln ∧
        (t.reg (R_PBR_MIRFAR p.key 0)).toNat = beNat p.payload % 2 ^ 32 ∧ (t.reg (R_PBR_MIRFAR p.key 1)).toNat = beNat p.payload / 2 ^ 32) ∧
    (Arrives s 3 p seq bytes → p.key < 16 → s.glb.mode = .standby → (s.dom p.key).started = true → (s.dom p.key).pend = [] →
      let v := beNat p.payload
      let c := v / 2 ^ 32 * 10 ^ 9 + v % 2 ^ 30
      gridPt (s.rateOf p.key) (gridCeil (s.rateOf p.key) c) = c →
      ∃ t, exec (.mirrorReceive bytes) s = .next t ∧ (t.dom p.key).cursor = max (s.dom p.key).cursor c) ∧
    (Arrives s 5 p seq bytes → s.glb.mode = .standby →
      (p.addr = 0 → ∃ t, exec (.syncReceive bytes) s = .next t ∧ t.pbr = { taken s 5 seq with
        sync := if s.pbr.sync = 1 then 2 else s.pbr.sync, syncParts := some (p.key, 1, p.payload) } ∧ t.flw = s.flw) ∧
      (∀ bs, p.addr = 2 → s.pbr.syncParts = some (p.key, 2, bs) → bs.length = 128 → s.fUsed p.key = true →
        ∃ t, exec (.syncReceive bytes) s = .next t ∧ t.pbr.syncParts = none ∧ p.key ∈ t.pbr.copied ∧ t.fState p.key = byteAt bs 0 % 8 ∧
          t.fLearn p.key = be2 bs 1 ∧ t.fLq p.key = beNat ((bs.drop 4).take 4) ∧
          ∀ k < 32, t.bin p.key k = beNat (((bs ++ p.payload).drop (8 + 4 * k)).take 4)) ∧
      (p.addr = 3 → p.key < 256 →
        ∃ t, exec (.syncReceive bytes) s = .next t ∧ t.pbr = { taken s 5 seq with copied := t.pbr.copied } ∧ 8192 + p.key ∈ t.pbr.copied ∧
          (t.reg (R_EGR_SSEQ p.key)).toNat =
            (beNat (p.payload.take 4) + ((s.outStream p.key).rels.filter (fun u => decide (ofDev64 (beNat ((p.payload.drop 4).take 8)) < u))).length) % 2 ^ 32)) ∧
    (s.glb.active = true → s.pbr.up = true → s.pbr.peerMode = 4 →
      ∃ t, exec .streamRecordSend s = .next t ∧ t = { s with pbr := { s.pbr with syncQ := t.pbr.syncQ } } ∧
        t.pbr.syncQ = s.pbr.syncQ ++ (s.streamsOf 0).map fun i =>
          { typ := 5, epoch := s.glb.epoch.toNat, key := i, addr := 3
            payload := beBytes 4 (s.reg (R_EGR_SSEQ i)).toNat ++ beBytes 8 (dev64 ((s.outStream i).rels.headD 0)) }) ∧
    (s.glb.mode = .standby → s.pbr.up = true → s.pbr.sync = 2 → (∀ f ∈ s.flowsUsed, f ∈ s.pbr.copied) → (∀ i ∈ s.streamsOf 0, 8192 + i ∈ s.pbr.copied) →
      (∀ d < 16, s.ALN_DCFG_ENABLE d = 1 → s.wMax d + 10 ^ 9 ≤ 4 * (s.tim.ticks - s.pbr.standbyAt)) → 10 ^ 9 ≤ 4 * (s.tim.ticks - s.pbr.standbyAt) →
      ∃ t, exec .syncComplete s = .next t ∧ t.pbr = { s.pbr with sync := 3 } ∧ flag t 11)

/-- The analysis unit (11_analysis_triggers.md R230, R233, R234, R245 to R250): the oldest set of its queue is analysed; a watched signal
takes its sample or holds its last value, a condition counts towards PERSIST and CLEAR_N and fires once, and the alarm requests follow the
conditions. The clauses of signals and conditions take one signal without bands, and one condition on the number of missing members.
Clauses that no rule states word for word follow the model's readings, log entries 2 and 43. -/
def Obligations.AnalysisOfSets : Prop :=
  ∀ (s : State),
    (s.ana.queue = [] ∨ s.live = false → exec .analyseSet s = .next s) ∧
    (∀ (x : RelSet) (rest : List RelSet), s.ana.queue = x :: rest → s.live = true → s.eccBad = [] →
      let aUp (t : State) (c n : Nat) : Prop := t.reg (R_ANA_GCNT c) = s.reg (R_ANA_GCNT c) + BitVec.ofNat 32 n
      let flag (t : State) (b : Nat) : Prop := flagged s t R_ANA_FLAGS (R_ANA_FLAGCNT 0) b
      let signals := s.signals.filter (fun n => s.ANA_SIG0_DOMAIN n == x.dom)
      let conds := s.conditions.filter (fun k => s.ANA_TC0_DOMAIN k == x.dom)
      (∃ t, exec .analyseSet s = .next t ∧ t.ana.queue = rest ∧ aUp t 0 1 ∧ t.ana.prev.at none x.dom = some x.t ∧
        (s.outOn = true → t.ana.unseen = false) ∧ ∀ p < 4, t.ana.request.testBit p = decide ((s.reg (R_ANA_ALARMMAP p)).toNat &&& t.tcState ≠ 0)) ∧
      (s.ANA_CFG_ISL_EN ≠ 1 ∨ s.ANA_CFG_ISL_DOMAIN ≠ x.dom →
        (∀ n, signals = [n] → s.ANA_SIG0_BANDS n = 0 → s.ANA_SIG0_KIND n ≠ 1 → s.ana.prev.at none x.dom = none →
          let e := s.sig n
          (∀ v, s.anaSample x n = some v →
            ∃ t, exec .analyseSet s = .next t ∧
              t.sig n = { e with last := some v, held := 0, sample := some v, invalid := false, setTime := x.t } ∧ aUp t 6 0) ∧
          (s.anaSample x n = none →
            let missed : SigEst := { e with sample := none, invalid := true, setTime := x.t }
            (e.last = none → ∃ t, exec .analyseSet s = .next t ∧ t.sig n = missed ∧ aUp t 6 1 ∧ aUp t 2 0) ∧
            (∀ v, e.last = some v →
              (e.held + 1 ≤ s.ANA_SIG0_GAP_MAX n →
                ∃ t, exec .analyseSet s = .next t ∧ t.sig n = { missed with held := e.held + 1 } ∧ aUp t 6 1 ∧ aUp t 2 1 ∧ aUp t 3 0) ∧
              (s.ANA_SIG0_GAP_MAX n < e.held + 1 →
                ∃ t, exec .analyseSet s = .next t ∧ t.sig n = { missed with last := none, held := 0, bands := [] } ∧ aUp t 6 1 ∧ aUp t 2 1 ∧
                  aUp t 3 1 ∧ flag t 4)))) ∧
        (∀ k, signals = [] → conds = [k] → s.ANA_TC0_SRC k = 7 → s.ANA_TC1_AND_EN k = 0 →
          let c := s.tc k
          let holds := tcHolds (s.ANA_TC0_CMP k) (fNat x.missing) (s.reg (R_ANA_TC2 k)).toNat (s.reg (R_ANA_TC3 k)).toNat
          let becomes (d : TrigCond) : Prop :=
            ∃ t, exec .analyseSet s = .next t ∧ t.tc k = d ∧ t.reg (R_ANA_TCCNT k) = s.reg (R_ANA_TCCNT k) ∧ t.cap.newest = s.cap.newest
          (holds = true →
            (c.on = false → s.ANA_TC0_PERSIST k ≤ c.persist + 1 →
              ∃ t, exec .analyseSet s = .next t ∧ t.tc k = { on := true, persist := 0, clear := 0 } ∧
                t.reg (R_ANA_TCCNT k) = s.reg (R_ANA_TCCNT k) + 1 ∧ flag t 0 ∧ t.reg R_ANA_TCFIRED = BitVec.ofNat 32 (2 ^ k) ∧
                t.reg R_ANA_TCSETSEC = BitVec.ofNat 32 (x.t / 10 ^ 9) ∧ t.reg R_ANA_TCSETNS = BitVec.ofNat 32 (x.t % 10 ^ 9) ∧
                t.cap.newest = (s.cap.newest + 1) % 2 ^ 32) ∧
            (c.on = false → c.persist + 1 < s.ANA_TC0_PERSIST k → becomes { c with persist := c.persist + 1 }) ∧
            (c.on = true → becomes { c with clear := 0 })) ∧
          (holds = false →
            (c.on = false → becomes { c with persist := 0 }) ∧
            (c.on = true → s.ANA_TC1_CLEAR_N k ≤ c.clear + 1 → becomes { on := false, persist := 0, clear := 0 }) ∧
            (c.on = true → c.clear + 1 < s.ANA_TC1_CLEAR_N k → becomes { c with clear := c.clear + 1 })))))

/-- Event capture and its summaries (12_event_capture.md R256 to R260, R262, R264, R266, R267), and the scrubber (18_protection_integrity.md
R375, R376): a group writes the oldest set it has staged, opens and closes records, counts triggers it misses; records become FINAL;
summaries are flushed where M6 may write the flash; a word read by a scrubber is counted as found. Clauses that no rule states word for
word follow the model's readings, log entries 2, 46, 47, 48, 123 and 147. -/
def Obligations.CaptureSummariesAndScrubber : Prop :=
  ∀ (s : State),
    (∀ g : Fin 16,
      let y := s.group g
      let c := s.capCfg g
      let gUp (t : State) (n : Nat) : Prop := t.reg (R_CAP_GCNT g n) = s.reg (R_CAP_GCNT g n) + 1
      let flag (t : State) (b : Nat) : Prop := flagged s t R_CAP_FLAGS (R_CAP_FLAGCNT 0) b
      (s.live = false ∨ s.CAP_GCFG_ENABLE g ≠ 1 ∨ y.staged = [] → exec (.captureSample g) s = .next s) ∧
      (s.live = true → s.CAP_GCFG_ENABLE g = 1 → s.hasCapture = true →
        (∀ z rest, y.staged = z :: rest → z.ready = false → exec (.captureSample g) s = .next s) ∧
        (∀ z rest, y.staged = z :: rest → z.ready = true →
          let x := z.set
          let goes (t : State) : Prop := exec (.captureSample g) s = .next t ∧ (t.group g).staged = rest
          (y.state = 2 → z.named = false → s.extOf g x = 0 → c.pre ≠ 0 →
            let bytes := c.setBytes x z.fired 0 y.samples z.late
            ∃ t, goes t ∧ (t.group g).state = 2 ∧ t.ddrRead (c.posAddr (s.slotAddr g y.slot) y.ringPos) bytes.length = bytes ∧
              (t.group g).ring = (c.noteSet x z.late y.ringPos :: y.ring).take c.pre ∧ (t.group g).ringPos = (y.ringPos + 1) % c.pre ∧ gUp t 1) ∧
          (∀ n, y.state = 2 → z.named = true → z.summary = some n → s.extOf g x = 0 → c.post ≠ 0 →
            let bytes := c.setBytes x z.fired 0 y.samples z.late
            ∃ t r, goes t ∧ (t.group g).state = 3 ∧ (t.group g).seq = y.seq + 1 ∧ (t.group g).opened = some r ∧ r.seq = y.seq + 1 ∧
              r.addr = s.slotAddr g y.slot ∧ r.trig = c.noteSet x z.late c.pre ∧ r.fired = z.fired ∧ r.summary = n ∧ r.missed = y.missed ∧
              r.pre = y.ring.reverse ∧ (t.group g).missed = 0 ∧ t.ddrRead (c.posAddr r.addr c.pre) bytes.length = bytes ∧
              (y.ring.length < c.pre → gUp t 5 ∧ flag t 2)) ∧
          (∀ r, y.state = 3 → y.opened = some r → z.named = false → s.extOf g x = 0 → r.cfg.post ≤ r.post.length + 1 →
            ∃ t q, goes t ∧ (t.group g).opened = none ∧ (t.group g).newest = r.seq ∧ (t.group g).flushing = some q ∧ q.seq = r.seq ∧
              q.closed = true ∧ gUp t 0 ∧ flag t 0 ∧
              (s.slotFree g (y.seq + 1) = true → (t.group g).state = 4 ∧ (t.group g).slot = y.seq % s.CAP_GSIZE_RECORDS g) ∧
              (s.slotFree g (y.seq + 1) = false → (t.group g).state = if s.CAP_GCFG_SINGLE g = 1 then 5 else 6)) ∧
          (y.state = 4 → z.named = true → ∃ t, goes t ∧ (t.group g).missed = min 65535 (y.missed + 1) ∧ gUp t 2 ∧ flag t 1))) ∧
      (y.flushing = none ∨ s.live = false → exec (.captureFlushDone g) s = .next s) ∧
      (∀ q, s.live = true → y.flushing = some q →
        let r := (y.recs.find? (fun z => z.seq == q.seq)).getD q
        ∃ t, exec (.captureFlushDone g) s = .next t ∧ t.ddrRead r.addr (r.header g).length = r.header g ∧ t.regs = s.regs ∧
          t.group g = { y with flushing := none, state := if y.state = 4 then (if s.CAP_GCFG_SINGLE g = 1 then 5 else 1) else y.state, rearm := 0 }) ∧
      (y.recs = [] → exec (.recordFinal g) s = .next s) ∧
      (∀ r rest, y.recs = r :: rest →
        let ripe : Prop := r.newestRel + s.hLate r.cfg.dom ≤ s.tim.dt ∧ s.ddrUsable = true ∧ s.live = true ∧ (y.flushing = none ∨ rest ≠ [])
        (¬ripe → exec (.recordFinal g) s = .next s) ∧
        (ripe → ∃ t, exec (.recordFinal g) s = .next t ∧ t.group g = { y with recs := rest } ∧ flag t 3 ∧
          t.ddrRead r.addr (({ r with final := true } : CapRec).header g).length = ({ r with final := true } : CapRec).header g))) ∧
    (∀ ok, s.hasCapture = false ∨ s.glb.mode = .reset ∨ s.cap.unflushed = 0 → exec (.summaryFlush ok) s = .next s) ∧
    (s.hasCapture = true → s.glb.mode ≠ .reset → s.cap.unflushed ≠ 0 →
      (∃ t, exec (.summaryFlush false) s = .next t ∧ t.cap = s.cap ∧ t.flash = s.flash ∧ flagged s t R_CAP_FLAGS (R_CAP_FLAGCNT 0) 5) ∧
      (s.granted 21 6 17 (0x3000 + 32 * s.cap.place) 32 = false → ∃ t, exec (.summaryFlush true) s = .next t ∧ t.cap = s.cap ∧ t.flash = s.flash) ∧
      (MayFlush s → ∃ t, exec (.summaryFlush true) s = .next t ∧ t.cap.unflushed = 0 ∧ t.cap.newest = s.cap.newest ∧ t.regs = s.regs ∧
        (s.cap.unflushed = 1 → s.flashRead (0x3000 + 32 * s.cap.place) 32 = List.replicate 32 0xFF →
          t.cap.place = (s.cap.place + 1) % 512 ∧ t.flashRead (0x3000 + 32 * s.cap.place) 32 = s.summBytes s.cap.newest))) ∧
    ∀ (st : Fin 14) (addr : BitVec 32),
      (s.glb.mode = .reset ∨ s.storeHas st addr.toNat = false → ∀ found, exec (.scrubRead st addr found) s = .next s) ∧
      (s.glb.mode ≠ .reset → s.storeHas st addr.toNat = true →
        let shows (t : State) (last : Nat) : Prop := t.reg R_PRT_ECCLAST = BitVec.ofNat 32 last ∧ t.reg R_PRT_ECCADDR = addr
        exec (.scrubRead st addr .clean) s = .next s ∧
        (∃ t, exec (.scrubRead st addr .correctable) s = .next t ∧ shows t st.val ∧ t.reg (R_PRT_CECNT st) = s.reg (R_PRT_CECNT st) + 1 ∧
          flagged s t R_PRT_FLAGS (R_PRT_FLAGCNT 0) 1 ∧ t.eccBad = s.eccBad) ∧
        ∃ t, exec (.scrubRead st addr .uncorrectable) s = .next t ∧ shows t (st.val + 16) ∧ t.reg (R_PRT_UECNT st) = s.reg (R_PRT_UECNT st) + 1 ∧
          flagged s t R_PRT_FLAGS (R_PRT_FLAGCNT 0) 2 ∧ (st ≠ 3 → t.isBad st addr.toNat = true ∧ t.glb = s.glb) ∧
          (st = 3 → s.glb.mode ≠ .halt → t.glb.mode = .halt ∧ t.glb.haltCause = 4))

/-- Egress (13_egress.md R271 to R284, R288, 14_armature_links.md R298): a released set queues one frame for each of its streams, which a free
builder takes, a scheduler grants the jobs of the highest priority or the cell of the highest class, a granted frame leaves its port when
it is built, a late gather ends in a frame, staged sentences enter the transmit queue, and an alarm pin follows its request when MIN_WIDTH
ends. Clauses that no rule states word for word follow the model's readings, log entries 2, 51, 52 and 53. -/
def Obligations.EgressSchedulersAndStaging : Prop :=
  ∀ (s : State), s.eccBad = [] → s.glb.silenced = false →
    let sUp (t : State) (i c : Nat) : Prop := t.reg (R_EGR_SCNT i c) = s.reg (R_EGR_SCNT i c) + 1
    let frames (t : State) := t.out.filter (fun z => match z with | .frame .. => true | _ => false)
    (s.egr.setQ = [] ∨ s.outOn = false → exec .buildJobQueue s = .next s) ∧
    (∀ x rest i, s.egr.setQ = x :: rest → s.outOn = true → s.PBR_CFG_TWIN ≠ 1 → (s.streamsOf 0).filter (fun i => s.EGR_SCFG_DOMAIN i == x.dom) = [i] →
      let k := s.EGR_SCFG_PORT i
      let prio := s.EGR_SCFG_PRIO i
      let goes (t : State) : Prop := exec .buildJobQueue s = .next t ∧ t.egr.setQ = rest
      (s.EGR_SCTL_TXON i = 0 → ∃ t, goes t ∧ t.egr.ports = s.egr.ports ∧ sUp t i 3) ∧
      (s.EGR_SCTL_TXON i ≠ 0 → x.empty = true → s.EGR_SCFG_EMPTY_SEND i = 0 → ∃ t, goes t ∧ t.egr.ports = s.egr.ports ∧ sUp t i 2) ∧
      (s.EGR_SCTL_TXON i ≠ 0 → x.empty = false ∨ s.EGR_SCFG_EMPTY_SEND i ≠ 0 →
        ∃ t, goes t ∧ t.regs = s.regs ∧
          (t.netOut k).jobs = (s.netOut k).jobs ++ [{ prio := prio, src := i, len := wireLen (s.frameLen i i), job := .set x, id := s.egr.nextJob }] ∧
          (s.egr.builds = [] → ∀ b, s.freeBuilder prio = some b → t.egr.builders.at none b = some (k, s.egr.nextJob)))) ∧
    -- grants at a network port
    (∀ k : Fin 109, k.val < 4 → s.hasNp k = true → s.outOn = true → (s.netOut k).granted = none →
      ((s.netOut k).jobs = [] → exec (.schedulerGrant k) s = .next s) ∧
      (∀ j o, s.pickJob k = some (j, o) →
        let goes (t : State) : Prop := exec (.schedulerGrant k) s = .next t
        j ∈ (s.netOut k).jobs ∧ (∀ x ∈ (s.netOut k).jobs, j.prio ≤ x.prio) ∧ o.jobs = (s.netOut k).jobs.erase j ∧
        (s.portOpen k = false →
          ∃ t, goes t ∧ t.netOut k = o ∧ frames t = frames s ∧ (j.src < 256 → sUp t j.src 6) ∧ flagged s t R_EGR_FLAGS (R_EGR_FLAGCNT 0) 5) ∧
        (s.portOpen k = true →
          (∀ f, j.job = .raw f → ptpPlace f = none → ∃ t, goes t ∧ t.netOut k = o ∧ t.out = .frame k f :: s.out) ∧
          (∀ x, j.job = .set x →
            (j.built = none → ∃ t, goes t ∧ t.netOut k = { o with granted := some j } ∧ t.out = s.out ∧ t.regs = s.regs) ∧
            (∀ pl, j.built = some pl → s.EGR_SCFG_KIND j.src = 0 → ptpPlace (s.datagram j.src pl) = none →
              ∃ t, goes t ∧ t.netOut k = o ∧ t.out.head? = some (.frame k (s.datagram j.src pl)) ∧ sUp t j.src 0))))) ∧
    -- grants at an Armature link
    (∀ k : Fin 109, 4 ≤ k.val → k.val < 12 →
      let n := k.val - 4
      let l := s.link n
      (l.state ≠ 3 ∨ l.txq = [] → exec (.schedulerGrant k) s = .next s) ∧
      (∀ c, l.state = 3 → s.nextCell n = some c →
        c ∈ l.txq ∧ (∀ x ∈ l.txq, classOrder c.cls ≤ classOrder x.cls) ∧
        ∃ t, exec (.schedulerGrant k) s = .next t ∧ t.out.head? = some (.cell n ((stampCell c s.tim.dt).bytes l.txSeq)) ∧
          (t.link n).txq = l.txq.erase c ∧ (t.link n).txSeq = (l.txSeq + 1) % 65536 ∧
          t.reg (R_ARM_LCNT n 1) = s.reg (R_ARM_LCNT n 1) + 1 ∧ ∀ m, m ≠ n → t.link m = s.link m)) ∧
    -- grants at a serial transmitter and at the host-queue stager
    (∀ k : Fin 109, 12 ≤ k.val →
      ((s.netOut k).jobs = [] → exec (.schedulerGrant k) s = .next s) ∧
      (∀ j o, s.pickJob k = some (j, o) →
        let n := k.val - 12
        let goes (t : State) : Prop := exec (.schedulerGrant k) s = .next t ∧ t.netOut k = o
        (∀ key bs, j.job = .serial key bs → s.outOn = true → s.bankHeld (n / 12) = false → s.EGR_LVCFG_SLOTS n = 0 →
          ((s.stage n).held + bs.length ≤ 4096 → ∃ t, goes t ∧ t.regs = s.regs ∧ t.stage n = { s.stage n with fifo := (s.stage n).fifo ++ [bs] }) ∧
          (4096 < (s.stage n).held + bs.length → ∃ t, goes t ∧ t.stage n = s.stage n ∧ t.reg (R_EGR_LVCNT n 3) = s.reg (R_EGR_LVCNT n 3) + 1)) ∧
        (∀ h kind flow y g bs, j.job = .entry h kind flow y g bs → s.glb.mode ≠ .halt → s.glb.mode ≠ .reset →
          ((s.hq h).used + 32 + bs.length ≤ 1024 * s.EGR_HQCFG_KIB h →
            ∃ t e, goes t ∧ (t.hq h).entries = (s.hq h).entries ++ [e] ∧ e.data = bs ∧ e.seq = (s.hq h).next) ∧
          (1024 * s.EGR_HQCFG_KIB h < (s.hq h).used + 32 + bs.length →
            ∃ t, goes t ∧ t.hq h = s.hq h ∧ t.reg (R_EGR_GCNT 0) = s.reg (R_EGR_GCNT 0) + 1)))) ∧
    (∀ b : Fin 16,
      (s.egr.builders.at none b = none → exec (.frameBuildDone b) s = .next s) ∧
      (∀ k n x j, s.egr.builders.at none b = some (k, n) → j.id = n → j.job = .set x → s.EGR_SCFG_KIND j.src = 0 →
        let i := j.src
        let frame := (s.buildFrame j).1.1
        let whole := s.datagram i frame
        let goes (t : State) : Prop := exec (.frameBuildDone b) s = .next t ∧ (s.egr.builds = [] → t.egr.builders.at none b = none)
        (frame.take 1 = [0xAA] ∧ be2 frame 2 = frame.length % 65536 ∧
          beNat (frame.drop (frame.length - 2)) = checkOf 0 (frame.take (frame.length - 2)) % 65536) ∧
        ((s.netOut k).granted = some j → s.portOpen k = true → ptpPlace whole = none →
          ∃ t, goes t ∧ (t.netOut k).granted = none ∧ t.out.head? = some (.frame k whole) ∧ sUp t i 0 ∧
            (x.empty = true → sUp t i 1) ∧ t.reg (R_EGR_SLASTSEC i) = BitVec.ofNat 32 (x.t / 10 ^ 9) ∧
            t.reg (R_EGR_SLASTNS i) = BitVec.ofNat 32 (x.t % 10 ^ 9)) ∧
        ((s.netOut k).granted = none → (s.netOut k).jobs.find? (fun y => y.id == n) = some j →
          ∃ t, goes t ∧ frames t = frames s ∧
            (t.netOut k).jobs = (s.netOut k).jobs.map (fun (y : PortJob) => if y.id = n then { y with built := some frame } else y)))) ∧
    (∀ i : BitVec 8,
      (s.egr.gathers.find? (fun g => g.stream == i.toNat) = none → exec (.lateGatherEnd i) s = .next s) ∧
      (∀ g, s.egr.gathers.find? (fun g => g.stream == i.toNat) = some g →
        let k := s.EGR_SCFG_PORT i.toNat
        let goes (t : State) : Prop := exec (.lateGatherEnd i) s = .next t ∧ t.egr.gathers = s.egr.gathers.erase g
        (s.quiet = true → ∃ t, goes t ∧ t.egr.ports = s.egr.ports ∧ sUp t i.toNat 5) ∧
        (s.outOn = true → s.EGR_SCTL_TXON i.toNat = 0 → ∃ t, goes t ∧ t.egr.ports = s.egr.ports ∧ sUp t i.toNat 3) ∧
        (s.outOn = true → s.EGR_SCTL_TXON i.toNat ≠ 0 →
          ∃ t, goes t ∧ t.regs = s.regs ∧ (t.netOut k).jobs = (s.netOut k).jobs ++
            [{ prio := s.EGR_SCFG_PRIO i.toNat, src := i.toNat, len := wireLen (s.frameLen i.toNat (s.EGR_SCFG_PAIR i.toNat)),
               job := .late g.dom g.t g.quality g.recs, id := s.egr.nextJob }]))) ∧
    (∀ n : Fin 96,
      let p := s.port n
      (s.txOn n = false ∨ s.stage n = {} → exec (.serialStagingFeed n) s = .next s) ∧
      (∀ b, s.txOn n = true → s.stage n = { fifo := [b] } → b ≠ [] → p.txq.length + b.length ≤ 64 →
        ∃ t, exec (.serialStagingFeed n) s = .next t ∧ t.port n = { p with txq := p.txq ++ b.map fun c => { d := c.setWidth 9 } } ∧
          t.stage n = {} ∧ t.reg (R_EGR_LVCNT n 0) = s.reg (R_EGR_LVCNT n 0) + 1 ∧ ∀ m, m ≠ n.val → t.port m = s.port m)) ∧
    ∀ p : Fin 4,
      let y := s.pin p
      let low := if s.EGR_ALARM_POL p = 1 then true else false
      let level (v : Bool) : Option Bool := if s.EGR_ALARM_DRIVE p = 1 ∧ v = true then none else some v
      (y.holding = false → exec (.alarmMinWidthEnd p) s = .next s) ∧
      (y.holding = true → s.outOn = true → y.asserted = true →
        (s.ana.request / 2 ^ p.val % 2 = 1 → s.ana.unseen = false → ∃ t, exec (.alarmMinWidthEnd p) s = .next t ∧ t.pin p = ⟨true, false, level (!low)⟩) ∧
        (s.ana.request / 2 ^ p.val % 2 = 0 ∨ s.ana.unseen = true → ∃ t, exec (.alarmMinWidthEnd p) s = .next t ∧ t.pin p = ⟨false, false, level low⟩))
/-- A step takes the command at the front of the queue and is its effect on the device with the queue's rest; with an empty queue one TCLK
cycle passes, as State.idle has it (03_time_base.md R50; the model's choice, log entry 1). And every command has an effect in every state:
no state and no operands stop the machine, since the spec stops on none of them (it refuses with a status, counts, flags or ignores). -/
def Obligations.StepTakesTheFront : Prop :=
  (∀ (c : Instr) (s : State), step { s with pending := c :: s.pending } = exec c s) ∧
  (∀ s : State, s.pending = [] → step s = .next s.idle) ∧
  ∀ (i : Instr) (s : State), ∃ t, exec i s = .next t

/-- What the unit capability word reads (00_scope.md R4, Table SCP-2): GLB_CAP names the units of each variant. -/
def Obligations.CapabilityWord : Prop :=
  ∀ (s : State) (m : Nat), s.isBad 13 (R_GLB_CAP / 8) = false →
    s.readWord m R_GLB_CAP = match s.glb.variant with
      | .a => 0x01FFFFFF
      | .c => 0x02B0FFFF
      | .e => 0x0300330F

/-- The device right after reset: the stores that a program's instructions write are in their canonical form, every thread is within the
limits of a run (07_chisel_machine.md R144, R148, R155, R156), no command waits, the device is in PLINTH (the model's choice, log entries
5 and 11), and every word of the register file holds the reset value of its row (19_register_map.md R387). -/
def Obligations.ResetLeaves : Prop :=
  Canonical State.reset ∧ RunLimits State.reset ∧ State.reset.pending = [] ∧ State.reset.glb.mode = .plinth ∧
    ∀ o, State.reset.reg o = regReset o

/-- The limits of a run hold after every instruction (07_chisel_machine.md R144, R148, R155, R156, 08_chisel_instructions.md R173): whatever
instruction a thread issues, but for the time submissions (opcode 0x2E), and whatever it meets, the cursors stay within 4,096, no thread
holds more than 8 return addresses, no run more than BUDGET instructions, 8 emits or 4,096 bytes of sentence; and the stores stay in their
canonical form. -/
def Obligations.ChiselKeepsRunLimits : Prop :=
  ∀ (i : Instr) (rest : List Instr) (h : Thr) (w : Nat) (s s' : State),
    chiselThread i = some h → chiselWord i = some w → w / 2 ^ 26 ≠ 0x2E → s.pending = i :: rest →
    step s = .next s' → (RunLimits s → RunLimits s') ∧ (Canonical s → Canonical s')

/-- A program reaches no other part of the device (07_chisel_machine.md R147, R149 to R151, R158): whatever instruction a thread issues, but
for the time submissions (opcode 0x2E), the step changes only the engines, the flow contexts, registers of the blocks FLW, CHS and PRT,
the logs and the vectors their flags raise. The local spaces of other engines, the program store below TABLE_BASE, and the contexts of
other flows stay as they are. -/
def Obligations.ChiselReachesItsSpacesOnly : Prop :=
  ∀ (i : Instr) (rest : List Instr) (h : Thr) (w : Nat) (s t : State),
    chiselThread i = some h → chiselWord i = some w → w / 2 ^ 26 ≠ 0x2E → s.pending = i :: rest → step s = .next t →
    t = { s with
      pending := rest
      regs := t.regs
      flw := { s.flw with ctx := t.flw.ctx }
      chs := { t.chs with timerLast := s.chs.timerLast, paused := s.chs.paused }
      hst := { s.hst with msixPend := t.hst.msixPend }
      log := t.log
      eccBad := t.eccBad
      out := t.out } ∧
    (∀ o, o / 0x10000 ≠ 4 → o / 0x10000 ≠ 5 → o / 0x10000 ≠ 15 → t.reg o = s.reg o) ∧
    (∀ a, a / 65536 ≠ h.e.val → t.chs.loc.at 0 a = s.chs.loc.at 0 a) ∧
    (∀ a, a < s.CHS_PTABLE_TABLE_BASE → t.chs.prog.at 0 a = s.chs.prog.at 0 a) ∧
    ∀ r, s.issuing (thrIdx h) = some r → ∀ a, a / 512 ≠ r.entry.flow → t.flw.ctx.at 0 a = s.flw.ctx.at 0 a
end

