-- ==== Sys2Proof/Laws/Sparse.lean ====
section
/-! SUPPORT. Laws of sparse stores: what a read gives after a write, and that a write keeps the canonical form. -/

namespace Sys2Proof.Machine

section
variable {α : Type}

@[simp] theorem SMap.get_nil (d : Nat → α) (k : Nat) : SMap.get [] d k = d k := rfl

/-- Every key listed is above `lo`. -/
def SMap.above (lo : Nat) (m : SMap α) : Prop := ∀ x ∈ m, lo < x.1

/-- The keys of a store rise. -/
def SMap.rising : SMap α → Prop
  | [] => True
  | x :: r => SMap.above x.1 r ∧ SMap.rising r

theorem SMap.erase_mem {m : SMap α} {k : Nat} {x : Nat × α} (h : x ∈ m.erase k) : x ∈ m := by
  induction m with
  | nil => simp [SMap.erase] at h
  | cons y r ih =>
    simp only [SMap.erase] at h
    split at h
    · exact List.mem_cons_of_mem _ (ih h)
    · rcases List.mem_cons.1 h with rfl | h
      · simp
      · exact List.mem_cons_of_mem _ (ih h)

theorem SMap.insert_mem {m : SMap α} {k : Nat} {v : α} {x : Nat × α} (h : x ∈ m.insert k v) : x = (k, v) ∨ x ∈ m := by
  induction m with
  | nil => simpa [SMap.insert] using h
  | cons y r ih =>
    simp only [SMap.insert] at h
    split at h
    · rcases List.mem_cons.1 h with rfl | h <;> simp [*]
    · split at h
      · simpa using h
      · rcases List.mem_cons.1 h with rfl | h
        · simp
        · rcases ih h with rfl | h <;> simp [*]

theorem SMap.rising_erase {m : SMap α} (k : Nat) (h : m.rising) : (m.erase k).rising := by
  induction m with
  | nil => exact h
  | cons y r ih =>
    simp only [SMap.erase]
    split
    · exact ih h.2
    · exact ⟨fun x hx => h.1 x (SMap.erase_mem hx), ih h.2⟩

theorem SMap.rising_insert {m : SMap α} (k : Nat) (v : α) (h : m.rising) : (m.insert k v).rising := by
  induction m with
  | nil => exact ⟨by simp [SMap.above], trivial⟩
  | cons y r ih =>
    simp only [SMap.insert]
    split
    · rename_i e
      exact ⟨fun x hx => e ▸ h.1 x hx, h.2⟩
    · split
      · rename_i e
        refine ⟨fun x hx => ?_, h⟩
        rcases List.mem_cons.1 hx with rfl | hx
        · exact e
        · exact Nat.lt_trans e (h.1 x hx)
      · refine ⟨fun x hx => ?_, ih h.2⟩
        rcases SMap.insert_mem hx with rfl | hx
        · omega
        · exact h.1 x hx

theorem SMap.get_insert (m : SMap α) (d : Nat → α) (k j : Nat) (v : α) :
    (m.insert k v).get d j = if j = k then v else m.get d j := by
  induction m with
  | nil =>
    simp only [SMap.insert, SMap.get]
    by_cases e : j = k
    · rw [if_pos e.symm, if_pos e]
    · rw [if_neg (fun h => e h.symm), if_neg e]
  | cons y r ih =>
    obtain ⟨y1, y2⟩ := y
    simp only [SMap.insert]
    split
    · rename_i e; subst e
      simp only [SMap.get]
      by_cases e : j = y1
      · rw [if_pos e.symm, if_pos e]
      · simp only [if_neg e, if_neg (show ¬ y1 = j from fun h => e h.symm)]
    · split
      · simp only [SMap.get]
        by_cases hj : j = k
        · rw [if_pos hj.symm, if_pos hj]
        · rw [if_neg (fun h => hj h.symm), if_neg hj]
      · rename_i e e'
        simp only [SMap.get]
        split
        · rename_i he; rw [if_neg (by omega)]
        · exact ih

theorem SMap.get_erase (m : SMap α) (d : Nat → α) (k j : Nat) :
    (m.erase k).get d j = if j = k then d k else m.get d j := by
  induction m with
  | nil => simp only [SMap.erase, SMap.get]; split <;> simp_all
  | cons y r ih =>
    obtain ⟨y1, y2⟩ := y
    simp only [SMap.erase, SMap.get]
    split
    · rename_i e; subst e
      rw [ih]
      by_cases hj : j = y1
      · rw [if_pos hj, if_pos hj]
      · rw [if_neg hj, if_neg hj, if_neg (fun e => hj e.symm)]
    · rename_i e
      simp only [SMap.get]
      split
      · rename_i he; rw [if_neg (by omega)]
      · exact ih

/-- A second insertion at a key replaces the first. -/
theorem SMap.insert_insert (m : SMap α) (k : Nat) (v w : α) : (m.insert k v).insert k w = m.insert k w := by
  induction m with
  | nil => simp [SMap.insert]
  | cons a r ih =>
    obtain ⟨k', v'⟩ := a
    simp only [SMap.insert]
    split
    · simp [SMap.insert]
    · split
      · simp [SMap.insert]
      · rename_i h1 h2; simp [SMap.insert, h1, h2, ih]

/-- Erasing a key undoes its insertion. -/
theorem SMap.erase_insert (m : SMap α) (k : Nat) (v : α) : (m.insert k v).erase k = m.erase k := by
  induction m with
  | nil => simp [SMap.insert, SMap.erase]
  | cons a r ih =>
    obtain ⟨k', v'⟩ := a
    simp only [SMap.insert]
    split
    · simp [SMap.erase, *]
    · split
      · rename_i h1 h2; simp [SMap.erase, h1]
      · rename_i h1 h2; simp [SMap.erase, h1, ih]

/-- A canonical store has rising keys. -/
theorem SMap.wfFrom_rising [DecidableEq α] {d : Nat → α} {m : SMap α} {lo : Option Nat} (h : SMap.wfFrom d lo m = true) :
    m.rising ∧ ∀ l, lo = some l → m.above l := by
  induction m generalizing lo with
  | nil => exact ⟨trivial, fun _ _ => by simp [SMap.above]⟩
  | cons y r ih =>
    simp only [SMap.wfFrom, Bool.and_eq_true] at h
    obtain ⟨hr, ha⟩ := ih h.2
    refine ⟨⟨ha _ rfl, hr⟩, fun l hl x hx => ?_⟩
    subst hl
    have h1 : l < y.1 := by simpa using h.1.1
    rcases List.mem_cons.1 hx with rfl | hx
    · exact h1
    · exact Nat.lt_trans h1 (ha _ rfl x hx)

theorem SMap.wf_rising [DecidableEq α] {d : Nat → α} {m : SMap α} (h : m.wf d = true) : m.rising := (SMap.wfFrom_rising h).1

/-- Canonical: the keys rise and nothing listed equals its default. -/
theorem SMap.wfFrom_iff [DecidableEq α] {d : Nat → α} {m : SMap α} {lo : Option Nat} :
    SMap.wfFrom d lo m = true ↔ m.rising ∧ (∀ l, lo = some l → m.above l) ∧ ∀ x ∈ m, x.2 ≠ d x.1 := by
  constructor
  · intro h
    refine ⟨(SMap.wfFrom_rising h).1, (SMap.wfFrom_rising h).2, ?_⟩
    induction m generalizing lo with
    | nil => simp
    | cons y r ih =>
      simp only [SMap.wfFrom, Bool.and_eq_true] at h
      intro x hx
      rcases List.mem_cons.1 hx with rfl | hx
      · simpa using h.1.2
      · exact ih h.2 x hx
  · induction m generalizing lo with
    | nil => intro _; rfl
    | cons y r ih =>
      rintro ⟨hr, hl, hd⟩
      simp only [SMap.wfFrom, Bool.and_eq_true]
      refine ⟨⟨?_, by simpa using hd y (by simp)⟩, ih ⟨hr.2, fun l e => by cases e; exact hr.1, fun x hx => hd x (by simp [hx])⟩⟩
      cases lo with
      | none => rfl
      | some l => simpa using hl l rfl y (by simp)

variable [DecidableEq α]

/-- A write keeps the canonical form. -/
theorem SMap.wf_set {d : Nat → α} {m : SMap α} (k : Nat) (v : α) (h : m.wf d = true) : (m.set d k v).wf d = true := by
  obtain ⟨hr, -, hd⟩ := SMap.wfFrom_iff.1 h
  unfold SMap.set
  split
  · exact SMap.wfFrom_iff.2 ⟨SMap.rising_erase k hr, by simp, fun x hx => hd x (SMap.erase_mem hx)⟩
  · rename_i hv
    refine SMap.wfFrom_iff.2 ⟨SMap.rising_insert k v hr, by simp, fun x hx => ?_⟩
    rcases SMap.insert_mem hx with rfl | hx
    · exact hv
    · exact hd x hx

/-- A read after a write. -/
theorem SMap.get_set (d : Nat → α) (m : SMap α) (k j : Nat) (v : α) :
    (m.set d k v).get d j = if j = k then v else m.get d j := by
  unfold SMap.set
  split
  · rename_i hv
    rw [SMap.get_erase m d k j, hv]
  · exact SMap.get_insert m d k j v

/-- A read after a write, with one default. -/
theorem SMap.at_put (d : α) (m : SMap α) (k j : Nat) (v : α) :
    (m.put d k v).at d j = if j = k then v else m.at d j := SMap.get_set _ m k j v

@[simp] theorem SMap.at_put_self (d : α) (m : SMap α) (k : Nat) (v : α) : (m.put d k v).at d k = v := by
  rw [SMap.at_put, if_pos rfl]

/-- A second write of a key replaces the first, when that listed it. -/
theorem SMap.put_put (d : α) (m : SMap α) (k : Nat) (v w : α) (h : v ≠ d) : (m.put d k v).put d k w = m.put d k w := by
  simp only [SMap.put, SMap.set, h, if_false]
  split
  · exact SMap.erase_insert m k v
  · exact SMap.insert_insert m k v w

/-- A write keeps the keys rising. -/
theorem SMap.rising_set {d : Nat → α} {m : SMap α} (k : Nat) (v : α) (h : m.rising) : (m.set d k v).rising := by
  unfold SMap.set
  split
  · exact SMap.rising_erase k h
  · exact SMap.rising_insert k v h

theorem SMap.rising_put {d : α} {m : SMap α} (k : Nat) (v : α) (h : m.rising) : (m.put d k v).rising := SMap.rising_set k v h

end

/-- Writing bytes keeps the canonical form. -/
theorem SMap.wf_setBytes {m : SMap (BitVec 8)} {d : BitVec 8} (bs : Bytes) (a : Nat) (h : m.wf (fun _ => d) = true) :
    (m.setBytes d a bs).wf (fun _ => d) = true := by
  induction bs generalizing m a with
  | nil => exact h
  | cons b r ih => exact ih (a + 1) (SMap.wf_set a b h)

/-- Writing bytes keeps the keys rising. -/
theorem SMap.rising_setBytes {m : SMap (BitVec 8)} {d : BitVec 8} (bs : Bytes) (a : Nat) (h : m.rising) : (m.setBytes d a bs).rising := by
  induction bs generalizing m a with
  | nil => exact h
  | cons b r ih => exact ih (a + 1) (SMap.rising_put a b h)

/-- A byte outside the bytes written is as before. -/
theorem SMap.at_setBytes_other {m : SMap (BitVec 8)} {d : BitVec 8} (bs : Bytes) (a j : Nat)
    (hj : j < a ∨ a + bs.length ≤ j) : (m.setBytes d a bs).at d j = m.at d j := by
  induction bs generalizing m a with
  | nil => rfl
  | cons b r ih =>
    have hl : (b :: r).length = r.length + 1 := rfl
    show ((m.put d a b).setBytes d (a + 1) r).at d j = _
    rw [ih (a + 1) (by omega), SMap.at_put d m a j b, if_neg (by omega)]

/-- A byte written reads back. -/
theorem SMap.at_setBytes {m : SMap (BitVec 8)} {d : BitVec 8} (bs : Bytes) (a i : Nat) (h : i < bs.length) :
    (m.setBytes d a bs).at d (a + i) = bs[i] := by
  induction bs generalizing m a i with
  | nil => simp at h
  | cons b r ih =>
    show ((m.put d a b).setBytes d (a + 1) r).at d (a + i) = _
    cases i with
    | zero => rw [SMap.at_setBytes_other r (a + 1) (a + 0) (by omega)]; simp
    | succ i => rw [show a + (i + 1) = a + 1 + i by omega, ih (a + 1) i (by simpa using h)]; simp

end Sys2Proof.Machine
end

