-- ==== Sys2Proof/Laws/State.lean ====
section
/-! SUPPORT. What each update of the state does to each of its fields, so that no proof unfolds a record update. -/

namespace Sys2Proof.Machine

variable (s : State)

@[simp] theorem State.setReg_regs (o : Nat) (v : BitVec 32) : (s.setReg o v).regs = s.regs.set regReset o v := rfl
@[simp] theorem State.setReg_glb (o : Nat) (v : BitVec 32) : (s.setReg o v).glb = s.glb := rfl
@[simp] theorem State.setReg_pwr (o : Nat) (v : BitVec 32) : (s.setReg o v).pwr = s.pwr := rfl
@[simp] theorem State.setReg_tim (o : Nat) (v : BitVec 32) : (s.setReg o v).tim = s.tim := rfl
@[simp] theorem State.setReg_ports (o : Nat) (v : BitVec 32) : (s.setReg o v).ports = s.ports := rfl
@[simp] theorem State.setReg_banks (o : Nat) (v : BitVec 32) : (s.setReg o v).banks = s.banks := rfl
@[simp] theorem State.setReg_snt (o : Nat) (v : BitVec 32) : (s.setReg o v).snt = s.snt := rfl
@[simp] theorem State.setReg_flw (o : Nat) (v : BitVec 32) : (s.setReg o v).flw = s.flw := rfl
@[simp] theorem State.setReg_chs (o : Nat) (v : BitVec 32) : (s.setReg o v).chs = s.chs := rfl
@[simp] theorem State.setReg_aln (o : Nat) (v : BitVec 32) : (s.setReg o v).aln = s.aln := rfl
@[simp] theorem State.setReg_rcl (o : Nat) (v : BitVec 32) : (s.setReg o v).rcl = s.rcl := rfl
@[simp] theorem State.setReg_ana (o : Nat) (v : BitVec 32) : (s.setReg o v).ana = s.ana := rfl
@[simp] theorem State.setReg_cap (o : Nat) (v : BitVec 32) : (s.setReg o v).cap = s.cap := rfl
@[simp] theorem State.setReg_egr (o : Nat) (v : BitVec 32) : (s.setReg o v).egr = s.egr := rfl
@[simp] theorem State.setReg_arm (o : Nat) (v : BitVec 32) : (s.setReg o v).arm = s.arm := rfl
@[simp] theorem State.setReg_hst (o : Nat) (v : BitVec 32) : (s.setReg o v).hst = s.hst := rfl
@[simp] theorem State.setReg_pbr (o : Nat) (v : BitVec 32) : (s.setReg o v).pbr = s.pbr := rfl
@[simp] theorem State.setReg_cfg (o : Nat) (v : BitVec 32) : (s.setReg o v).cfg = s.cfg := rfl
@[simp] theorem State.setReg_ddr (o : Nat) (v : BitVec 32) : (s.setReg o v).ddr = s.ddr := rfl
@[simp] theorem State.setReg_flash (o : Nat) (v : BitVec 32) : (s.setReg o v).flash = s.flash := rfl
@[simp] theorem State.setReg_log (o : Nat) (v : BitVec 32) : (s.setReg o v).log = s.log := rfl
@[simp] theorem State.setReg_eccBad (o : Nat) (v : BitVec 32) : (s.setReg o v).eccBad = s.eccBad := rfl
@[simp] theorem State.setReg_out (o : Nat) (v : BitVec 32) : (s.setReg o v).out = s.out := rfl
@[simp] theorem State.setReg_fresh (o : Nat) (v : BitVec 32) : (s.setReg o v).fresh = s.fresh := rfl
@[simp] theorem State.setReg_pending (o : Nat) (v : BitVec 32) : (s.setReg o v).pending = s.pending := rfl

@[simp] theorem State.modGlb_regs (f : Glb → Glb) : (s.modGlb f).regs = s.regs := rfl
@[simp] theorem State.modGlb_glb (f : Glb → Glb) : (s.modGlb f).glb = f s.glb := rfl
@[simp] theorem State.modGlb_pwr (f : Glb → Glb) : (s.modGlb f).pwr = s.pwr := rfl
@[simp] theorem State.modGlb_tim (f : Glb → Glb) : (s.modGlb f).tim = s.tim := rfl
@[simp] theorem State.modGlb_ports (f : Glb → Glb) : (s.modGlb f).ports = s.ports := rfl
@[simp] theorem State.modGlb_banks (f : Glb → Glb) : (s.modGlb f).banks = s.banks := rfl
@[simp] theorem State.modGlb_snt (f : Glb → Glb) : (s.modGlb f).snt = s.snt := rfl
@[simp] theorem State.modGlb_flw (f : Glb → Glb) : (s.modGlb f).flw = s.flw := rfl
@[simp] theorem State.modGlb_chs (f : Glb → Glb) : (s.modGlb f).chs = s.chs := rfl
@[simp] theorem State.modGlb_aln (f : Glb → Glb) : (s.modGlb f).aln = s.aln := rfl
@[simp] theorem State.modGlb_rcl (f : Glb → Glb) : (s.modGlb f).rcl = s.rcl := rfl
@[simp] theorem State.modGlb_ana (f : Glb → Glb) : (s.modGlb f).ana = s.ana := rfl
@[simp] theorem State.modGlb_cap (f : Glb → Glb) : (s.modGlb f).cap = s.cap := rfl
@[simp] theorem State.modGlb_egr (f : Glb → Glb) : (s.modGlb f).egr = s.egr := rfl
@[simp] theorem State.modGlb_arm (f : Glb → Glb) : (s.modGlb f).arm = s.arm := rfl
@[simp] theorem State.modGlb_hst (f : Glb → Glb) : (s.modGlb f).hst = s.hst := rfl
@[simp] theorem State.modGlb_pbr (f : Glb → Glb) : (s.modGlb f).pbr = s.pbr := rfl
@[simp] theorem State.modGlb_cfg (f : Glb → Glb) : (s.modGlb f).cfg = s.cfg := rfl
@[simp] theorem State.modGlb_ddr (f : Glb → Glb) : (s.modGlb f).ddr = s.ddr := rfl
@[simp] theorem State.modGlb_flash (f : Glb → Glb) : (s.modGlb f).flash = s.flash := rfl
@[simp] theorem State.modGlb_log (f : Glb → Glb) : (s.modGlb f).log = s.log := rfl
@[simp] theorem State.modGlb_eccBad (f : Glb → Glb) : (s.modGlb f).eccBad = s.eccBad := rfl
@[simp] theorem State.modGlb_out (f : Glb → Glb) : (s.modGlb f).out = s.out := rfl
@[simp] theorem State.modGlb_fresh (f : Glb → Glb) : (s.modGlb f).fresh = s.fresh := rfl
@[simp] theorem State.modGlb_pending (f : Glb → Glb) : (s.modGlb f).pending = s.pending := rfl

@[simp] theorem State.modPwr_regs (f : Pwr → Pwr) : (s.modPwr f).regs = s.regs := rfl
@[simp] theorem State.modPwr_glb (f : Pwr → Pwr) : (s.modPwr f).glb = s.glb := rfl
@[simp] theorem State.modPwr_pwr (f : Pwr → Pwr) : (s.modPwr f).pwr = f s.pwr := rfl
@[simp] theorem State.modPwr_tim (f : Pwr → Pwr) : (s.modPwr f).tim = s.tim := rfl
@[simp] theorem State.modPwr_ports (f : Pwr → Pwr) : (s.modPwr f).ports = s.ports := rfl
@[simp] theorem State.modPwr_banks (f : Pwr → Pwr) : (s.modPwr f).banks = s.banks := rfl
@[simp] theorem State.modPwr_snt (f : Pwr → Pwr) : (s.modPwr f).snt = s.snt := rfl
@[simp] theorem State.modPwr_flw (f : Pwr → Pwr) : (s.modPwr f).flw = s.flw := rfl
@[simp] theorem State.modPwr_chs (f : Pwr → Pwr) : (s.modPwr f).chs = s.chs := rfl
@[simp] theorem State.modPwr_aln (f : Pwr → Pwr) : (s.modPwr f).aln = s.aln := rfl
@[simp] theorem State.modPwr_rcl (f : Pwr → Pwr) : (s.modPwr f).rcl = s.rcl := rfl
@[simp] theorem State.modPwr_ana (f : Pwr → Pwr) : (s.modPwr f).ana = s.ana := rfl
@[simp] theorem State.modPwr_cap (f : Pwr → Pwr) : (s.modPwr f).cap = s.cap := rfl
@[simp] theorem State.modPwr_egr (f : Pwr → Pwr) : (s.modPwr f).egr = s.egr := rfl
@[simp] theorem State.modPwr_arm (f : Pwr → Pwr) : (s.modPwr f).arm = s.arm := rfl
@[simp] theorem State.modPwr_hst (f : Pwr → Pwr) : (s.modPwr f).hst = s.hst := rfl
@[simp] theorem State.modPwr_pbr (f : Pwr → Pwr) : (s.modPwr f).pbr = s.pbr := rfl
@[simp] theorem State.modPwr_cfg (f : Pwr → Pwr) : (s.modPwr f).cfg = s.cfg := rfl
@[simp] theorem State.modPwr_ddr (f : Pwr → Pwr) : (s.modPwr f).ddr = s.ddr := rfl
@[simp] theorem State.modPwr_flash (f : Pwr → Pwr) : (s.modPwr f).flash = s.flash := rfl
@[simp] theorem State.modPwr_log (f : Pwr → Pwr) : (s.modPwr f).log = s.log := rfl
@[simp] theorem State.modPwr_eccBad (f : Pwr → Pwr) : (s.modPwr f).eccBad = s.eccBad := rfl
@[simp] theorem State.modPwr_out (f : Pwr → Pwr) : (s.modPwr f).out = s.out := rfl
@[simp] theorem State.modPwr_fresh (f : Pwr → Pwr) : (s.modPwr f).fresh = s.fresh := rfl
@[simp] theorem State.modPwr_pending (f : Pwr → Pwr) : (s.modPwr f).pending = s.pending := rfl

@[simp] theorem State.modTim_regs (f : Tim → Tim) : (s.modTim f).regs = s.regs := rfl
@[simp] theorem State.modTim_glb (f : Tim → Tim) : (s.modTim f).glb = s.glb := rfl
@[simp] theorem State.modTim_pwr (f : Tim → Tim) : (s.modTim f).pwr = s.pwr := rfl
@[simp] theorem State.modTim_tim (f : Tim → Tim) : (s.modTim f).tim = f s.tim := rfl
@[simp] theorem State.modTim_ports (f : Tim → Tim) : (s.modTim f).ports = s.ports := rfl
@[simp] theorem State.modTim_banks (f : Tim → Tim) : (s.modTim f).banks = s.banks := rfl
@[simp] theorem State.modTim_snt (f : Tim → Tim) : (s.modTim f).snt = s.snt := rfl
@[simp] theorem State.modTim_flw (f : Tim → Tim) : (s.modTim f).flw = s.flw := rfl
@[simp] theorem State.modTim_chs (f : Tim → Tim) : (s.modTim f).chs = s.chs := rfl
@[simp] theorem State.modTim_aln (f : Tim → Tim) : (s.modTim f).aln = s.aln := rfl
@[simp] theorem State.modTim_rcl (f : Tim → Tim) : (s.modTim f).rcl = s.rcl := rfl
@[simp] theorem State.modTim_ana (f : Tim → Tim) : (s.modTim f).ana = s.ana := rfl
@[simp] theorem State.modTim_cap (f : Tim → Tim) : (s.modTim f).cap = s.cap := rfl
@[simp] theorem State.modTim_egr (f : Tim → Tim) : (s.modTim f).egr = s.egr := rfl
@[simp] theorem State.modTim_arm (f : Tim → Tim) : (s.modTim f).arm = s.arm := rfl
@[simp] theorem State.modTim_hst (f : Tim → Tim) : (s.modTim f).hst = s.hst := rfl
@[simp] theorem State.modTim_pbr (f : Tim → Tim) : (s.modTim f).pbr = s.pbr := rfl
@[simp] theorem State.modTim_cfg (f : Tim → Tim) : (s.modTim f).cfg = s.cfg := rfl
@[simp] theorem State.modTim_ddr (f : Tim → Tim) : (s.modTim f).ddr = s.ddr := rfl
@[simp] theorem State.modTim_flash (f : Tim → Tim) : (s.modTim f).flash = s.flash := rfl
@[simp] theorem State.modTim_log (f : Tim → Tim) : (s.modTim f).log = s.log := rfl
@[simp] theorem State.modTim_eccBad (f : Tim → Tim) : (s.modTim f).eccBad = s.eccBad := rfl
@[simp] theorem State.modTim_out (f : Tim → Tim) : (s.modTim f).out = s.out := rfl
@[simp] theorem State.modTim_fresh (f : Tim → Tim) : (s.modTim f).fresh = s.fresh := rfl
@[simp] theorem State.modTim_pending (f : Tim → Tim) : (s.modTim f).pending = s.pending := rfl

@[simp] theorem State.modSnt_regs (f : Snt → Snt) : (s.modSnt f).regs = s.regs := rfl
@[simp] theorem State.modSnt_glb (f : Snt → Snt) : (s.modSnt f).glb = s.glb := rfl
@[simp] theorem State.modSnt_pwr (f : Snt → Snt) : (s.modSnt f).pwr = s.pwr := rfl
@[simp] theorem State.modSnt_tim (f : Snt → Snt) : (s.modSnt f).tim = s.tim := rfl
@[simp] theorem State.modSnt_ports (f : Snt → Snt) : (s.modSnt f).ports = s.ports := rfl
@[simp] theorem State.modSnt_banks (f : Snt → Snt) : (s.modSnt f).banks = s.banks := rfl
@[simp] theorem State.modSnt_snt (f : Snt → Snt) : (s.modSnt f).snt = f s.snt := rfl
@[simp] theorem State.modSnt_flw (f : Snt → Snt) : (s.modSnt f).flw = s.flw := rfl
@[simp] theorem State.modSnt_chs (f : Snt → Snt) : (s.modSnt f).chs = s.chs := rfl
@[simp] theorem State.modSnt_aln (f : Snt → Snt) : (s.modSnt f).aln = s.aln := rfl
@[simp] theorem State.modSnt_rcl (f : Snt → Snt) : (s.modSnt f).rcl = s.rcl := rfl
@[simp] theorem State.modSnt_ana (f : Snt → Snt) : (s.modSnt f).ana = s.ana := rfl
@[simp] theorem State.modSnt_cap (f : Snt → Snt) : (s.modSnt f).cap = s.cap := rfl
@[simp] theorem State.modSnt_egr (f : Snt → Snt) : (s.modSnt f).egr = s.egr := rfl
@[simp] theorem State.modSnt_arm (f : Snt → Snt) : (s.modSnt f).arm = s.arm := rfl
@[simp] theorem State.modSnt_hst (f : Snt → Snt) : (s.modSnt f).hst = s.hst := rfl
@[simp] theorem State.modSnt_pbr (f : Snt → Snt) : (s.modSnt f).pbr = s.pbr := rfl
@[simp] theorem State.modSnt_cfg (f : Snt → Snt) : (s.modSnt f).cfg = s.cfg := rfl
@[simp] theorem State.modSnt_ddr (f : Snt → Snt) : (s.modSnt f).ddr = s.ddr := rfl
@[simp] theorem State.modSnt_flash (f : Snt → Snt) : (s.modSnt f).flash = s.flash := rfl
@[simp] theorem State.modSnt_log (f : Snt → Snt) : (s.modSnt f).log = s.log := rfl
@[simp] theorem State.modSnt_eccBad (f : Snt → Snt) : (s.modSnt f).eccBad = s.eccBad := rfl
@[simp] theorem State.modSnt_out (f : Snt → Snt) : (s.modSnt f).out = s.out := rfl
@[simp] theorem State.modSnt_fresh (f : Snt → Snt) : (s.modSnt f).fresh = s.fresh := rfl
@[simp] theorem State.modSnt_pending (f : Snt → Snt) : (s.modSnt f).pending = s.pending := rfl

@[simp] theorem State.modChs_regs (f : Chs → Chs) : (s.modChs f).regs = s.regs := rfl
@[simp] theorem State.modChs_glb (f : Chs → Chs) : (s.modChs f).glb = s.glb := rfl
@[simp] theorem State.modChs_pwr (f : Chs → Chs) : (s.modChs f).pwr = s.pwr := rfl
@[simp] theorem State.modChs_tim (f : Chs → Chs) : (s.modChs f).tim = s.tim := rfl
@[simp] theorem State.modChs_ports (f : Chs → Chs) : (s.modChs f).ports = s.ports := rfl
@[simp] theorem State.modChs_banks (f : Chs → Chs) : (s.modChs f).banks = s.banks := rfl
@[simp] theorem State.modChs_snt (f : Chs → Chs) : (s.modChs f).snt = s.snt := rfl
@[simp] theorem State.modChs_flw (f : Chs → Chs) : (s.modChs f).flw = s.flw := rfl
@[simp] theorem State.modChs_chs (f : Chs → Chs) : (s.modChs f).chs = f s.chs := rfl
@[simp] theorem State.modChs_aln (f : Chs → Chs) : (s.modChs f).aln = s.aln := rfl
@[simp] theorem State.modChs_rcl (f : Chs → Chs) : (s.modChs f).rcl = s.rcl := rfl
@[simp] theorem State.modChs_ana (f : Chs → Chs) : (s.modChs f).ana = s.ana := rfl
@[simp] theorem State.modChs_cap (f : Chs → Chs) : (s.modChs f).cap = s.cap := rfl
@[simp] theorem State.modChs_egr (f : Chs → Chs) : (s.modChs f).egr = s.egr := rfl
@[simp] theorem State.modChs_arm (f : Chs → Chs) : (s.modChs f).arm = s.arm := rfl
@[simp] theorem State.modChs_hst (f : Chs → Chs) : (s.modChs f).hst = s.hst := rfl
@[simp] theorem State.modChs_pbr (f : Chs → Chs) : (s.modChs f).pbr = s.pbr := rfl
@[simp] theorem State.modChs_cfg (f : Chs → Chs) : (s.modChs f).cfg = s.cfg := rfl
@[simp] theorem State.modChs_ddr (f : Chs → Chs) : (s.modChs f).ddr = s.ddr := rfl
@[simp] theorem State.modChs_flash (f : Chs → Chs) : (s.modChs f).flash = s.flash := rfl
@[simp] theorem State.modChs_log (f : Chs → Chs) : (s.modChs f).log = s.log := rfl
@[simp] theorem State.modChs_eccBad (f : Chs → Chs) : (s.modChs f).eccBad = s.eccBad := rfl
@[simp] theorem State.modChs_out (f : Chs → Chs) : (s.modChs f).out = s.out := rfl
@[simp] theorem State.modChs_fresh (f : Chs → Chs) : (s.modChs f).fresh = s.fresh := rfl
@[simp] theorem State.modChs_pending (f : Chs → Chs) : (s.modChs f).pending = s.pending := rfl

@[simp] theorem State.modAln_regs (f : Aln → Aln) : (s.modAln f).regs = s.regs := rfl
@[simp] theorem State.modAln_glb (f : Aln → Aln) : (s.modAln f).glb = s.glb := rfl
@[simp] theorem State.modAln_pwr (f : Aln → Aln) : (s.modAln f).pwr = s.pwr := rfl
@[simp] theorem State.modAln_tim (f : Aln → Aln) : (s.modAln f).tim = s.tim := rfl
@[simp] theorem State.modAln_ports (f : Aln → Aln) : (s.modAln f).ports = s.ports := rfl
@[simp] theorem State.modAln_banks (f : Aln → Aln) : (s.modAln f).banks = s.banks := rfl
@[simp] theorem State.modAln_snt (f : Aln → Aln) : (s.modAln f).snt = s.snt := rfl
@[simp] theorem State.modAln_flw (f : Aln → Aln) : (s.modAln f).flw = s.flw := rfl
@[simp] theorem State.modAln_chs (f : Aln → Aln) : (s.modAln f).chs = s.chs := rfl
@[simp] theorem State.modAln_aln (f : Aln → Aln) : (s.modAln f).aln = f s.aln := rfl
@[simp] theorem State.modAln_rcl (f : Aln → Aln) : (s.modAln f).rcl = s.rcl := rfl
@[simp] theorem State.modAln_ana (f : Aln → Aln) : (s.modAln f).ana = s.ana := rfl
@[simp] theorem State.modAln_cap (f : Aln → Aln) : (s.modAln f).cap = s.cap := rfl
@[simp] theorem State.modAln_egr (f : Aln → Aln) : (s.modAln f).egr = s.egr := rfl
@[simp] theorem State.modAln_arm (f : Aln → Aln) : (s.modAln f).arm = s.arm := rfl
@[simp] theorem State.modAln_hst (f : Aln → Aln) : (s.modAln f).hst = s.hst := rfl
@[simp] theorem State.modAln_pbr (f : Aln → Aln) : (s.modAln f).pbr = s.pbr := rfl
@[simp] theorem State.modAln_cfg (f : Aln → Aln) : (s.modAln f).cfg = s.cfg := rfl
@[simp] theorem State.modAln_ddr (f : Aln → Aln) : (s.modAln f).ddr = s.ddr := rfl
@[simp] theorem State.modAln_flash (f : Aln → Aln) : (s.modAln f).flash = s.flash := rfl
@[simp] theorem State.modAln_log (f : Aln → Aln) : (s.modAln f).log = s.log := rfl
@[simp] theorem State.modAln_eccBad (f : Aln → Aln) : (s.modAln f).eccBad = s.eccBad := rfl
@[simp] theorem State.modAln_out (f : Aln → Aln) : (s.modAln f).out = s.out := rfl
@[simp] theorem State.modAln_fresh (f : Aln → Aln) : (s.modAln f).fresh = s.fresh := rfl
@[simp] theorem State.modAln_pending (f : Aln → Aln) : (s.modAln f).pending = s.pending := rfl

@[simp] theorem State.modRcl_regs (f : Rcl → Rcl) : (s.modRcl f).regs = s.regs := rfl
@[simp] theorem State.modRcl_glb (f : Rcl → Rcl) : (s.modRcl f).glb = s.glb := rfl
@[simp] theorem State.modRcl_pwr (f : Rcl → Rcl) : (s.modRcl f).pwr = s.pwr := rfl
@[simp] theorem State.modRcl_tim (f : Rcl → Rcl) : (s.modRcl f).tim = s.tim := rfl
@[simp] theorem State.modRcl_ports (f : Rcl → Rcl) : (s.modRcl f).ports = s.ports := rfl
@[simp] theorem State.modRcl_banks (f : Rcl → Rcl) : (s.modRcl f).banks = s.banks := rfl
@[simp] theorem State.modRcl_snt (f : Rcl → Rcl) : (s.modRcl f).snt = s.snt := rfl
@[simp] theorem State.modRcl_flw (f : Rcl → Rcl) : (s.modRcl f).flw = s.flw := rfl
@[simp] theorem State.modRcl_chs (f : Rcl → Rcl) : (s.modRcl f).chs = s.chs := rfl
@[simp] theorem State.modRcl_aln (f : Rcl → Rcl) : (s.modRcl f).aln = s.aln := rfl
@[simp] theorem State.modRcl_rcl (f : Rcl → Rcl) : (s.modRcl f).rcl = f s.rcl := rfl
@[simp] theorem State.modRcl_ana (f : Rcl → Rcl) : (s.modRcl f).ana = s.ana := rfl
@[simp] theorem State.modRcl_cap (f : Rcl → Rcl) : (s.modRcl f).cap = s.cap := rfl
@[simp] theorem State.modRcl_egr (f : Rcl → Rcl) : (s.modRcl f).egr = s.egr := rfl
@[simp] theorem State.modRcl_arm (f : Rcl → Rcl) : (s.modRcl f).arm = s.arm := rfl
@[simp] theorem State.modRcl_hst (f : Rcl → Rcl) : (s.modRcl f).hst = s.hst := rfl
@[simp] theorem State.modRcl_pbr (f : Rcl → Rcl) : (s.modRcl f).pbr = s.pbr := rfl
@[simp] theorem State.modRcl_cfg (f : Rcl → Rcl) : (s.modRcl f).cfg = s.cfg := rfl
@[simp] theorem State.modRcl_ddr (f : Rcl → Rcl) : (s.modRcl f).ddr = s.ddr := rfl
@[simp] theorem State.modRcl_flash (f : Rcl → Rcl) : (s.modRcl f).flash = s.flash := rfl
@[simp] theorem State.modRcl_log (f : Rcl → Rcl) : (s.modRcl f).log = s.log := rfl
@[simp] theorem State.modRcl_eccBad (f : Rcl → Rcl) : (s.modRcl f).eccBad = s.eccBad := rfl
@[simp] theorem State.modRcl_out (f : Rcl → Rcl) : (s.modRcl f).out = s.out := rfl
@[simp] theorem State.modRcl_fresh (f : Rcl → Rcl) : (s.modRcl f).fresh = s.fresh := rfl
@[simp] theorem State.modRcl_pending (f : Rcl → Rcl) : (s.modRcl f).pending = s.pending := rfl

@[simp] theorem State.modAna_regs (f : Ana → Ana) : (s.modAna f).regs = s.regs := rfl
@[simp] theorem State.modAna_glb (f : Ana → Ana) : (s.modAna f).glb = s.glb := rfl
@[simp] theorem State.modAna_pwr (f : Ana → Ana) : (s.modAna f).pwr = s.pwr := rfl
@[simp] theorem State.modAna_tim (f : Ana → Ana) : (s.modAna f).tim = s.tim := rfl
@[simp] theorem State.modAna_ports (f : Ana → Ana) : (s.modAna f).ports = s.ports := rfl
@[simp] theorem State.modAna_banks (f : Ana → Ana) : (s.modAna f).banks = s.banks := rfl
@[simp] theorem State.modAna_snt (f : Ana → Ana) : (s.modAna f).snt = s.snt := rfl
@[simp] theorem State.modAna_flw (f : Ana → Ana) : (s.modAna f).flw = s.flw := rfl
@[simp] theorem State.modAna_chs (f : Ana → Ana) : (s.modAna f).chs = s.chs := rfl
@[simp] theorem State.modAna_aln (f : Ana → Ana) : (s.modAna f).aln = s.aln := rfl
@[simp] theorem State.modAna_rcl (f : Ana → Ana) : (s.modAna f).rcl = s.rcl := rfl
@[simp] theorem State.modAna_ana (f : Ana → Ana) : (s.modAna f).ana = f s.ana := rfl
@[simp] theorem State.modAna_cap (f : Ana → Ana) : (s.modAna f).cap = s.cap := rfl
@[simp] theorem State.modAna_egr (f : Ana → Ana) : (s.modAna f).egr = s.egr := rfl
@[simp] theorem State.modAna_arm (f : Ana → Ana) : (s.modAna f).arm = s.arm := rfl
@[simp] theorem State.modAna_hst (f : Ana → Ana) : (s.modAna f).hst = s.hst := rfl
@[simp] theorem State.modAna_pbr (f : Ana → Ana) : (s.modAna f).pbr = s.pbr := rfl
@[simp] theorem State.modAna_cfg (f : Ana → Ana) : (s.modAna f).cfg = s.cfg := rfl
@[simp] theorem State.modAna_ddr (f : Ana → Ana) : (s.modAna f).ddr = s.ddr := rfl
@[simp] theorem State.modAna_flash (f : Ana → Ana) : (s.modAna f).flash = s.flash := rfl
@[simp] theorem State.modAna_log (f : Ana → Ana) : (s.modAna f).log = s.log := rfl
@[simp] theorem State.modAna_eccBad (f : Ana → Ana) : (s.modAna f).eccBad = s.eccBad := rfl
@[simp] theorem State.modAna_out (f : Ana → Ana) : (s.modAna f).out = s.out := rfl
@[simp] theorem State.modAna_fresh (f : Ana → Ana) : (s.modAna f).fresh = s.fresh := rfl
@[simp] theorem State.modAna_pending (f : Ana → Ana) : (s.modAna f).pending = s.pending := rfl

@[simp] theorem State.modCap_regs (f : Cap → Cap) : (s.modCap f).regs = s.regs := rfl
@[simp] theorem State.modCap_glb (f : Cap → Cap) : (s.modCap f).glb = s.glb := rfl
@[simp] theorem State.modCap_pwr (f : Cap → Cap) : (s.modCap f).pwr = s.pwr := rfl
@[simp] theorem State.modCap_tim (f : Cap → Cap) : (s.modCap f).tim = s.tim := rfl
@[simp] theorem State.modCap_ports (f : Cap → Cap) : (s.modCap f).ports = s.ports := rfl
@[simp] theorem State.modCap_banks (f : Cap → Cap) : (s.modCap f).banks = s.banks := rfl
@[simp] theorem State.modCap_snt (f : Cap → Cap) : (s.modCap f).snt = s.snt := rfl
@[simp] theorem State.modCap_flw (f : Cap → Cap) : (s.modCap f).flw = s.flw := rfl
@[simp] theorem State.modCap_chs (f : Cap → Cap) : (s.modCap f).chs = s.chs := rfl
@[simp] theorem State.modCap_aln (f : Cap → Cap) : (s.modCap f).aln = s.aln := rfl
@[simp] theorem State.modCap_rcl (f : Cap → Cap) : (s.modCap f).rcl = s.rcl := rfl
@[simp] theorem State.modCap_ana (f : Cap → Cap) : (s.modCap f).ana = s.ana := rfl
@[simp] theorem State.modCap_cap (f : Cap → Cap) : (s.modCap f).cap = f s.cap := rfl
@[simp] theorem State.modCap_egr (f : Cap → Cap) : (s.modCap f).egr = s.egr := rfl
@[simp] theorem State.modCap_arm (f : Cap → Cap) : (s.modCap f).arm = s.arm := rfl
@[simp] theorem State.modCap_hst (f : Cap → Cap) : (s.modCap f).hst = s.hst := rfl
@[simp] theorem State.modCap_pbr (f : Cap → Cap) : (s.modCap f).pbr = s.pbr := rfl
@[simp] theorem State.modCap_cfg (f : Cap → Cap) : (s.modCap f).cfg = s.cfg := rfl
@[simp] theorem State.modCap_ddr (f : Cap → Cap) : (s.modCap f).ddr = s.ddr := rfl
@[simp] theorem State.modCap_flash (f : Cap → Cap) : (s.modCap f).flash = s.flash := rfl
@[simp] theorem State.modCap_log (f : Cap → Cap) : (s.modCap f).log = s.log := rfl
@[simp] theorem State.modCap_eccBad (f : Cap → Cap) : (s.modCap f).eccBad = s.eccBad := rfl
@[simp] theorem State.modCap_out (f : Cap → Cap) : (s.modCap f).out = s.out := rfl
@[simp] theorem State.modCap_fresh (f : Cap → Cap) : (s.modCap f).fresh = s.fresh := rfl
@[simp] theorem State.modCap_pending (f : Cap → Cap) : (s.modCap f).pending = s.pending := rfl

@[simp] theorem State.modEgr_regs (f : Egr → Egr) : (s.modEgr f).regs = s.regs := rfl
@[simp] theorem State.modEgr_glb (f : Egr → Egr) : (s.modEgr f).glb = s.glb := rfl
@[simp] theorem State.modEgr_pwr (f : Egr → Egr) : (s.modEgr f).pwr = s.pwr := rfl
@[simp] theorem State.modEgr_tim (f : Egr → Egr) : (s.modEgr f).tim = s.tim := rfl
@[simp] theorem State.modEgr_ports (f : Egr → Egr) : (s.modEgr f).ports = s.ports := rfl
@[simp] theorem State.modEgr_banks (f : Egr → Egr) : (s.modEgr f).banks = s.banks := rfl
@[simp] theorem State.modEgr_snt (f : Egr → Egr) : (s.modEgr f).snt = s.snt := rfl
@[simp] theorem State.modEgr_flw (f : Egr → Egr) : (s.modEgr f).flw = s.flw := rfl
@[simp] theorem State.modEgr_chs (f : Egr → Egr) : (s.modEgr f).chs = s.chs := rfl
@[simp] theorem State.modEgr_aln (f : Egr → Egr) : (s.modEgr f).aln = s.aln := rfl
@[simp] theorem State.modEgr_rcl (f : Egr → Egr) : (s.modEgr f).rcl = s.rcl := rfl
@[simp] theorem State.modEgr_ana (f : Egr → Egr) : (s.modEgr f).ana = s.ana := rfl
@[simp] theorem State.modEgr_cap (f : Egr → Egr) : (s.modEgr f).cap = s.cap := rfl
@[simp] theorem State.modEgr_egr (f : Egr → Egr) : (s.modEgr f).egr = f s.egr := rfl
@[simp] theorem State.modEgr_arm (f : Egr → Egr) : (s.modEgr f).arm = s.arm := rfl
@[simp] theorem State.modEgr_hst (f : Egr → Egr) : (s.modEgr f).hst = s.hst := rfl
@[simp] theorem State.modEgr_pbr (f : Egr → Egr) : (s.modEgr f).pbr = s.pbr := rfl
@[simp] theorem State.modEgr_cfg (f : Egr → Egr) : (s.modEgr f).cfg = s.cfg := rfl
@[simp] theorem State.modEgr_ddr (f : Egr → Egr) : (s.modEgr f).ddr = s.ddr := rfl
@[simp] theorem State.modEgr_flash (f : Egr → Egr) : (s.modEgr f).flash = s.flash := rfl
@[simp] theorem State.modEgr_log (f : Egr → Egr) : (s.modEgr f).log = s.log := rfl
@[simp] theorem State.modEgr_eccBad (f : Egr → Egr) : (s.modEgr f).eccBad = s.eccBad := rfl
@[simp] theorem State.modEgr_out (f : Egr → Egr) : (s.modEgr f).out = s.out := rfl
@[simp] theorem State.modEgr_fresh (f : Egr → Egr) : (s.modEgr f).fresh = s.fresh := rfl
@[simp] theorem State.modEgr_pending (f : Egr → Egr) : (s.modEgr f).pending = s.pending := rfl

@[simp] theorem State.modArm_regs (f : Arm → Arm) : (s.modArm f).regs = s.regs := rfl
@[simp] theorem State.modArm_glb (f : Arm → Arm) : (s.modArm f).glb = s.glb := rfl
@[simp] theorem State.modArm_pwr (f : Arm → Arm) : (s.modArm f).pwr = s.pwr := rfl
@[simp] theorem State.modArm_tim (f : Arm → Arm) : (s.modArm f).tim = s.tim := rfl
@[simp] theorem State.modArm_ports (f : Arm → Arm) : (s.modArm f).ports = s.ports := rfl
@[simp] theorem State.modArm_banks (f : Arm → Arm) : (s.modArm f).banks = s.banks := rfl
@[simp] theorem State.modArm_snt (f : Arm → Arm) : (s.modArm f).snt = s.snt := rfl
@[simp] theorem State.modArm_flw (f : Arm → Arm) : (s.modArm f).flw = s.flw := rfl
@[simp] theorem State.modArm_chs (f : Arm → Arm) : (s.modArm f).chs = s.chs := rfl
@[simp] theorem State.modArm_aln (f : Arm → Arm) : (s.modArm f).aln = s.aln := rfl
@[simp] theorem State.modArm_rcl (f : Arm → Arm) : (s.modArm f).rcl = s.rcl := rfl
@[simp] theorem State.modArm_ana (f : Arm → Arm) : (s.modArm f).ana = s.ana := rfl
@[simp] theorem State.modArm_cap (f : Arm → Arm) : (s.modArm f).cap = s.cap := rfl
@[simp] theorem State.modArm_egr (f : Arm → Arm) : (s.modArm f).egr = s.egr := rfl
@[simp] theorem State.modArm_arm (f : Arm → Arm) : (s.modArm f).arm = f s.arm := rfl
@[simp] theorem State.modArm_hst (f : Arm → Arm) : (s.modArm f).hst = s.hst := rfl
@[simp] theorem State.modArm_pbr (f : Arm → Arm) : (s.modArm f).pbr = s.pbr := rfl
@[simp] theorem State.modArm_cfg (f : Arm → Arm) : (s.modArm f).cfg = s.cfg := rfl
@[simp] theorem State.modArm_ddr (f : Arm → Arm) : (s.modArm f).ddr = s.ddr := rfl
@[simp] theorem State.modArm_flash (f : Arm → Arm) : (s.modArm f).flash = s.flash := rfl
@[simp] theorem State.modArm_log (f : Arm → Arm) : (s.modArm f).log = s.log := rfl
@[simp] theorem State.modArm_eccBad (f : Arm → Arm) : (s.modArm f).eccBad = s.eccBad := rfl
@[simp] theorem State.modArm_out (f : Arm → Arm) : (s.modArm f).out = s.out := rfl
@[simp] theorem State.modArm_fresh (f : Arm → Arm) : (s.modArm f).fresh = s.fresh := rfl
@[simp] theorem State.modArm_pending (f : Arm → Arm) : (s.modArm f).pending = s.pending := rfl

@[simp] theorem State.modHst_regs (f : Hst → Hst) : (s.modHst f).regs = s.regs := rfl
@[simp] theorem State.modHst_glb (f : Hst → Hst) : (s.modHst f).glb = s.glb := rfl
@[simp] theorem State.modHst_pwr (f : Hst → Hst) : (s.modHst f).pwr = s.pwr := rfl
@[simp] theorem State.modHst_tim (f : Hst → Hst) : (s.modHst f).tim = s.tim := rfl
@[simp] theorem State.modHst_ports (f : Hst → Hst) : (s.modHst f).ports = s.ports := rfl
@[simp] theorem State.modHst_banks (f : Hst → Hst) : (s.modHst f).banks = s.banks := rfl
@[simp] theorem State.modHst_snt (f : Hst → Hst) : (s.modHst f).snt = s.snt := rfl
@[simp] theorem State.modHst_flw (f : Hst → Hst) : (s.modHst f).flw = s.flw := rfl
@[simp] theorem State.modHst_chs (f : Hst → Hst) : (s.modHst f).chs = s.chs := rfl
@[simp] theorem State.modHst_aln (f : Hst → Hst) : (s.modHst f).aln = s.aln := rfl
@[simp] theorem State.modHst_rcl (f : Hst → Hst) : (s.modHst f).rcl = s.rcl := rfl
@[simp] theorem State.modHst_ana (f : Hst → Hst) : (s.modHst f).ana = s.ana := rfl
@[simp] theorem State.modHst_cap (f : Hst → Hst) : (s.modHst f).cap = s.cap := rfl
@[simp] theorem State.modHst_egr (f : Hst → Hst) : (s.modHst f).egr = s.egr := rfl
@[simp] theorem State.modHst_arm (f : Hst → Hst) : (s.modHst f).arm = s.arm := rfl
@[simp] theorem State.modHst_hst (f : Hst → Hst) : (s.modHst f).hst = f s.hst := rfl
@[simp] theorem State.modHst_pbr (f : Hst → Hst) : (s.modHst f).pbr = s.pbr := rfl
@[simp] theorem State.modHst_cfg (f : Hst → Hst) : (s.modHst f).cfg = s.cfg := rfl
@[simp] theorem State.modHst_ddr (f : Hst → Hst) : (s.modHst f).ddr = s.ddr := rfl
@[simp] theorem State.modHst_flash (f : Hst → Hst) : (s.modHst f).flash = s.flash := rfl
@[simp] theorem State.modHst_log (f : Hst → Hst) : (s.modHst f).log = s.log := rfl
@[simp] theorem State.modHst_eccBad (f : Hst → Hst) : (s.modHst f).eccBad = s.eccBad := rfl
@[simp] theorem State.modHst_out (f : Hst → Hst) : (s.modHst f).out = s.out := rfl
@[simp] theorem State.modHst_fresh (f : Hst → Hst) : (s.modHst f).fresh = s.fresh := rfl
@[simp] theorem State.modHst_pending (f : Hst → Hst) : (s.modHst f).pending = s.pending := rfl

@[simp] theorem State.modPbr_regs (f : Pbr → Pbr) : (s.modPbr f).regs = s.regs := rfl
@[simp] theorem State.modPbr_glb (f : Pbr → Pbr) : (s.modPbr f).glb = s.glb := rfl
@[simp] theorem State.modPbr_pwr (f : Pbr → Pbr) : (s.modPbr f).pwr = s.pwr := rfl
@[simp] theorem State.modPbr_tim (f : Pbr → Pbr) : (s.modPbr f).tim = s.tim := rfl
@[simp] theorem State.modPbr_ports (f : Pbr → Pbr) : (s.modPbr f).ports = s.ports := rfl
@[simp] theorem State.modPbr_banks (f : Pbr → Pbr) : (s.modPbr f).banks = s.banks := rfl
@[simp] theorem State.modPbr_snt (f : Pbr → Pbr) : (s.modPbr f).snt = s.snt := rfl
@[simp] theorem State.modPbr_flw (f : Pbr → Pbr) : (s.modPbr f).flw = s.flw := rfl
@[simp] theorem State.modPbr_chs (f : Pbr → Pbr) : (s.modPbr f).chs = s.chs := rfl
@[simp] theorem State.modPbr_aln (f : Pbr → Pbr) : (s.modPbr f).aln = s.aln := rfl
@[simp] theorem State.modPbr_rcl (f : Pbr → Pbr) : (s.modPbr f).rcl = s.rcl := rfl
@[simp] theorem State.modPbr_ana (f : Pbr → Pbr) : (s.modPbr f).ana = s.ana := rfl
@[simp] theorem State.modPbr_cap (f : Pbr → Pbr) : (s.modPbr f).cap = s.cap := rfl
@[simp] theorem State.modPbr_egr (f : Pbr → Pbr) : (s.modPbr f).egr = s.egr := rfl
@[simp] theorem State.modPbr_arm (f : Pbr → Pbr) : (s.modPbr f).arm = s.arm := rfl
@[simp] theorem State.modPbr_hst (f : Pbr → Pbr) : (s.modPbr f).hst = s.hst := rfl
@[simp] theorem State.modPbr_pbr (f : Pbr → Pbr) : (s.modPbr f).pbr = f s.pbr := rfl
@[simp] theorem State.modPbr_cfg (f : Pbr → Pbr) : (s.modPbr f).cfg = s.cfg := rfl
@[simp] theorem State.modPbr_ddr (f : Pbr → Pbr) : (s.modPbr f).ddr = s.ddr := rfl
@[simp] theorem State.modPbr_flash (f : Pbr → Pbr) : (s.modPbr f).flash = s.flash := rfl
@[simp] theorem State.modPbr_log (f : Pbr → Pbr) : (s.modPbr f).log = s.log := rfl
@[simp] theorem State.modPbr_eccBad (f : Pbr → Pbr) : (s.modPbr f).eccBad = s.eccBad := rfl
@[simp] theorem State.modPbr_out (f : Pbr → Pbr) : (s.modPbr f).out = s.out := rfl
@[simp] theorem State.modPbr_fresh (f : Pbr → Pbr) : (s.modPbr f).fresh = s.fresh := rfl
@[simp] theorem State.modPbr_pending (f : Pbr → Pbr) : (s.modPbr f).pending = s.pending := rfl

@[simp] theorem State.modCfg_regs (f : Cfg → Cfg) : (s.modCfg f).regs = s.regs := rfl
@[simp] theorem State.modCfg_glb (f : Cfg → Cfg) : (s.modCfg f).glb = s.glb := rfl
@[simp] theorem State.modCfg_pwr (f : Cfg → Cfg) : (s.modCfg f).pwr = s.pwr := rfl
@[simp] theorem State.modCfg_tim (f : Cfg → Cfg) : (s.modCfg f).tim = s.tim := rfl
@[simp] theorem State.modCfg_ports (f : Cfg → Cfg) : (s.modCfg f).ports = s.ports := rfl
@[simp] theorem State.modCfg_banks (f : Cfg → Cfg) : (s.modCfg f).banks = s.banks := rfl
@[simp] theorem State.modCfg_snt (f : Cfg → Cfg) : (s.modCfg f).snt = s.snt := rfl
@[simp] theorem State.modCfg_flw (f : Cfg → Cfg) : (s.modCfg f).flw = s.flw := rfl
@[simp] theorem State.modCfg_chs (f : Cfg → Cfg) : (s.modCfg f).chs = s.chs := rfl
@[simp] theorem State.modCfg_aln (f : Cfg → Cfg) : (s.modCfg f).aln = s.aln := rfl
@[simp] theorem State.modCfg_rcl (f : Cfg → Cfg) : (s.modCfg f).rcl = s.rcl := rfl
@[simp] theorem State.modCfg_ana (f : Cfg → Cfg) : (s.modCfg f).ana = s.ana := rfl
@[simp] theorem State.modCfg_cap (f : Cfg → Cfg) : (s.modCfg f).cap = s.cap := rfl
@[simp] theorem State.modCfg_egr (f : Cfg → Cfg) : (s.modCfg f).egr = s.egr := rfl
@[simp] theorem State.modCfg_arm (f : Cfg → Cfg) : (s.modCfg f).arm = s.arm := rfl
@[simp] theorem State.modCfg_hst (f : Cfg → Cfg) : (s.modCfg f).hst = s.hst := rfl
@[simp] theorem State.modCfg_pbr (f : Cfg → Cfg) : (s.modCfg f).pbr = s.pbr := rfl
@[simp] theorem State.modCfg_cfg (f : Cfg → Cfg) : (s.modCfg f).cfg = f s.cfg := rfl
@[simp] theorem State.modCfg_ddr (f : Cfg → Cfg) : (s.modCfg f).ddr = s.ddr := rfl
@[simp] theorem State.modCfg_flash (f : Cfg → Cfg) : (s.modCfg f).flash = s.flash := rfl
@[simp] theorem State.modCfg_log (f : Cfg → Cfg) : (s.modCfg f).log = s.log := rfl
@[simp] theorem State.modCfg_eccBad (f : Cfg → Cfg) : (s.modCfg f).eccBad = s.eccBad := rfl
@[simp] theorem State.modCfg_out (f : Cfg → Cfg) : (s.modCfg f).out = s.out := rfl
@[simp] theorem State.modCfg_fresh (f : Cfg → Cfg) : (s.modCfg f).fresh = s.fresh := rfl
@[simp] theorem State.modCfg_pending (f : Cfg → Cfg) : (s.modCfg f).pending = s.pending := rfl

@[simp] theorem State.setPort_regs (n : Nat) (p : Port) : (s.setPort n p).regs = s.regs := rfl
@[simp] theorem State.setPort_glb (n : Nat) (p : Port) : (s.setPort n p).glb = s.glb := rfl
@[simp] theorem State.setPort_pwr (n : Nat) (p : Port) : (s.setPort n p).pwr = s.pwr := rfl
@[simp] theorem State.setPort_tim (n : Nat) (p : Port) : (s.setPort n p).tim = s.tim := rfl
@[simp] theorem State.setPort_ports (n : Nat) (p : Port) : (s.setPort n p).ports = s.ports.put {} n p := rfl
@[simp] theorem State.setPort_banks (n : Nat) (p : Port) : (s.setPort n p).banks = s.banks := rfl
@[simp] theorem State.setPort_snt (n : Nat) (p : Port) : (s.setPort n p).snt = s.snt := rfl
@[simp] theorem State.setPort_flw (n : Nat) (p : Port) : (s.setPort n p).flw = s.flw := rfl
@[simp] theorem State.setPort_chs (n : Nat) (p : Port) : (s.setPort n p).chs = s.chs := rfl
@[simp] theorem State.setPort_aln (n : Nat) (p : Port) : (s.setPort n p).aln = s.aln := rfl
@[simp] theorem State.setPort_rcl (n : Nat) (p : Port) : (s.setPort n p).rcl = s.rcl := rfl
@[simp] theorem State.setPort_ana (n : Nat) (p : Port) : (s.setPort n p).ana = s.ana := rfl
@[simp] theorem State.setPort_cap (n : Nat) (p : Port) : (s.setPort n p).cap = s.cap := rfl
@[simp] theorem State.setPort_egr (n : Nat) (p : Port) : (s.setPort n p).egr = s.egr := rfl
@[simp] theorem State.setPort_arm (n : Nat) (p : Port) : (s.setPort n p).arm = s.arm := rfl
@[simp] theorem State.setPort_hst (n : Nat) (p : Port) : (s.setPort n p).hst = s.hst := rfl
@[simp] theorem State.setPort_pbr (n : Nat) (p : Port) : (s.setPort n p).pbr = s.pbr := rfl
@[simp] theorem State.setPort_cfg (n : Nat) (p : Port) : (s.setPort n p).cfg = s.cfg := rfl
@[simp] theorem State.setPort_ddr (n : Nat) (p : Port) : (s.setPort n p).ddr = s.ddr := rfl
@[simp] theorem State.setPort_flash (n : Nat) (p : Port) : (s.setPort n p).flash = s.flash := rfl
@[simp] theorem State.setPort_log (n : Nat) (p : Port) : (s.setPort n p).log = s.log := rfl
@[simp] theorem State.setPort_eccBad (n : Nat) (p : Port) : (s.setPort n p).eccBad = s.eccBad := rfl
@[simp] theorem State.setPort_out (n : Nat) (p : Port) : (s.setPort n p).out = s.out := rfl
@[simp] theorem State.setPort_fresh (n : Nat) (p : Port) : (s.setPort n p).fresh = s.fresh := rfl
@[simp] theorem State.setPort_pending (n : Nat) (p : Port) : (s.setPort n p).pending = s.pending := rfl

@[simp] theorem State.setBank_regs (n : Nat) (p : Bank) : (s.setBank n p).regs = s.regs := rfl
@[simp] theorem State.setBank_glb (n : Nat) (p : Bank) : (s.setBank n p).glb = s.glb := rfl
@[simp] theorem State.setBank_pwr (n : Nat) (p : Bank) : (s.setBank n p).pwr = s.pwr := rfl
@[simp] theorem State.setBank_tim (n : Nat) (p : Bank) : (s.setBank n p).tim = s.tim := rfl
@[simp] theorem State.setBank_ports (n : Nat) (p : Bank) : (s.setBank n p).ports = s.ports := rfl
@[simp] theorem State.setBank_banks (n : Nat) (p : Bank) : (s.setBank n p).banks = s.banks.put {} n p := rfl
@[simp] theorem State.setBank_snt (n : Nat) (p : Bank) : (s.setBank n p).snt = s.snt := rfl
@[simp] theorem State.setBank_flw (n : Nat) (p : Bank) : (s.setBank n p).flw = s.flw := rfl
@[simp] theorem State.setBank_chs (n : Nat) (p : Bank) : (s.setBank n p).chs = s.chs := rfl
@[simp] theorem State.setBank_aln (n : Nat) (p : Bank) : (s.setBank n p).aln = s.aln := rfl
@[simp] theorem State.setBank_rcl (n : Nat) (p : Bank) : (s.setBank n p).rcl = s.rcl := rfl
@[simp] theorem State.setBank_ana (n : Nat) (p : Bank) : (s.setBank n p).ana = s.ana := rfl
@[simp] theorem State.setBank_cap (n : Nat) (p : Bank) : (s.setBank n p).cap = s.cap := rfl
@[simp] theorem State.setBank_egr (n : Nat) (p : Bank) : (s.setBank n p).egr = s.egr := rfl
@[simp] theorem State.setBank_arm (n : Nat) (p : Bank) : (s.setBank n p).arm = s.arm := rfl
@[simp] theorem State.setBank_hst (n : Nat) (p : Bank) : (s.setBank n p).hst = s.hst := rfl
@[simp] theorem State.setBank_pbr (n : Nat) (p : Bank) : (s.setBank n p).pbr = s.pbr := rfl
@[simp] theorem State.setBank_cfg (n : Nat) (p : Bank) : (s.setBank n p).cfg = s.cfg := rfl
@[simp] theorem State.setBank_ddr (n : Nat) (p : Bank) : (s.setBank n p).ddr = s.ddr := rfl
@[simp] theorem State.setBank_flash (n : Nat) (p : Bank) : (s.setBank n p).flash = s.flash := rfl
@[simp] theorem State.setBank_log (n : Nat) (p : Bank) : (s.setBank n p).log = s.log := rfl
@[simp] theorem State.setBank_eccBad (n : Nat) (p : Bank) : (s.setBank n p).eccBad = s.eccBad := rfl
@[simp] theorem State.setBank_out (n : Nat) (p : Bank) : (s.setBank n p).out = s.out := rfl
@[simp] theorem State.setBank_fresh (n : Nat) (p : Bank) : (s.setBank n p).fresh = s.fresh := rfl
@[simp] theorem State.setBank_pending (n : Nat) (p : Bank) : (s.setBank n p).pending = s.pending := rfl

@[simp] theorem State.setThread_regs (n : Nat) (t : Thread) : (s.setThread n t).regs = s.regs := rfl
@[simp] theorem State.setThread_glb (n : Nat) (t : Thread) : (s.setThread n t).glb = s.glb := rfl
@[simp] theorem State.setThread_pwr (n : Nat) (t : Thread) : (s.setThread n t).pwr = s.pwr := rfl
@[simp] theorem State.setThread_tim (n : Nat) (t : Thread) : (s.setThread n t).tim = s.tim := rfl
@[simp] theorem State.setThread_ports (n : Nat) (t : Thread) : (s.setThread n t).ports = s.ports := rfl
@[simp] theorem State.setThread_banks (n : Nat) (t : Thread) : (s.setThread n t).banks = s.banks := rfl
@[simp] theorem State.setThread_snt (n : Nat) (t : Thread) : (s.setThread n t).snt = s.snt := rfl
@[simp] theorem State.setThread_flw (n : Nat) (t : Thread) : (s.setThread n t).flw = s.flw := rfl
@[simp] theorem State.setThread_chs (n : Nat) (t : Thread) : (s.setThread n t).chs = { s.chs with threads := s.chs.threads.put {} n t } := rfl
@[simp] theorem State.setThread_aln (n : Nat) (t : Thread) : (s.setThread n t).aln = s.aln := rfl
@[simp] theorem State.setThread_rcl (n : Nat) (t : Thread) : (s.setThread n t).rcl = s.rcl := rfl
@[simp] theorem State.setThread_ana (n : Nat) (t : Thread) : (s.setThread n t).ana = s.ana := rfl
@[simp] theorem State.setThread_cap (n : Nat) (t : Thread) : (s.setThread n t).cap = s.cap := rfl
@[simp] theorem State.setThread_egr (n : Nat) (t : Thread) : (s.setThread n t).egr = s.egr := rfl
@[simp] theorem State.setThread_arm (n : Nat) (t : Thread) : (s.setThread n t).arm = s.arm := rfl
@[simp] theorem State.setThread_hst (n : Nat) (t : Thread) : (s.setThread n t).hst = s.hst := rfl
@[simp] theorem State.setThread_pbr (n : Nat) (t : Thread) : (s.setThread n t).pbr = s.pbr := rfl
@[simp] theorem State.setThread_cfg (n : Nat) (t : Thread) : (s.setThread n t).cfg = s.cfg := rfl
@[simp] theorem State.setThread_ddr (n : Nat) (t : Thread) : (s.setThread n t).ddr = s.ddr := rfl
@[simp] theorem State.setThread_flash (n : Nat) (t : Thread) : (s.setThread n t).flash = s.flash := rfl
@[simp] theorem State.setThread_log (n : Nat) (t : Thread) : (s.setThread n t).log = s.log := rfl
@[simp] theorem State.setThread_eccBad (n : Nat) (t : Thread) : (s.setThread n t).eccBad = s.eccBad := rfl
@[simp] theorem State.setThread_out (n : Nat) (t : Thread) : (s.setThread n t).out = s.out := rfl
@[simp] theorem State.setThread_fresh (n : Nat) (t : Thread) : (s.setThread n t).fresh = s.fresh := rfl
@[simp] theorem State.setThread_pending (n : Nat) (t : Thread) : (s.setThread n t).pending = s.pending := rfl

@[simp] theorem State.setDom_regs (n : Nat) (x : Dom) : (s.setDom n x).regs = s.regs := rfl
@[simp] theorem State.setDom_glb (n : Nat) (x : Dom) : (s.setDom n x).glb = s.glb := rfl
@[simp] theorem State.setDom_pwr (n : Nat) (x : Dom) : (s.setDom n x).pwr = s.pwr := rfl
@[simp] theorem State.setDom_tim (n : Nat) (x : Dom) : (s.setDom n x).tim = s.tim := rfl
@[simp] theorem State.setDom_ports (n : Nat) (x : Dom) : (s.setDom n x).ports = s.ports := rfl
@[simp] theorem State.setDom_banks (n : Nat) (x : Dom) : (s.setDom n x).banks = s.banks := rfl
@[simp] theorem State.setDom_snt (n : Nat) (x : Dom) : (s.setDom n x).snt = s.snt := rfl
@[simp] theorem State.setDom_flw (n : Nat) (x : Dom) : (s.setDom n x).flw = s.flw := rfl
@[simp] theorem State.setDom_chs (n : Nat) (x : Dom) : (s.setDom n x).chs = s.chs := rfl
@[simp] theorem State.setDom_aln (n : Nat) (x : Dom) : (s.setDom n x).aln = { s.aln with doms := s.aln.doms.put {} n x } := rfl
@[simp] theorem State.setDom_rcl (n : Nat) (x : Dom) : (s.setDom n x).rcl = s.rcl := rfl
@[simp] theorem State.setDom_ana (n : Nat) (x : Dom) : (s.setDom n x).ana = s.ana := rfl
@[simp] theorem State.setDom_cap (n : Nat) (x : Dom) : (s.setDom n x).cap = s.cap := rfl
@[simp] theorem State.setDom_egr (n : Nat) (x : Dom) : (s.setDom n x).egr = s.egr := rfl
@[simp] theorem State.setDom_arm (n : Nat) (x : Dom) : (s.setDom n x).arm = s.arm := rfl
@[simp] theorem State.setDom_hst (n : Nat) (x : Dom) : (s.setDom n x).hst = s.hst := rfl
@[simp] theorem State.setDom_pbr (n : Nat) (x : Dom) : (s.setDom n x).pbr = s.pbr := rfl
@[simp] theorem State.setDom_cfg (n : Nat) (x : Dom) : (s.setDom n x).cfg = s.cfg := rfl
@[simp] theorem State.setDom_ddr (n : Nat) (x : Dom) : (s.setDom n x).ddr = s.ddr := rfl
@[simp] theorem State.setDom_flash (n : Nat) (x : Dom) : (s.setDom n x).flash = s.flash := rfl
@[simp] theorem State.setDom_log (n : Nat) (x : Dom) : (s.setDom n x).log = s.log := rfl
@[simp] theorem State.setDom_eccBad (n : Nat) (x : Dom) : (s.setDom n x).eccBad = s.eccBad := rfl
@[simp] theorem State.setDom_out (n : Nat) (x : Dom) : (s.setDom n x).out = s.out := rfl
@[simp] theorem State.setDom_fresh (n : Nat) (x : Dom) : (s.setDom n x).fresh = s.fresh := rfl
@[simp] theorem State.setDom_pending (n : Nat) (x : Dom) : (s.setDom n x).pending = s.pending := rfl

@[simp] theorem State.setLane_regs (n : Nat) (x : Lane) : (s.setLane n x).regs = s.regs := rfl
@[simp] theorem State.setLane_glb (n : Nat) (x : Lane) : (s.setLane n x).glb = s.glb := rfl
@[simp] theorem State.setLane_pwr (n : Nat) (x : Lane) : (s.setLane n x).pwr = s.pwr := rfl
@[simp] theorem State.setLane_tim (n : Nat) (x : Lane) : (s.setLane n x).tim = s.tim := rfl
@[simp] theorem State.setLane_ports (n : Nat) (x : Lane) : (s.setLane n x).ports = s.ports := rfl
@[simp] theorem State.setLane_banks (n : Nat) (x : Lane) : (s.setLane n x).banks = s.banks := rfl
@[simp] theorem State.setLane_snt (n : Nat) (x : Lane) : (s.setLane n x).snt = s.snt := rfl
@[simp] theorem State.setLane_flw (n : Nat) (x : Lane) : (s.setLane n x).flw = s.flw := rfl
@[simp] theorem State.setLane_chs (n : Nat) (x : Lane) : (s.setLane n x).chs = s.chs := rfl
@[simp] theorem State.setLane_aln (n : Nat) (x : Lane) : (s.setLane n x).aln = s.aln := rfl
@[simp] theorem State.setLane_rcl (n : Nat) (x : Lane) : (s.setLane n x).rcl = { s.rcl with lanes := s.rcl.lanes.put {} n x } := rfl
@[simp] theorem State.setLane_ana (n : Nat) (x : Lane) : (s.setLane n x).ana = s.ana := rfl
@[simp] theorem State.setLane_cap (n : Nat) (x : Lane) : (s.setLane n x).cap = s.cap := rfl
@[simp] theorem State.setLane_egr (n : Nat) (x : Lane) : (s.setLane n x).egr = s.egr := rfl
@[simp] theorem State.setLane_arm (n : Nat) (x : Lane) : (s.setLane n x).arm = s.arm := rfl
@[simp] theorem State.setLane_hst (n : Nat) (x : Lane) : (s.setLane n x).hst = s.hst := rfl
@[simp] theorem State.setLane_pbr (n : Nat) (x : Lane) : (s.setLane n x).pbr = s.pbr := rfl
@[simp] theorem State.setLane_cfg (n : Nat) (x : Lane) : (s.setLane n x).cfg = s.cfg := rfl
@[simp] theorem State.setLane_ddr (n : Nat) (x : Lane) : (s.setLane n x).ddr = s.ddr := rfl
@[simp] theorem State.setLane_flash (n : Nat) (x : Lane) : (s.setLane n x).flash = s.flash := rfl
@[simp] theorem State.setLane_log (n : Nat) (x : Lane) : (s.setLane n x).log = s.log := rfl
@[simp] theorem State.setLane_eccBad (n : Nat) (x : Lane) : (s.setLane n x).eccBad = s.eccBad := rfl
@[simp] theorem State.setLane_out (n : Nat) (x : Lane) : (s.setLane n x).out = s.out := rfl
@[simp] theorem State.setLane_fresh (n : Nat) (x : Lane) : (s.setLane n x).fresh = s.fresh := rfl
@[simp] theorem State.setLane_pending (n : Nat) (x : Lane) : (s.setLane n x).pending = s.pending := rfl

@[simp] theorem State.setGroup_regs (n : Nat) (x : CapGroup) : (s.setGroup n x).regs = s.regs := rfl
@[simp] theorem State.setGroup_glb (n : Nat) (x : CapGroup) : (s.setGroup n x).glb = s.glb := rfl
@[simp] theorem State.setGroup_pwr (n : Nat) (x : CapGroup) : (s.setGroup n x).pwr = s.pwr := rfl
@[simp] theorem State.setGroup_tim (n : Nat) (x : CapGroup) : (s.setGroup n x).tim = s.tim := rfl
@[simp] theorem State.setGroup_ports (n : Nat) (x : CapGroup) : (s.setGroup n x).ports = s.ports := rfl
@[simp] theorem State.setGroup_banks (n : Nat) (x : CapGroup) : (s.setGroup n x).banks = s.banks := rfl
@[simp] theorem State.setGroup_snt (n : Nat) (x : CapGroup) : (s.setGroup n x).snt = s.snt := rfl
@[simp] theorem State.setGroup_flw (n : Nat) (x : CapGroup) : (s.setGroup n x).flw = s.flw := rfl
@[simp] theorem State.setGroup_chs (n : Nat) (x : CapGroup) : (s.setGroup n x).chs = s.chs := rfl
@[simp] theorem State.setGroup_aln (n : Nat) (x : CapGroup) : (s.setGroup n x).aln = s.aln := rfl
@[simp] theorem State.setGroup_rcl (n : Nat) (x : CapGroup) : (s.setGroup n x).rcl = s.rcl := rfl
@[simp] theorem State.setGroup_ana (n : Nat) (x : CapGroup) : (s.setGroup n x).ana = s.ana := rfl
@[simp] theorem State.setGroup_cap (n : Nat) (x : CapGroup) : (s.setGroup n x).cap = { s.cap with groups := s.cap.groups.put {} n x } := rfl
@[simp] theorem State.setGroup_egr (n : Nat) (x : CapGroup) : (s.setGroup n x).egr = s.egr := rfl
@[simp] theorem State.setGroup_arm (n : Nat) (x : CapGroup) : (s.setGroup n x).arm = s.arm := rfl
@[simp] theorem State.setGroup_hst (n : Nat) (x : CapGroup) : (s.setGroup n x).hst = s.hst := rfl
@[simp] theorem State.setGroup_pbr (n : Nat) (x : CapGroup) : (s.setGroup n x).pbr = s.pbr := rfl
@[simp] theorem State.setGroup_cfg (n : Nat) (x : CapGroup) : (s.setGroup n x).cfg = s.cfg := rfl
@[simp] theorem State.setGroup_ddr (n : Nat) (x : CapGroup) : (s.setGroup n x).ddr = s.ddr := rfl
@[simp] theorem State.setGroup_flash (n : Nat) (x : CapGroup) : (s.setGroup n x).flash = s.flash := rfl
@[simp] theorem State.setGroup_log (n : Nat) (x : CapGroup) : (s.setGroup n x).log = s.log := rfl
@[simp] theorem State.setGroup_eccBad (n : Nat) (x : CapGroup) : (s.setGroup n x).eccBad = s.eccBad := rfl
@[simp] theorem State.setGroup_out (n : Nat) (x : CapGroup) : (s.setGroup n x).out = s.out := rfl
@[simp] theorem State.setGroup_fresh (n : Nat) (x : CapGroup) : (s.setGroup n x).fresh = s.fresh := rfl
@[simp] theorem State.setGroup_pending (n : Nat) (x : CapGroup) : (s.setGroup n x).pending = s.pending := rfl

@[simp] theorem State.setLink_regs (n : Nat) (x : Link) : (s.setLink n x).regs = s.regs := rfl
@[simp] theorem State.setLink_glb (n : Nat) (x : Link) : (s.setLink n x).glb = s.glb := rfl
@[simp] theorem State.setLink_pwr (n : Nat) (x : Link) : (s.setLink n x).pwr = s.pwr := rfl
@[simp] theorem State.setLink_tim (n : Nat) (x : Link) : (s.setLink n x).tim = s.tim := rfl
@[simp] theorem State.setLink_ports (n : Nat) (x : Link) : (s.setLink n x).ports = s.ports := rfl
@[simp] theorem State.setLink_banks (n : Nat) (x : Link) : (s.setLink n x).banks = s.banks := rfl
@[simp] theorem State.setLink_snt (n : Nat) (x : Link) : (s.setLink n x).snt = s.snt := rfl
@[simp] theorem State.setLink_flw (n : Nat) (x : Link) : (s.setLink n x).flw = s.flw := rfl
@[simp] theorem State.setLink_chs (n : Nat) (x : Link) : (s.setLink n x).chs = s.chs := rfl
@[simp] theorem State.setLink_aln (n : Nat) (x : Link) : (s.setLink n x).aln = s.aln := rfl
@[simp] theorem State.setLink_rcl (n : Nat) (x : Link) : (s.setLink n x).rcl = s.rcl := rfl
@[simp] theorem State.setLink_ana (n : Nat) (x : Link) : (s.setLink n x).ana = s.ana := rfl
@[simp] theorem State.setLink_cap (n : Nat) (x : Link) : (s.setLink n x).cap = s.cap := rfl
@[simp] theorem State.setLink_egr (n : Nat) (x : Link) : (s.setLink n x).egr = s.egr := rfl
@[simp] theorem State.setLink_arm (n : Nat) (x : Link) : (s.setLink n x).arm = { s.arm with links := s.arm.links.put {} n x } := rfl
@[simp] theorem State.setLink_hst (n : Nat) (x : Link) : (s.setLink n x).hst = s.hst := rfl
@[simp] theorem State.setLink_pbr (n : Nat) (x : Link) : (s.setLink n x).pbr = s.pbr := rfl
@[simp] theorem State.setLink_cfg (n : Nat) (x : Link) : (s.setLink n x).cfg = s.cfg := rfl
@[simp] theorem State.setLink_ddr (n : Nat) (x : Link) : (s.setLink n x).ddr = s.ddr := rfl
@[simp] theorem State.setLink_flash (n : Nat) (x : Link) : (s.setLink n x).flash = s.flash := rfl
@[simp] theorem State.setLink_log (n : Nat) (x : Link) : (s.setLink n x).log = s.log := rfl
@[simp] theorem State.setLink_eccBad (n : Nat) (x : Link) : (s.setLink n x).eccBad = s.eccBad := rfl
@[simp] theorem State.setLink_out (n : Nat) (x : Link) : (s.setLink n x).out = s.out := rfl
@[simp] theorem State.setLink_fresh (n : Nat) (x : Link) : (s.setLink n x).fresh = s.fresh := rfl
@[simp] theorem State.setLink_pending (n : Nat) (x : Link) : (s.setLink n x).pending = s.pending := rfl

@[simp] theorem State.setHq_regs (n : Nat) (x : HostQueue) : (s.setHq n x).regs = s.regs := rfl
@[simp] theorem State.setHq_glb (n : Nat) (x : HostQueue) : (s.setHq n x).glb = s.glb := rfl
@[simp] theorem State.setHq_pwr (n : Nat) (x : HostQueue) : (s.setHq n x).pwr = s.pwr := rfl
@[simp] theorem State.setHq_tim (n : Nat) (x : HostQueue) : (s.setHq n x).tim = s.tim := rfl
@[simp] theorem State.setHq_ports (n : Nat) (x : HostQueue) : (s.setHq n x).ports = s.ports := rfl
@[simp] theorem State.setHq_banks (n : Nat) (x : HostQueue) : (s.setHq n x).banks = s.banks := rfl
@[simp] theorem State.setHq_snt (n : Nat) (x : HostQueue) : (s.setHq n x).snt = s.snt := rfl
@[simp] theorem State.setHq_flw (n : Nat) (x : HostQueue) : (s.setHq n x).flw = s.flw := rfl
@[simp] theorem State.setHq_chs (n : Nat) (x : HostQueue) : (s.setHq n x).chs = s.chs := rfl
@[simp] theorem State.setHq_aln (n : Nat) (x : HostQueue) : (s.setHq n x).aln = s.aln := rfl
@[simp] theorem State.setHq_rcl (n : Nat) (x : HostQueue) : (s.setHq n x).rcl = s.rcl := rfl
@[simp] theorem State.setHq_ana (n : Nat) (x : HostQueue) : (s.setHq n x).ana = s.ana := rfl
@[simp] theorem State.setHq_cap (n : Nat) (x : HostQueue) : (s.setHq n x).cap = s.cap := rfl
@[simp] theorem State.setHq_egr (n : Nat) (x : HostQueue) : (s.setHq n x).egr = { s.egr with hqs := s.egr.hqs.put {} n x } := rfl
@[simp] theorem State.setHq_arm (n : Nat) (x : HostQueue) : (s.setHq n x).arm = s.arm := rfl
@[simp] theorem State.setHq_hst (n : Nat) (x : HostQueue) : (s.setHq n x).hst = s.hst := rfl
@[simp] theorem State.setHq_pbr (n : Nat) (x : HostQueue) : (s.setHq n x).pbr = s.pbr := rfl
@[simp] theorem State.setHq_cfg (n : Nat) (x : HostQueue) : (s.setHq n x).cfg = s.cfg := rfl
@[simp] theorem State.setHq_ddr (n : Nat) (x : HostQueue) : (s.setHq n x).ddr = s.ddr := rfl
@[simp] theorem State.setHq_flash (n : Nat) (x : HostQueue) : (s.setHq n x).flash = s.flash := rfl
@[simp] theorem State.setHq_log (n : Nat) (x : HostQueue) : (s.setHq n x).log = s.log := rfl
@[simp] theorem State.setHq_eccBad (n : Nat) (x : HostQueue) : (s.setHq n x).eccBad = s.eccBad := rfl
@[simp] theorem State.setHq_out (n : Nat) (x : HostQueue) : (s.setHq n x).out = s.out := rfl
@[simp] theorem State.setHq_fresh (n : Nat) (x : HostQueue) : (s.setHq n x).fresh = s.fresh := rfl
@[simp] theorem State.setHq_pending (n : Nat) (x : HostQueue) : (s.setHq n x).pending = s.pending := rfl

end Sys2Proof.Machine
end

