-- ==== Sys2Proof/Laws/Ops.lean ====
section
/-! SUPPORT. What the named operations over registers do: a register read after a write, counters, fields, flags and outputs. -/

namespace Sys2Proof.Machine

/-- A register reads what was written last. -/
theorem State.reg_setReg (s : State) (o p : Nat) (v : BitVec 32) : (s.setReg o v).reg p = if p = o then v else s.reg p :=
  SMap.get_set regReset s.regs o p v

@[simp] theorem State.reg_setReg_self (s : State) (o : Nat) (v : BitVec 32) : (s.setReg o v).reg o = v := by
  rw [State.reg_setReg, if_pos rfl]

/-- Another register is not changed. -/
theorem State.reg_setReg_ne (s : State) {o p : Nat} (v : BitVec 32) (h : p ≠ o) : (s.setReg o v).reg p = s.reg p := by
  rw [State.reg_setReg, if_neg h]

theorem State.fld_setReg_ne (s : State) {o p : Nat} (v : BitVec 32) (lo w : Nat) (h : p ≠ o) :
    (s.setReg o v).fld p lo w = s.fld p lo w := by
  unfold State.fld; rw [State.reg_setReg_ne s v h]

/-- Reads depend on the register store only. -/
theorem State.reg_of_regs {s t : State} (h : s.regs = t.regs) (p : Nat) : s.reg p = t.reg p := by unfold State.reg; rw [h]

theorem State.fld_of_regs {s t : State} (h : s.regs = t.regs) (p lo w : Nat) : s.fld p lo w = t.fld p lo w := by
  unfold State.fld; rw [State.reg_of_regs h]

/-- A counter counts one and no other register changes. -/
theorem State.reg_count (s : State) (o p : Nat) : (s.count o).reg p = if p = o then s.reg o + 1 else s.reg p :=
  State.reg_setReg s o p _

theorem State.fld_count_ne (s : State) {o p : Nat} (lo w : Nat) (h : p ≠ o) : (s.count o).fld p lo w = s.fld p lo w :=
  State.fld_setReg_ne s _ lo w h

@[simp] theorem State.count_chs (s : State) (o : Nat) : (s.count o).chs = s.chs := rfl
@[simp] theorem State.count_tim (s : State) (o : Nat) : (s.count o).tim = s.tim := rfl
@[simp] theorem State.count_glb (s : State) (o : Nat) : (s.count o).glb = s.glb := rfl
@[simp] theorem State.count_out (s : State) (o : Nat) : (s.count o).out = s.out := rfl
@[simp] theorem State.count_pending (s : State) (o : Nat) : (s.count o).pending = s.pending := rfl

/-- Writing a field of a register changes no other register. -/
theorem State.reg_setFld_ne (s : State) {o p : Nat} (lo w v : Nat) (h : p ≠ o) : (s.setFld o lo w v).reg p = s.reg p :=
  State.reg_setReg_ne s _ h

/-- Writing a field of a register that fits and lies within the word reads back. -/
theorem State.fld_setFld_self (s : State) (o lo w v : Nat) (hv : v < 2 ^ w) (hw : lo + w ≤ 32) : (s.setFld o lo w v).fld o lo w = v := by
  unfold State.fld State.setFld
  simp only [State.reg_setReg_self, BitVec.toNat_ofNat]
  generalize hx : (s.reg o).toNat = x
  have hx32 : x < 2 ^ 32 := hx ▸ (s.reg o).isLt
  have hp : 0 < 2 ^ lo := Nat.two_pow_pos lo
  have hq : 0 < 2 ^ w := Nat.two_pow_pos w
  obtain ⟨k, hk⟩ : ∃ k, 32 = lo + w + k := ⟨32 - lo - w, by omega⟩
  have e1 : (2:Nat) ^ 32 = 2 ^ lo * (2 ^ w * 2 ^ k) := by rw [hk, Nat.pow_add, Nat.pow_add, Nat.mul_assoc]
  have hdec : x = x % 2 ^ lo + 2 ^ lo * (x / 2 ^ lo % 2 ^ w + 2 ^ w * (x / 2 ^ lo / 2 ^ w)) := by
    rw [Nat.mod_add_div, Nat.mod_add_div]
  have e2 : x - x / 2 ^ lo % 2 ^ w * 2 ^ lo + v % 2 ^ w * 2 ^ lo = x % 2 ^ lo + 2 ^ lo * (v + 2 ^ w * (x / 2 ^ lo / 2 ^ w)) := by
    rw [Nat.mod_eq_of_lt hv]
    have : x - x / 2 ^ lo % 2 ^ w * 2 ^ lo = x % 2 ^ lo + 2 ^ lo * (2 ^ w * (x / 2 ^ lo / 2 ^ w)) := by
      conv => lhs; lhs; rw [hdec]
      rw [Nat.mul_add, Nat.mul_comm (x / 2 ^ lo % 2 ^ w)]; omega
    rw [this, Nat.mul_add, Nat.mul_comm v]; omega
  rw [e2, e1, Nat.mod_mul_right_div_self]
  have e3 : (x % 2 ^ lo + 2 ^ lo * (v + 2 ^ w * (x / 2 ^ lo / 2 ^ w))) / 2 ^ lo = v + 2 ^ w * (x / 2 ^ lo / 2 ^ w) := by
    rw [Nat.add_mul_div_left _ _ hp, Nat.div_eq_of_lt (Nat.mod_lt _ hp), Nat.zero_add]
  rw [e3, Nat.mod_mul_right_mod, Nat.add_mul_mod_self_left, Nat.mod_eq_of_lt hv]

/-- An output of a device that is not silenced. -/
theorem State.emit_out (s : State) (o : Output) (h : s.glb.silenced = false) : (s.emit o).out = o :: s.out := by
  unfold State.emit; rw [h]; rfl

theorem State.emit_regs (s : State) (o : Output) : (s.emit o).regs = s.regs := by unfold State.emit; split <;> rfl

end Sys2Proof.Machine
end

