-- ==== Sys2Proof/Laws/Chisel.lean ====
section
/-! SUPPORT. What the issue of a Chisel instruction does (07_chisel_machine.md R137, R153, R155, 08_chisel_instructions.md R167): one lemma for
an instruction that is carried out, and the reading and writing of a thread's registers. -/

namespace Sys2Proof.Machine

open Sys2Proof.Safety

theorem found_ne (s : State) (h : Thr) (r : Run) : found s h r ≠ ({} : Thread) := by
  intro e; have := congrArg Thread.run e; simp [found] at this

theorem ran_thread (s : State) (h : Thr) (t : Thread) : (ran s h t).thread (thrIdx h) = t := SMap.at_put_self _ _ _ _

theorem ran_thread_ne (s : State) (h : Thr) (t : Thread) {k : Nat} (hk : k ≠ thrIdx h) : (ran s h t).thread k = s.thread k := by
  unfold ran State.thread
  show ((s.chs.threads.put {} (thrIdx h) t).at {} k) = _
  rw [SMap.at_put, if_neg hk]

theorem ran_setThread (s : State) (h : Thr) (t u : Thread) (ht : t ≠ {}) : (ran s h t).setThread (thrIdx h) u = ran s h u := by
  simp only [ran, State.setThread, State.modChs, SMap.put_put _ _ _ _ _ ht]

/-- An issued instruction is counted, and no other register changes. -/
theorem ran_reg (s : State) (h : Thr) (t : Thread) (p : Nat) :
    (ran s h t).reg p = if p = R_CHS_GCNT 7 then s.reg (R_CHS_GCNT 7) + 1 else s.reg p :=
  State.reg_count (s.issued (thrIdx h)) (R_CHS_GCNT 7) p

theorem ran_fld (s : State) (h : Thr) (t : Thread) (p lo w : Nat) (hp : p ≠ R_CHS_GCNT 7) : (ran s h t).fld p lo w = s.fld p lo w := by
  unfold State.fld; rw [ran_reg, if_neg hp]

@[simp] theorem ran_prog (s : State) (h : Thr) (t : Thread) : (ran s h t).chs.prog = s.chs.prog := rfl
@[simp] theorem ran_loc (s : State) (h : Thr) (t : Thread) : (ran s h t).chs.loc = s.chs.loc := rfl
@[simp] theorem ran_tim (s : State) (h : Thr) (t : Thread) : (ran s h t).tim = s.tim := rfl
@[simp] theorem ran_glb (s : State) (h : Thr) (t : Thread) : (ran s h t).glb = s.glb := rfl
@[simp] theorem ran_eccBad (s : State) (h : Thr) (t : Thread) : (ran s h t).eccBad = s.eccBad := rfl
@[simp] theorem ran_codeEnd (s : State) (h : Thr) (t : Thread) : (ran s h t).CHS_PCODE_CODE_END = s.CHS_PCODE_CODE_END :=
  ran_fld s h t _ _ _ (by decide)
@[simp] theorem ran_tableBase (s : State) (h : Thr) (t : Thread) : (ran s h t).CHS_PTABLE_TABLE_BASE = s.CHS_PTABLE_TABLE_BASE :=
  ran_fld s h t _ _ _ (by decide)
@[simp] theorem ran_layoutCount (s : State) (h : Thr) (t : Thread) : (ran s h t).CHS_LAYOUT_COUNT = s.CHS_LAYOUT_COUNT :=
  ran_fld s h t _ _ _ (by decide)
@[simp] theorem ran_layoutBase (s : State) (h : Thr) (t : Thread) : (ran s h t).CHS_LAYOUT_BASE = s.CHS_LAYOUT_BASE :=
  ran_fld s h t _ _ _ (by decide)

/-- The issue of an instruction that is at the PC and is carried out: its effect acts on the device that has counted it. -/
theorem State.issue_eq {s : State} {h : Thr} {r : Run} (hi : Issues s h r) {word : Nat} (hw : s.fetched (thrIdx h) = word) {legal : Bool}
    (hl : legal = true) (f : State → Thread → Run → Eff) :
    s.issue h word legal f =
      (ran s h (found s h r)).settle (thrIdx h) word (charged r) (f (ran s h (found s h r)) (found s h r) (charged r)) := by
  subst hl
  have h1 := hi.run; have h2 := hi.budget; have h3 := hi.code
  unfold State.issue
  simp only [h1]
  rw [if_neg (by omega), if_neg (by omega), if_pos hw]
  have := ran_thread s h (found s h r)
  simp only [if_true]
  show State.settle (ran s h (found s h r)) (thrIdx h) word (charged r)
    (f (ran s h (found s h r)) ((ran s h (found s h r)).thread (thrIdx h)) (charged r)) = _
  rw [this]

/-- An effect that goes on. -/
theorem State.settle_next {s : State} {h : Thr} {r : Run} (word : Nat) (r' : Run) (t : Thread) :
    (ran s h (found s h r)).settle (thrIdx h) word r' (.next (ran s h (found s h r)) t) =
      ran s h { t with pc := nextPc (s.thread (thrIdx h)).pc } := by
  simp only [State.settle, ran_thread]
  rw [ran_setThread _ _ _ _ (found_ne s h r)]
  rfl

/-- A taken branch. -/
theorem State.settle_jump {s : State} {h : Thr} {r : Run} (word : Nat) (r' : Run) (t : Thread) (p : Nat) :
    (ran s h (found s h r)).settle (thrIdx h) word r' (.jump t p) = ran s h { t with pc := p } := by
  simp only [State.settle]
  rw [ran_setThread _ _ _ _ (found_ne s h r)]

/-- The end of a run by a disposition. -/
theorem State.settle_stop {s : State} {h : Thr} {r : Run} (word : Nat) (r' : Run) (t : Thread) (e : Ending) :
    (ran s h (found s h r)).settle (thrIdx h) word r' (.stop t e) = ran s h (t.modRun fun x => { x with ending := some e }) := by
  simp only [State.settle]
  rw [ran_setThread _ _ _ _ (found_ne s h r)]
  rfl

/-- An instruction whose only effect is on its thread. -/
theorem State.issueT_eq {s : State} {h : Thr} {r : Run} (hi : Issues s h r) {word : Nat} (hw : s.fetched (thrIdx h) = word) {legal : Bool}
    (hl : legal = true) (f : Thread → Thread) :
    s.issueT h word legal f = ran s h { f (found s h r) with pc := nextPc (s.thread (thrIdx h)).pc } := by
  unfold State.issueT
  rw [State.issue_eq hi hw hl, State.settle_next]

/-- A thread that cannot issue, and an instruction that is not the assigned word at PC, do nothing. -/
theorem State.issue_none {s : State} {h : Thr} (hn : s.issuing (thrIdx h) = none) (word : Nat) (legal : Bool) (f : State → Thread → Run → Eff) :
    s.issue h word legal f = s := by
  unfold State.issue; simp only [hn]

theorem reg4_zero (q : BitVec 4) : (q.toNat = 0) ↔ q = 0 := by
  constructor
  · intro h; exact BitVec.eq_of_toNat_eq h
  · intro h; simp [h]

theorem gr_val (t : Thread) (q : BitVec 4) : t.gr q.toNat = (val t q).toNat := by
  unfold Thread.gr val
  by_cases h : q = 0
  · simp [h]
  · rw [if_neg (fun e => h ((reg4_zero q).1 e)), if_neg h]

theorem setG_put (t : Thread) (q : BitVec 4) (v : Nat) : t.setG q.toNat v = put t q (BitVec.ofNat 32 v) := by
  unfold Thread.setG put
  by_cases h : q = 0
  · simp [h]
  · rw [if_neg (fun e => h ((reg4_zero q).1 e)), if_neg h]

theorem put_pc (t : Thread) (q : BitVec 4) (v : BitVec 32) (p : Nat) :
    ({ put t q v with pc := p } : Thread) = put { t with pc := p } q v := by
  unfold put; split <;> rfl

theorem found_onward (s : State) (h : Thr) (r : Run) :
    ({ found s h r with pc := nextPc (s.thread (thrIdx h)).pc } : Thread) = onward (found s h r) := rfl

end Sys2Proof.Machine
end

