-- ==== Sys2Proof/Laws/Host.lean ====
section
/-! SUPPORT. What the shared operations of flags, vectors and host commands do, said once: a vector, a flag with its counter, a command that
every check of R40 passes, and a completion on the ring. -/

open Sys2Proof.Safety

namespace Sys2Proof.Machine

/-! Vectors and flags. -/

/-- A vector is raised: nothing but what is pending and the outputs may change. -/
theorem State.raiseVector_shape (s : State) (v : Nat) :
    ∃ p o, s.raiseVector v = { s with hst := { s.hst with msixPend := p }, out := o ++ s.out } := by
  unfold State.raiseVector
  split
  · split
    · exact ⟨s.hst.msixPend, [], rfl⟩
    · exact ⟨v :: s.hst.msixPend, [], rfl⟩
  · unfold State.emit
    split
    · exact ⟨s.hst.msixPend, [], rfl⟩
    · exact ⟨s.hst.msixPend, [_], rfl⟩

/-- A flag is set: nothing but two registers, the pending vectors and the outputs may change. -/
theorem State.flagAt_shape (s : State) (off cnt b : Nat) :
    ∃ p o, s.flagAt off cnt b =
      { s with
        regs := ((s.setFld off b 1 1).setFld (cnt + 4 * b) 0 8 (min 255 (s.fld (cnt + 4 * b) 0 8 + 1))).regs
        hst := { s.hst with msixPend := p }
        out := o ++ s.out } := by
  unfold State.flagAt
  dsimp only
  split
  · exact ⟨s.hst.msixPend, [], rfl⟩
  · obtain ⟨p, o, h⟩ := State.raiseVector_shape ((s.setFld off b 1 1).setFld (cnt + 4 * b) 0 8 (min 255 (s.fld (cnt + 4 * b) 0 8 + 1)))
      (blockVector (off / 0x10000))
    exact ⟨p, o, h⟩

/-- The registers after a flag is set. -/
theorem State.reg_flagAt (s : State) (off cnt b o : Nat) :
    (s.flagAt off cnt b).reg o = ((s.setFld off b 1 1).setFld (cnt + 4 * b) 0 8 (min 255 (s.fld (cnt + 4 * b) 0 8 + 1))).reg o := by
  obtain ⟨p, l, h⟩ := State.flagAt_shape s off cnt b
  rw [h]; rfl

theorem State.reg_flagAt_ne (s : State) {off cnt b o : Nat} (h1 : o ≠ off) (h2 : o ≠ cnt + 4 * b) : (s.flagAt off cnt b).reg o = s.reg o := by
  rw [State.reg_flagAt, State.reg_setFld_ne _ _ _ _ h2, State.reg_setFld_ne _ _ _ _ h1]

/-- A one-bit field is the bit of its place. -/
theorem State.bit_of_fld (s : State) (o b : Nat) (h : s.fld o b 1 = 1) : (s.reg o).getLsbD b = true := by
  unfold State.fld at h
  rw [BitVec.getLsbD, Nat.testBit_eq_decide_div_mod_eq]
  simpa using h

/-- A flag that is set shows, and its counter has counted (18_protection_integrity.md R377). -/
theorem State.flagged_flagAt (s : State) {off cnt b : Nat} (hb : b < 32) (hne : cnt + 4 * b ≠ off) :
    flagged s (s.flagAt off cnt b) off cnt b := by
  constructor
  · apply State.bit_of_fld
    unfold State.fld
    rw [State.reg_flagAt, State.reg_setFld_ne _ _ _ _ (Ne.symm hne)]
    exact State.fld_setFld_self s off b 1 1 (by decide) (by omega)
  · unfold State.fld
    rw [State.reg_flagAt]
    exact State.fld_setFld_self _ _ 0 8 _ (by omega) (by decide)

/-! A command that every check passes. -/

/-- The device with the command counted and its alive counter taken. -/
theorem State.judge_accepted {s : State} {op : Nat} {c : HostCmd} (h : Accepted s op c) :
    s.judge op c = ({ s.count (R_HST_GCNT 0) with snt := { s.snt with alive0 := some c.alive.toNat } }, none) := by
  have hsrc := h.ofRing
  have hep : ¬(c.epoch ≠ s.glb.epoch ∨ c.epoch = 0) := fun e => e.elim (fun e => e h.epoch.1) h.epoch.2
  have hal : ((s.count (R_HST_GCNT 0)).aliveOf c) =
      ({ s.count (R_HST_GCNT 0) with snt := { s.snt with alive0 := some c.alive.toNat } }, true) := by
    unfold State.aliveOf
    rw [hsrc]
    show (s.count (R_HST_GCNT 0)).alive0 c.alive.toNat = _
    unfold State.alive0 State.aliveM
    have := h.alive
    show _ = _
    cases hr : s.snt.alive0 with
    | none => simp [State.count, State.setReg, hr, State.modSnt]
    | some r =>
      have hv := this r hr
      simp [State.count, State.setReg, hr, hv, State.modSnt]
  have harg : ({ s.count (R_HST_GCNT 0) with snt := { s.snt with alive0 := some c.alive.toNat } } : State).argsOk op c = true := by
    have e : ({ s.count (R_HST_GCNT 0) with snt := { s.snt with alive0 := some c.alive.toNat } } : State).ownId = s.ownId := by
      unfold State.ownId
      rw [show ({ s.count (R_HST_GCNT 0) with snt := { s.snt with alive0 := some c.alive.toNat } } : State).ARM_ID_DEVICE_ID =
        s.ARM_ID_DEVICE_ID from State.fld_count_ne s _ _ (by decide)]
      rfl
    have := h.args
    unfold State.argsOk at this ⊢
    rw [e]
    exact this
  have htag : ({ s.count (R_HST_GCNT 0) with snt := { s.snt with alive0 := some c.alive.toNat } } : State).tagUsed c = false := by
    unfold State.tagUsed
    show (_ && (s.hst.flights).any _) = false
    rw [h.idle.2.2]; simp
  have hgr : ∀ t r, cmdTarget op = some (t, r) →
      ({ s.count (R_HST_GCNT 0) with snt := { s.snt with alive0 := some c.alive.toNat } } : State).granted t 0 r 0 1 = true := by
    intro t r e
    have hw (o : Nat) (ho : R_HST_GCNT 0 < o) :
        ({ s.count (R_HST_GCNT 0) with snt := { s.snt with alive0 := some c.alive.toNat } } : State).reg o = s.reg o :=
      State.reg_setReg_ne s _ (by omega)
    have h1 (e : Nat) : R_HST_GCNT 0 < R_PRT_AT0 t e ∧ R_HST_GCNT 0 < R_PRT_AT1 t e ∧ R_HST_GCNT 0 < R_PRT_AT2 t e := by
      unfold R_HST_GCNT R_PRT_AT0 R_PRT_AT1 R_PRT_AT2; omega
    have := h.right t r e
    unfold State.granted State.entryGrants at this ⊢
    simp only [hw _ (h1 _).1, hw _ (h1 _).2.1, hw _ (h1 _).2.2]
    exact this
  have hloc : ({ s.count (R_HST_GCNT 0) with snt := { s.snt with alive0 := some c.alive.toNat } } : State).judgeLocal op c =
      ({ s.count (R_HST_GCNT 0) with snt := { s.snt with alive0 := some c.alive.toNat } }, none) := by
    unfold State.judgeLocal
    have hu : ({ s.count (R_HST_GCNT 0) with snt := { s.snt with alive0 := some c.alive.toNat } } : State).cmdAbsent op c = false := h.unit
    have hl : ({ s.count (R_HST_GCNT 0) with snt := { s.snt with alive0 := some c.alive.toNat } } : State).cmdLegal op = true := h.legal
    have hm : cmdMaster c = 0 := by simp [cmdMaster, hsrc]
    rw [hu, hl, hm]
    split
    · contradiction
    · split
      · rename_i t r e
        exact if_neg (by rw [hgr t r e]; decide)
      · rfl
  unfold State.judge
  have hsome : ¬(c.src.isSome = true ∧ s.ARM_CFG_MGMT_EN = 0) := by rw [hsrc]; simp
  have hc : s.ringCount c 0 = s.count (R_HST_GCNT 0) := by simp [State.ringCount, hsrc, State.hCount]
  simp only [hsome, hep, hc, hal, harg, htag, hloc, h.here, if_false, Bool.not_true, Bool.false_and, Bool.false_eq_true]

/-- What a command finds when it starts: it is counted and in flight, alone. -/
theorem State.begun_of_judge {s : State} {op : Nat} {c : HostCmd} (h : Accepted s op c) :
    ((s.judge op c).1.takeOff op c) = (begun s op c, s.hst.nextKey) := by
  rw [State.judge_accepted h]
  have := h.idle.2.2
  simp [State.takeOff, State.modHst, begun, flightOf, State.count, State.setReg, this]

theorem State.drainUnassigned_nil (n : Nat) (s : State) (h : s.hst.fetched = []) : s.drainUnassigned n = s := by
  cases n with
  | zero => rfl
  | succ n => unfold State.drainUnassigned; rw [h]

/-- An accepted command carries out its effect on `begun`, and what the alignment store handed on is delivered. -/
theorem State.hostCommand_accepted {s : State} {op : Nat} {c : HostCmd} (flashOk : Bool) (h : Accepted s op c) :
    s.hostCommand op c flashOk =
      (((begun s op c).carryOut op s.hst.nextKey c flashOk).deliver).drain := by
  have hf := h.idle.1
  have hd : s.drain = s := State.drainUnassigned_nil _ s hf
  have hl : s.inFlight = 0 := by unfold State.inFlight; rw [hf, h.idle.2.2]; rfl
  have hst : ({ s with hst := { s.hst with fetched := [(op, c)] } } : State).mayStart op c = true := by
    have hk : ({ s with hst := { s.hst with fetched := [(op, c)] } } : State).krOpen = true := by
      show s.krOpen = true
      have := h.ring.2
      simp [State.krOpen, h.ring.1]; omega
    have h1 := h.mode
    have h2 := h.idle.2
    have h3 := h.job
    simp only [State.mayStart, hk]
    by_cases e : op = 0x0C
    · simp [h1.1, h1.2, h2.1, h2.2, h3 e]
    · simp [h1.1, h1.2, h2.1, h2.2, e]
  have hs : ({ s with hst := { s.hst with fetched := [] } } : State) = s := by
    show ({ s with hst := { s.hst with fetched := [] } } : State) = { s with hst := { s.hst with fetched := s.hst.fetched } }
    rw [hf]
  have hsrc := h.ofRing
  unfold State.hostCommand
  rw [if_neg h.mode.1]
  rw [hd]
  unfold State.joinFetched
  rw [hl]
  simp only [hf, State.modHst, List.contains_nil, Bool.false_or, show decide (256 ≤ 0) = false from rfl, Bool.false_eq_true, if_false, List.nil_append,
    hst, and_self, if_true, hs]
  unfold State.startCommand
  have hj := State.judge_accepted h
  have hb := State.begun_of_judge h
  rw [hj] at hb ⊢
  simp only [h.here, Bool.false_and, Bool.false_eq_true, if_false]
  simp only at hb
  rw [hb]

/-! Completions. -/

/-- The entry of a completion that the ring holds (Table HST-4). -/
theorem Cpl.bytes_reply (s : State) (c : HostCmd) (status result : Nat) :
    (⟨c.tag.toNat, status, s.glb.epoch.toNat, c.slot.toNat, 0, 0, result⟩ : Cpl).bytes (s.HST_KRTAIL_TAIL / 512 % 2 == 0) =
      replyBytes s c status result := by
  unfold Cpl.bytes replyBytes
  have e : leBytes 2 0 = [0, 0] := by decide
  simp only [BitVec.ofNat_toNat, BitVec.setWidth_eq, e]
  by_cases hp : s.HST_KRTAIL_TAIL / 512 % 2 = 0 <;> simp [hp, b1]

/-- A vector raised on a condition changes nothing but what is pending and the outputs. -/
theorem State.raiseVectorIf_shape (s : State) (v : Nat) (p : Prop) [Decidable p] :
    ∃ q o, (if p then s.raiseVector v else s) = { s with hst := { s.hst with msixPend := q }, out := o ++ s.out } := by
  split
  · exact State.raiseVector_shape s v
  · exact ⟨s.hst.msixPend, [], rfl⟩

/-- HST_KRTAIL advances by one: one more completion is unconsumed. -/
theorem State.unconsumed_advance (s : State) :
    ((s.setFld R_HST_KRTAIL 0 16 ((s.HST_KRTAIL_TAIL + 1) % 65536)).hCount 1).unconsumed = (s.unconsumed + 1) % 65536 := by
  have e1 : ((s.setFld R_HST_KRTAIL 0 16 ((s.HST_KRTAIL_TAIL + 1) % 65536)).hCount 1).HST_KRTAIL_TAIL = (s.HST_KRTAIL_TAIL + 1) % 65536 :=
    (State.fld_count_ne _ _ _ (by decide)).trans (State.fld_setFld_self s _ 0 16 _ (Nat.mod_lt _ (by decide)) (by decide))
  have e2 : ((s.setFld R_HST_KRTAIL 0 16 ((s.HST_KRTAIL_TAIL + 1) % 65536)).hCount 1).HST_KRHEAD_HEAD = s.HST_KRHEAD_HEAD :=
    (State.fld_count_ne _ _ _ (by decide)).trans (by unfold State.fld State.HST_KRHEAD_HEAD State.fld; rw [State.reg_setFld_ne _ _ _ _ (by decide)])
  have : s.HST_KRHEAD_HEAD < 65536 := by unfold State.HST_KRHEAD_HEAD State.fld; exact Nat.mod_lt _ (by decide)
  unfold State.unconsumed
  rw [e1, e2]
  omega

/-- The ring's registers, its counter and its outputs after a completion that is written. -/
def State.wrote (s : State) (c : Cpl) : State :=
  ((s.emit (.hostWrite (s.krBase + 16 * (s.HST_KRTAIL_TAIL % 512)) (c.bytes (s.HST_KRTAIL_TAIL / 512 % 2 == 0)))).setFld R_HST_KRTAIL 0 16
    ((s.HST_KRTAIL_TAIL + 1) % 65536)).hCount 1

theorem State.wrote_eq (s : State) (c : Cpl) :
    s.wrote c = { s with
      regs := ((s.setFld R_HST_KRTAIL 0 16 ((s.HST_KRTAIL_TAIL + 1) % 65536)).hCount 1).regs
      out := .hostWrite (s.krBase + 16 * (s.HST_KRTAIL_TAIL % 512)) (c.bytes (s.HST_KRTAIL_TAIL / 512 % 2 == 0)) :: s.out } := by
  unfold State.wrote State.emit Output.stopped
  simp only [Bool.and_false, Bool.false_eq_true, if_false]
  rfl

theorem State.wrote_unconsumed (s : State) (c : Cpl) : (s.wrote c).unconsumed = (s.unconsumed + 1) % 65536 := by
  rw [State.wrote_eq]; exact State.unconsumed_advance s

/-- A completion that the ring takes and that does not fill it: only HST_KRTAIL, its counter, the pending vectors and the outputs change. -/
theorem State.writeCpl_shape (s : State) (c : Cpl) (hr : s.unconsumed < 511) :
    ∃ p l, s.writeCpl c = { s with
        regs := ((s.setFld R_HST_KRTAIL 0 16 ((s.HST_KRTAIL_TAIL + 1) % 65536)).count (R_HST_GCNT 1)).regs
        hst := { s.hst with msixPend := p }
        out := l ++ .hostWrite (s.krBase + 16 * (s.HST_KRTAIL_TAIL % 512)) (c.bytes (s.HST_KRTAIL_TAIL / 512 % 2 == 0)) :: s.out } := by
  have hw : s.writeCpl c = if max 1 (s.wrote c).HST_KCOAL_COUNT ≤ (s.wrote c).unconsumed then (s.wrote c).raiseVector 0 else s.wrote c := by
    have : decide (512 ≤ (s.wrote c).unconsumed) = false := by rw [State.wrote_unconsumed]; simp; omega
    show (let s2 := (s.wrote c).when (decide (512 ≤ (s.wrote c).unconsumed)) fun s => s.hstFlag 6
      if max 1 s2.HST_KCOAL_COUNT ≤ s2.unconsumed then s2.raiseVector 0 else s2) = _
    rw [this]; rfl
  obtain ⟨p, l, h⟩ := State.raiseVectorIf_shape (s.wrote c) 0 (max 1 (s.wrote c).HST_KCOAL_COUNT ≤ (s.wrote c).unconsumed)
  refine ⟨p, l, ?_⟩
  rw [hw, h, State.wrote_eq]
  rfl

/-- A command of the ring answers where the ring takes completions and nothing is under way (R320). -/
theorem State.answer_answered {s : State} {c : HostCmd} (status result : Nat) (hsrc : c.src = none)
    (hr : s.HST_CTL_KR_EN = 1 ∧ s.unconsumed < 511) (hi : s.hst.fetched = [] ∧ s.hst.held = [] ∧ s.hst.flights = []) :
    Answered s (s.answer c status result) c status (if status = 5 then s.glb.epoch.toNat else result) := by
  have hk : s.krOpen = true := by have := hr.2; simp [State.krOpen, hr.1]; omega
  have he : s.answer c status result =
      s.writeCpl ⟨c.tag.toNat, status, s.glb.epoch.toNat, c.slot.toNat, 0, 0, if status = 5 then s.glb.epoch.toNat else result⟩ := by
    unfold State.answer State.postCpl
    rw [hsrc]; simp [hk, hi.2.1]
  obtain ⟨p, l, h⟩ := State.writeCpl_shape s
    ⟨c.tag.toNat, status, s.glb.epoch.toNat, c.slot.toNat, 0, 0, if status = 5 then s.glb.epoch.toNat else result⟩ hr.2
  rw [he, h]
  refine ⟨⟨l ++ [.hostWrite (replyAddr s) (replyBytes s c status (if status = 5 then s.glb.epoch.toNat else result))], ?_, by simp⟩, ?_, ?_,
    hi.2.2, hi.2.1, hi.1⟩
  · rw [Cpl.bytes_reply]; simp [replyAddr]
  · show ((s.setFld R_HST_KRTAIL 0 16 ((s.HST_KRTAIL_TAIL + 1) % 65536)).count (R_HST_GCNT 1)).fld R_HST_KRTAIL 0 16 = _
    rw [State.fld_count_ne _ _ _ (by decide)]
    exact State.fld_setFld_self s _ 0 16 _ (Nat.mod_lt _ (by decide)) (by decide)
  · show ((s.setFld R_HST_KRTAIL 0 16 ((s.HST_KRTAIL_TAIL + 1) % 65536)).count (R_HST_GCNT 1)).reg (R_HST_GCNT 1) = _
    rw [State.reg_count, if_pos rfl, State.reg_setFld_ne _ _ _ _ (by decide)]

end Sys2Proof.Machine
end

