-- ==== Sys2Proof/Tests/Slice0.lean ====
section
/-! SUPPORT. The author's tests: well-formedness refuses what it should, words of Chisel instructions are those the spec works out,
single steps on small states give the spec's own examples, and for every statement with hypotheses concrete states that meet them. -/

open Sys2Proof Sys2Proof.Machine Sys2Proof.Safety

namespace Sys2Proof.Tests

set_option Elab.async false

/-! Well-formedness. -/

def hostArgs (n : Nat) (l : List Nat := []) : List (BitVec 32) := (l ++ List.replicate n 0).take n |>.map (BitVec.ofNat 32)
/-- A host command of the ring. -/
def hc (args : List Nat) (epoch alive : Nat) : HostCmd :=
  { tag := 9, epoch := BitVec.ofNat 16 epoch, alive := BitVec.ofNat 8 alive, fence := false, remote := false, dest := 0, remoteEpoch := 0,
    slot := 3, reserved := false, args := hostArgs 12 args, src := none }

theorem test_wf_accepts : (Instr.nop (hc [] 1 5)).wf = true ∧ (Instr.timeSet (hc [0] 1 5)).wf = true ∧
    (Instr.timeSetUtcOnly (hc [1] 1 5)).wf = true ∧ (Instr.remoteCommand 3 { hc [] 1 5 with remote := true }).wf = true := by decide
/-- Eleven argument words, and a remote command in a local row. -/
theorem test_wf_args : (Instr.halt { hc [] 1 5 with args := hostArgs 11 }).wf = false ∧
    (Instr.commit { hc [] 1 5 with remote := true }).wf = false := by decide
/-- Bit 0 of A0 names the other row. -/
theorem test_wf_time_set : (Instr.timeSet (hc [1] 1 5)).wf = false ∧ (Instr.timeSetUtcOnly (hc [0] 1 5)).wf = false := by decide
theorem test_wf_remote : (Instr.remoteCommand 3 (hc [] 1 5)).wf = false := by decide
theorem test_wf_fetch : (Instr.commandFetch []).wf = false ∧ (Instr.commandFetch [List.replicate 63 0]).wf = false ∧
    (Instr.commandFetch [List.replicate 64 0]).wf = true := by decide
theorem test_wf_data : (Instr.registerWrite false false 0 []).wf = false ∧ (Instr.registerWrite false false 0 [0]).wf = true := by decide
theorem test_wf_access : (Instr.bridgeWindowAccess false 0 4 true [1, 2, 3]).wf = false ∧
    (Instr.bridgeWindowAccess false 0 4 true [1, 2, 3, 4]).wf = true ∧ (Instr.bridgeWindowAccess false 0 0 false []).wf = false ∧
    (Instr.badAccess false 0 0 false).wf = false ∧ (Instr.bar2Read 0 0).wf = false := by decide
theorem test_wf_frames : (Instr.irigFrame (List.replicate 99 .zero) 0).wf = false ∧ (Instr.irigFrame (List.replicate 100 .zero) 0).wf = true ∧
    (Instr.networkFrameReceive 0 (List.replicate 13 0) true 0).wf = false ∧ (Instr.dmaReadCompletion 0 []).wf = false := by decide
theorem test_wf_link_bytes : (Instr.cellReceive 0 [] 0).wf = false ∧ (Instr.heartbeatReceive []).wf = false ∧
    (Instr.bridgeRequestReceive []).wf = false ∧ (Instr.bridgeResponse []).wf = false ∧ (Instr.lockGrant []).wf = false ∧
    (Instr.lockRequestReceive []).wf = false ∧ (Instr.mirrorReceive []).wf = false ∧ (Instr.syncReceive []).wf = false := by decide

/-! Small states. -/

/-- A state with fields of registers set: offset, lowest bit, width, value. -/
def fl (s : State) (l : List (Nat × Nat × Nat × Nat)) : State := l.foldl (fun s x => s.setFld x.1 x.2.1 x.2.2.1 x.2.2.2) s
def run : State :=
  { State.reset with
    glb := { State.reset.glb with mode := .run, lanesReady := 0x3FFF, ddrTrained := true }
    tim := { State.reset.tim with dt := 5000000000000, ticks := 2000000000 }
    cfg := { State.reset.cfg with committed := true } }
def inMode (m : Mode) : State := { run with glb := { run.glb with mode := m } }
def h0 : Thr := ⟨0, 0⟩
/-- Thread 0 of engine 0 in RUN with a run that has begun, at PC 0 of eight words of code that all are `w`. -/
def chis (w : Nat) (r : Run := { entry := {} }) (t : Thread := {}) : State :=
  fl { run with chs := { run.chs with
    threads := [(0, { t with rest := .idle, run := some { r with started := true } })]
    prog := (List.range 8).filterMap fun i => if w = 0 then none else some (i, BitVec.ofNat 32 w) } } [(R_CHS_PCODE, 0, 17, 8)]
/-- The same with instruction i as its program. -/
def prog (i : Instr) (r : Run := { entry := {} }) (t : Thread := {}) : State := chis ((chiselWord i).getD 0) r t
/-- Its run. -/
def crun (s : State) : Run := (s.thread 0).run.getD { entry := {} }

/-! Words of instructions: 08_chisel_instructions.md Table CHX-17. -/

theorem test_word_addi : chiselWord (.addi h0 ⟨15, 0, 7⟩ 0) = some 0x07C00007 := by decide
theorem test_word_ld_b : chiselWord (.ld h0 ⟨13, 15, 0, 0, 0⟩) = some 0x437C0000 := by decide
theorem test_word_b_ls : chiselWord (.bCond h0 ⟨10, 0, -4⟩) = some 0x8283FFFC := by decide
theorem test_word_b_ne : chiselWord (.bCond h0 ⟨2, 0, 38⟩) = some 0x80800026 := by decide
theorem test_word_pdec : chiselWord (.pdecU h0 ⟨3, 0, 0, 2⟩) = some 0x68C00002 := by decide
theorem test_word_scan : chiselWord (.scan h0 ⟨0, 0, 0, 0x2C⟩) = some 0x6400802C := by decide
theorem test_word_ppslabel : chiselWord (.ppslabel h0 ⟨0, 2, 14, 0⟩) = some 0xB8B80000 := by decide
theorem test_word_hold : chiselWord (.hold h0 ⟨0, 2, 0, 0⟩) = some 0xD0801000 := by decide
/-- The table gives no row bits, so no word spells a command. -/
theorem test_decode : decodeTableWord 32 0x07C00007 = none := by decide

/-! Examples of the spec. -/

/-- 03_time_base.md R49. -/
theorem test_half_second : dev64 500000000 = 0x80000000 ∧ ofDev64 0x80000000 = 500000000 := by decide
/-- 05_sentences_checks.md: flow 312 of device 212, sequence 0x0451. -/
theorem test_fold_prefix : foldPrefix 212 312 0x0451 = [0x00, 0x1A, 0x81, 0x38, 0x04, 0x51] := by decide
/-- 05_sentences_checks.md: the ZDA sentence of 2030-01-01 has checksum 67. -/
theorem test_zda_checksum : ("GPZDA,000000.00,01,01,2030,00,00".toList.foldl (fun c x => c ^^^ x.toNat) 0) = 0x67 := by decide
/-- 08_chisel_instructions.md: cfold of ALG 3 over `123456789` from 0xFFFF_FFFF, then cfin. -/
theorem test_crc32c :
    (match execCfold h0 ⟨3, 0, 5⟩ 3
        (prog (.cfold h0 ⟨3, 0, 5⟩ 3) { entry := {}, sent := [49, 50, 51, 52, 53, 54, 55, 56, 57] } { g := [(3, 0xFFFFFFFF), (5, 9)] }) with
      | .next s => (s.thread 0).g.at 0 3
      | _ => 0) = 0x1CF96D7C ∧ 0xFFFFFFFF - 0x1CF96D7C = 0xE3069283 := by decide +kernel
/-- add wraps, sets Z and C, and counts one instruction. -/
theorem test_add_wraps :
    (match execAdd h0 ⟨3, 1, 2⟩ (prog (.add h0 ⟨3, 1, 2⟩) { entry := {} } { g := [(1, 0xFFFFFFFF), (2, 1)] }) with
      | .next s => ((s.thread 0).g.at 0 3, (s.thread 0).z, (s.thread 0).c, (s.thread 0).v, (s.thread 0).pc, (crun s).issued)
      | _ => (7, false, false, true, 0, 0)) = (0, true, true, false, 1, 1) := by decide
/-- sub without borrow sets C, and a destination of G0 is discarded. -/
theorem test_sub_g0 :
    (match execSub h0 ⟨0, 1, 2⟩ (prog (.sub h0 ⟨0, 1, 2⟩) { entry := {} } { g := [(1, 0x80000000), (2, 1)] }) with
      | .next s => ((s.thread 0).g, (s.thread 0).z, (s.thread 0).n, (s.thread 0).c, (s.thread 0).v)
      | _ => ([], true, true, false, false)) = ([(1, 0x80000000), (2, 1)], false, false, true, true) := by decide
/-- A branch below word 0 raises PC_RANGE: the run ends and the fault code 2 is counted. -/
theorem test_branch_range :
    (match execBCond h0 ⟨0, 0, -1⟩ (prog (.bCond h0 ⟨0, 0, -1⟩)) with
      | .next s => ((s.thread 0).run.isNone, s.reg (R_CHS_FCNT 2))
      | _ => (false, 0)) = (true, 1) := by decide
/-- GLB_CAP of the three variants (00_scope.md R4). -/
theorem test_capability :
    ([Variant.a, .c, .e].map fun v => ({ State.reset with glb := { State.reset.glb with variant := v } } : State).readWord 0 R_GLB_CAP) =
      [0x01FFFFFF, 0x02B0FFFF, 0x0300330F] := by decide
/-- A queue of two: a step takes the first, leaves the second. -/
theorem test_step_front :
    (match step { run with pending := [.sramBankGate 3, .sramBankGate 4] } with
      | .next s => (s.aln.gated, s.pending.length)
      | _ => ([], 0)) = ([3], 1) := by decide

/-! States that meet the hypotheses of the statements: the instructions of Chisel. -/

/-- G registers of a thread. -/
def gs (l : List (Nat × BitVec 32)) : Thread := { g := l }
/-- `Issues` of thread 0, as a test. -/
def isIssuing (s : State) (r : Run) : Bool :=
  decide (s.issuing 0 = some r ∧ r.issued < r.budget ∧ (s.thread 0).pc < s.CHS_PCODE_CODE_END)
theorem issues_of {s : State} {r : Run} (h : isIssuing s r = true) : Issues s h0 r :=
  let ⟨h1, h2, h3⟩ := of_decide_eq_true h
  ⟨h1, h2, h3⟩
theorem programmed_of (s : State) (i : Instr) (h : chiselWord i = some (s.fetched 0)) : programmed s h0 i := h

/-- A run with one instruction of its budget left, at the last word of the code. -/
theorem test_meets_issues : let s := chis 0 { entry := { flow := 5 }, issued := 4095 } { pc := 7 }
    Issues s h0 (crun s) := issues_of (by decide +kernel)
/-- ChiselAddSubtractCompare, ChiselLogicMultiplyAndShift, ChiselFloat: operands with RD, RA and RB that are G0, a shift by 31, NaNs in RA
or RB or RD only. -/
theorem test_meets_arithmetic : let s := prog (.sbc h0 ⟨0, 1, 3⟩) { entry := {} } (gs [(1, 0x7FC00001), (2, 0x3F800000), (3, 0xFF800001)])
    Issues s h0 (crun s) ∧ programmed s h0 (.sbc h0 ⟨0, 1, 3⟩) ∧ (0x7F800000#32 < val (s.thread 0) 1 &&& 0x7FFFFFFF#32) ∧ ¬(0x7F800000#32 < val (s.thread 0) 2 &&& 0x7FFFFFFF#32) ∧
      (0x7F800000#32 < val (s.thread 0) 3 &&& 0x7FFFFFFF#32) ∧ (31#16).toNat < 32 := by
  and_intros <;> first | decide +kernel | exact issues_of (by decide +kernel) | exact programmed_of _ _ (by decide +kernel)
/-- ChiselLoad and ChiselStore: the last places of the three spaces. -/
theorem test_meets_load_store : let s := prog (.lds h0 ⟨15, 1, 0, 1, -2⟩) { entry := {}, sent := List.replicate 40 0 } (gs [(1, 4092), (2, 508), (3, 65528), (4, 36)])
    Issues s h0 (crun s) ∧ programmed s h0 (.lds h0 ⟨15, 1, 0, 1, -2⟩) ∧ canLoad s h0 0 ((val (s.thread 0) 1).toNat + (0#14).toInt) 4 ∧
      canLoad s h0 1 ((val (s.thread 0) 2).toNat + (0#14).toInt) 4 ∧ canLoad s h0 2 ((val (s.thread 0) 3).toNat + (0#14).toInt) 8 ∧
      canStore s h0 (crun s) 0 ((val (s.thread 0) 4).toNat + (0#14).toInt) 4 ∧
      canStore s h0 (crun s) 1 ((val (s.thread 0) 2).toNat + (-188#14).toInt) 8 ∧
      canStore s h0 (crun s) 2 ((val (s.thread 0) 3).toNat + (0#14).toInt) 8 := by
  and_intros <;> (try simp only [canStore, canLoad]) <;>
    first | decide +kernel | exact issues_of (by decide +kernel) | exact programmed_of _ _ (by decide +kernel)
/-- ChiselAtomic: a word and a pair at the end of local space. -/
theorem test_meets_atomic : let s := prog (.ladd h0 ⟨2, 3, 2, 3, 0⟩) { entry := {} } (gs [(3, 65528)])
    Issues s h0 (crun s) ∧ programmed s h0 (.ladd h0 ⟨2, 3, 2, 3, 0⟩) ∧ canLoad s h0 2 ((val (s.thread 0) 3).toNat + (0#14).toInt) 8 ∧
      canLoad s h0 2 ((val (s.thread 0) 3).toNat + (4#14).toInt) 4 ∧ canLoad s h0 2 (val (s.thread 0) 3).toNat 4 := by
  and_intros <;> (try simp only [canStore, canLoad]) <;>
    first | decide +kernel | exact issues_of (by decide +kernel) | exact programmed_of _ _ (by decide +kernel)
/-- ChiselFieldAndCursor: a field that ends at bit 31, FC at 0 and at 4,096, a byte that is found and one that is not, a growth to the end
of the last cell and 512 bytes more. -/
theorem test_meets_cursor :
    let s := prog (.fins h0 ⟨1, 2, 4, 28⟩) { entry := { sent := { data := [1, 2, 3], len := 3, stamp := 0 } }, sent := [1, 2, 3] } (gs [(1, 4096), (2, -4), (3, 768)])
    Issues s h0 (crun s) ∧ programmed s h0 (.fins h0 ⟨1, 2, 4, 28⟩) ∧ (1 ≤ (4#6).toNat ∧ (28#8).toNat + (4#6).toNat ≤ 32) ∧ (val (s.thread 0) 1).toInt + (0#8).toNat ≤ 4096 ∧
      0 ≤ (val (s.thread 0) 2).toInt + (4#8).toNat ∧
      ((s.thread 0).fc + 2 < (crun s).sent.length ∧ (∀ j < 2, (crun s).sent.getD ((s.thread 0).fc + j) 0 ≠ 3) ∧ (crun s).sent.getD 2 0 = 3) ∧
      (∀ j < 3, (crun s).sent.getD j 0 ≠ 4) ∧
      (val (s.thread 0) 3).toNat ≤ ((crun s).entry.sent.data.length + 255) / 256 * 256 + 512 := by
  and_intros <;> first | decide +kernel | exact issues_of (by decide +kernel) | exact programmed_of _ _ (by decide +kernel)
/-- ChiselParse: `-12`, `-1.5,`, `FF,` and `,` at FC. -/
theorem test_meets_parse :
    let chars (l : Bytes) (n : Nat) := ((crun (chis 0 { entry := {}, sent := l })).sent.drop 0).take n
    let s := prog (.pflt h0 ⟨4, 0, 9, 8⟩) { entry := {}, sent := [49, 50] }
    Issues s h0 (crun s) ∧ programmed s h0 (.pflt h0 ⟨4, 0, 9, 8⟩) ∧
      chars [49, 50, 44] 8 = ascii [1, 2] ++ [44] ∧ ends [44] ∧ chars [45, 49, 50] 3 = [45] ++ ascii [1, 2] ++ [] ∧ ends [] ∧
      chars [45, 49, 46, 53, 44] 5 = [45] ++ ascii [1] ++ 46 :: ascii [5] ++ [44] ∧
      chars [70, 70, 44] 8 = [15, 15].map (fun d => BitVec.ofNat 8 (hexChar d)) ++ [44] ∧ hexVal 44 = none ∧
      (chars [44] 1).head? = some 44 := by
  and_intros <;> first | decide +kernel | (unfold ends; simp) | exact issues_of (by decide +kernel) | exact programmed_of _ _ (by decide +kernel)
/-- ChiselFormat: digits up to the last byte of the sentence. -/
theorem test_meets_format : let s := prog (.fmtS h0 ⟨0, 1, 0, 2⟩) { entry := {}, sent := [1, 2, 3] } { gs [(1, 0x80000000)] with fc := 1 }
    Issues s h0 (crun s) ∧ programmed s h0 (.fmtS h0 ⟨0, 1, 0, 2⟩) ∧ (2#8 : BitVec 8) ≠ 0 ∧ (s.thread 0).fc + (2#8).toNat ≤ (crun s).sent.length ∧ 2 ^ 31 ≤ (val (s.thread 0) 1).toNat := by
  and_intros <;> first | decide +kernel | exact issues_of (by decide +kernel) | exact programmed_of _ _ (by decide +kernel)
/-- ChiselBranch: the first and the last word of the code as targets, one below and one above it, each condition of an untouched thread
and its opposite, a stack of seven and one of one return address, a counter of 1 and another. -/
theorem test_meets_branch : let s := prog (.bz h0 3 (-3)) { entry := {} } { gs [(1, 1), (2, 9)] with pc := 3, stack := [4, 4, 4, 4, 4, 4, 4] }
    let t := s.thread 0
    Issues s h0 (crun s) ∧ programmed s h0 (.bz h0 3 (-3)) ∧ (0 ≤ (t.pc : Int) + (-3#18).toInt ∧ (t.pc : Int) + (4#18).toInt < s.CHS_PCODE_CODE_END) ∧
      ((t.pc : Int) + (-4#18).toInt < 0 ∧ s.CHS_PCODE_CODE_END ≤ (t.pc : Int) + (5#18).toInt) ∧
      (t.z = false ∧ (t.n == t.v) = true ∧ t.c = false) ∧ t.stack.length < 8 ∧ (∃ p rest, t.stack = p :: rest) ∧
      val t 1 = 1 ∧ val t 2 ≠ 1 ∧ val t 3 = 0 ∧ ((val t 1).toNat + (6#18).toInt < (s.CHS_PCODE_CODE_END : Int)) ∧
      ¬((val t 2).toNat + (6#18).toInt < (s.CHS_PCODE_CODE_END : Int)) := by
  and_intros <;> first | decide +kernel | exact ⟨_, _, rfl⟩ | exact issues_of (by decide +kernel) | exact programmed_of _ _ (by decide +kernel)
/-- ChiselCheck: nothing to fold, a fold up to the ends of sentence and local space, a field at the end, hexadecimal digits and none. -/
theorem test_meets_check : let s := prog (.cver h0 ⟨1, 2, 4⟩ 20) { entry := {}, sent := [54, 55, 88] } (gs [(1, 4095), (2, 1), (3, 65535), (4, 4094)])
    Issues s h0 (crun s) ∧ programmed s h0 (.cver h0 ⟨1, 2, 4⟩ 20) ∧ val (s.thread 0) 0 = 0 ∧ (val (s.thread 0) 1).toNat + (val (s.thread 0) 2).toNat ≤ 4096 ∧
      (val (s.thread 0) 3).toNat + (val (s.thread 0) 2).toNat ≤ 65536 ∧ s.localBad 0 65535 1 = [] ∧
      (val (s.thread 0) 4).toNat + 2 ≤ 4096 ∧ hex2 (spaceRange s h0 (crun s) 0 0 2) = some 0x67 ∧
      hex2 (spaceRange s h0 (crun s) 0 1 2) = none := by
  and_intros <;> first | decide +kernel | exact issues_of (by decide +kernel) | exact programmed_of _ _ (by decide +kernel)
/-- ChiselTime: a grid, RA = 13, no pending offset, a TIME_BASE of 0 and another. -/
theorem test_meets_time : let s := prog (.tgrid h0 ⟨3, 1, 3, 15⟩) { entry := {} } (gs [(3, 1000000)])
    Issues s h0 (crun s) ∧ programmed s h0 (.tgrid h0 ⟨3, 1, 3, 15⟩) ∧ 0 < s.rateOf 15 ∧ (13#4).toNat ≤ 13 ∧ s.TIM_UTC_PENDING = 0 ∧ (val (s.thread 0) 2).toNat = 0 ∧
      (val (s.thread 0) 3).toNat ≠ 0 := by
  and_intros <;> first | decide +kernel | exact issues_of (by decide +kernel) | exact programmed_of _ _ (by decide +kernel)
/-- A run of the labelling flow, at a whole second and with the offset valid, and the edge of the second before. -/
def labels (e : Option PpsEdge) (frac valid : Nat) (flow : Nat := 5) : State :=
  let s := fl (chis 0xB8800000 { entry := { flow := flow } } { gs [(1, 1000000), (2, 1000001)] with t := [(2, BitVec.ofNat 64 (4999 * 2 ^ 32 + frac))] })
    [(R_TIM_PPSCFG, 1, 13, 5), (R_TIM_UTC, 16, 1, valid)]
  { s with tim := { s.tim with edge := e, source := if flow = 5 then 1 else 0 } }
/-- ChiselTimeSubmission: every status of ppslabel, an adjustment of 1 ms and one above, and another source. -/
theorem test_meets_submission :
    let e : PpsEdge := ⟨4999000000000, 0, 2000000000 - 249750000, true, false⟩
    let whole (s : State) := (s.thread 0).tns 2 % 10 ^ 9
    Issues (labels (some e) 0 1) h0 (crun (labels (some e) 0 1)) ∧ programmed (labels (some e) 0 1) h0 (.ppslabel h0 ⟨0, 2, 0, 0⟩) ∧
      (crun (labels none 0 1 6)).entry.flow ≠ (labels none 0 1 6).TIM_PPSCFG_LABEL_FLOW ∧
      (crun (labels (some e) 0 1)).entry.flow = (labels (some e) 0 1).TIM_PPSCFG_LABEL_FLOW ∧
      999000000 < 4 * (2000000000 - ({ e with tick := e.tick - 1 } : PpsEdge).tick) ∧ ¬999000000 < 4 * (2000000000 - e.tick) ∧
      whole (labels (some e) 5 1) ≠ 0 ∧ whole (labels (some e) 0 0) = 0 ∧ (labels (some e) 0 0).TIM_UTC_VALID = 0 ∧
      (labels none 0 1).TIM_UTC_VALID ≠ 0 ∧ (labels none 0 1).tim.edge = none ∧
      (¬(e.step ≠ (labels (some e) 0 1).tim.step ∨ e.live = false)) ∧
      (labels (some e) 0 1).tim.source = 1 ∧ (labels (some e) 0 1 6).tim.source ≠ 1 ∧
      (val ((labels none 0 1).thread 0) 1).toInt.natAbs ≤ 1000000 ∧ 1000000 < (val ((labels none 0 1).thread 0) 2).toInt.natAbs := by
  and_intros <;> first | decide +kernel | exact issues_of (by decide +kernel) | exact programmed_of _ _ (by decide +kernel)
/-- ChiselTableAndFlow: the last table word, one beyond it, the first and the last layout. -/
theorem test_meets_table :
    let s := fl (prog (.tst h0 ⟨3, 1, 0⟩) { entry := {} } (gs [(1, 65435), (2, 1), (3, 2)])) [(R_CHS_PTABLE, 0, 17, 100), (R_CHS_LAYOUT, 16, 10, 2)]
    Issues s h0 (crun s) ∧ programmed s h0 (.tst h0 ⟨3, 1, 0⟩) ∧ s.CHS_PTABLE_TABLE_BASE + (val (s.thread 0) 1).toNat + (0#16).toNat ≤ 65535 ∧
      65535 < s.CHS_PTABLE_TABLE_BASE + (val (s.thread 0) 1).toNat + (1#16).toNat ∧ s.granted 18 8 17 (4 * 65535) 4 = true ∧
      1 ≤ (val (s.thread 0) 2).toNat ∧ (val (s.thread 0) 3).toNat ≤ s.CHS_LAYOUT_COUNT ∧
      (val (s.thread 0) 2).toNat % 2 ^ 16 ≤ s.CHS_LAYOUT_COUNT := by
  and_intros <;> first | decide +kernel | exact issues_of (by decide +kernel) | exact programmed_of _ _ (by decide +kernel)
/-- ChiselDispositionAndEmit: a timer run and another, queues 15 and 16, seven emits held, a place of local space up to its end. -/
theorem test_meets_disposition :
    let s := prog (.emitG h0 ⟨0, 1, 2, 1023⟩) { entry := {}, emits := List.replicate 7 ⟨false, 0, []⟩ } (gs [(1, 65535), (2, 1)])
    let u := chis 0 { entry := { timer := some 15 } }
    Issues s h0 (crun s) ∧ programmed s h0 (.emitG h0 ⟨0, 1, 2, 1023⟩) ∧ Issues u h0 (crun u) ∧ (crun u).entry.timer ≠ none ∧ (crun s).entry.timer = none ∧ (15#12).toNat ≤ 15 ∧
      15 < (16#12).toNat ∧ (crun s).emits.length < 8 ∧ 1 ≤ (val (s.thread 0) 2).toNat ∧
      (val (s.thread 0) 1).toNat + (val (s.thread 0) 2).toNat ≤ 65536 ∧ s.localBad 0 65535 1 = [] ∧ (1023#12).toNat < 1024 := by
  and_intros <;> first | decide +kernel | exact issues_of (by decide +kernel) | exact programmed_of _ _ (by decide +kernel)
/-- ChiselIssueOrder, ChiselKeepsRunLimits, ChiselReachesItsSpacesOnly: no run, a spent budget, PC behind the code, an unassigned word, and
an instruction that is carried out. -/
theorem test_meets_issue_order :
    let i := Instr.add h0 ⟨3, 1, 2⟩
    let s := { chis 0 with pending := [.add h0 ⟨3, 1, 2⟩, .drop h0 ⟨0, 0, 0, 0⟩] }
    (chiselThread i = some h0 ∧ chiselWord i = some 0x00C48000 ∧ 0x00C48000 / 2 ^ 26 ≠ 0x2E) ∧
      run.issuing (thrIdx h0) = none ∧
      (let r := crun (chis 0 { entry := {}, issued := 4096 }); r.budget ≤ r.issued) ∧
      (let s := chis 0 { entry := {} } { pc := 8 }; s.CHS_PCODE_CODE_END ≤ (s.thread (thrIdx h0)).pc) ∧
      assigned ((chis 0xFFFFFFFF).chs.prog.at 0 0).toNat = false ∧ s.pending.head? = some i ∧ (∃ t, step s = .next t) := by
  and_intros <;> first | decide | exact ⟨_, rfl⟩
/-- Canonical and RunLimits hold in a state with a run. -/
theorem test_meets_canonical : let s := chis 0 { entry := {}, issued := 4096 } { pc := 8, fc := 4096 }
    Canonical s := by constructor <;> decide
/-- ChiselThreadFault: a flow without a fault limit, not in quarantine. -/
theorem test_meets_thread_fault :
    let s := prog (.fault h0 ⟨0, 0, 0, 15⟩) { entry := { flow := 5 } }
    Issues s h0 (crun s) ∧ programmed s h0 (.fault h0 ⟨0, 0, 0, 15⟩) ∧ s.fFaultLimit 5 = 0 ∧ s.fState 5 ≠ 4 ∧ s.chs.blocked = [] ∧ 15 < 16 := by
  and_intros <;> first | decide +kernel | exact issues_of (by decide +kernel) | exact programmed_of _ _ (by decide +kernel)
/-- ChiselSystem: every control and status word and one beyond. -/
theorem test_meets_system : let s := prog (.csrr h0 ⟨15, 0, 0, 10⟩) { entry := {} }
    Issues s h0 (crun s) ∧ programmed s h0 (.csrr h0 ⟨15, 0, 0, 10⟩) ∧ (∀ n < 11, (List.range 11)[n]? = some n) ∧ 11 ≤ (11#12).toNat := by
  and_intros <;> first | decide +kernel | exact issues_of (by decide +kernel) | exact programmed_of _ _ (by decide +kernel)
/-- A run at every limit. -/
def atLimits : State :=
  chis 0 { entry := {}, issued := 4096, emits := List.replicate 8 ⟨false, 0, []⟩ } { fc := 4096, stack := [1, 2, 3, 4, 5, 6, 7, 8] }
theorem test_meets_run_limits : RunLimits atLimits := by
  have h (k : Nat) : atLimits.thread k = if k = 0 then atLimits.thread 0 else {} := by cases k <;> rfl
  refine ⟨fun k => ?_, fun k => ?_, fun k => ?_⟩ <;> rw [h] <;> split <;> decide

/-! States that meet the hypotheses of the statements: the rest of the device. -/

theorem at_all {α : Type} {P : α → Prop} {d : α} (hd : P d) (l : SMap α) (hl : ∀ x ∈ l, P x.2) (k : Nat) : P (l.at d k) := by
  induction l with
  | nil => exact hd
  | cons x r ih =>
    have h := ih fun y hy => hl y (List.mem_cons_of_mem _ hy)
    simp only [SMap.at, SMap.get] at h ⊢
    split
    · exact hl x List.mem_cons_self
    · exact h

theorem calm_of {s : State} (h1 : s.cfg.waiting = none) (h2 : ∀ f ∈ s.hst.flights, f.op ≠ 0x10 ∧ f.op ≠ 0x11) (h3 : s.aln.outbox = [])
    (h4 : ∀ x ∈ s.snt.np, x.2.fifo = []) (h5 : ∀ x ∈ s.arm.links, x.2.rxBuf = []) : Calm s :=
  ⟨h1, h2, h3, at_all (P := fun p : NetPort => p.fifo = []) rfl _ h4, at_all (P := fun l : Link => l.rxBuf = []) rfl _ h5⟩
/-- The same as one test. -/
def isCalm (s : State) : Bool :=
  decide (s.cfg.waiting = none ∧ (∀ f ∈ s.hst.flights, f.op ≠ 0x10 ∧ f.op ≠ 0x11) ∧ s.aln.outbox = [] ∧
    (∀ x ∈ s.snt.np, x.2.fifo = []) ∧ ∀ x ∈ s.arm.links, x.2.rxBuf = [])
theorem calm_all {s : State} (h : isCalm s = true) : Calm s :=
  let ⟨h1, h2, h3, h4, h5⟩ := of_decide_eq_true h
  calm_of h1 h2 h3 h4 h5

/-- One entry of the access table grants M6 every place of the summaries. -/
theorem may_flush_of {s : State} (e : Nat) (he : e < 16) (hp : s.cap.place < 512) (h : s.entryGrants 21 e 6 17 0x3000 0x6FFF = true) :
    MayFlush s := by
  refine ⟨hp, fun p hp => ?_⟩
  simp only [State.granted, List.all_eq_true, List.any_eq_true, List.mem_range]
  refine fun i hi => ⟨e, he, ?_⟩
  simp only [State.entryGrants, Bool.and_eq_true, decide_eq_true_eq] at h ⊢
  exact ⟨⟨h.1.1, by omega⟩, by omega⟩


def withTim (f : Tim → Tim) (s : State := run) : State := { s with tim := f s.tim }
def flow (s : State) (f : Nat) (key : Bytes) (st : Nat) (l : List (Nat × Nat × Nat)) : State :=
  l.foldl (fun s x => s.setFctx f x.1 x.2.1 x.2.2) ((s.placeKey f (hashes key).1 key false).setFctx f 0x20 1 st)
def key (typ idx fmt : Nat) : Bytes := keyOf { typ := typ, idx := idx, fmt := fmt } 0

/-- TimeEdgeInputs: exactly 900 ms after the edge before, and a cycle sooner; 1.5 s after it; both sides of a step. -/
theorem test_meets_TimeEdgeInputs :
    let old (ns : Nat) : PpsEdge := ⟨0, 0, 2000000000 - ns / 4, true, false⟩
    run.glb.mode ≠ .reset ∧ (run.TIM_PPSCFG_EDGE = 0 ↔ true = true) ∧ ¬4 * (2000000000 - (old 900000000).tick) < 900000000 ∧
      4 * (2000000000 - (old 899999996).tick) < 900000000 ∧ 1500000000 ≤ 4 * (2000000000 - (old 1500000000).tick) ∧
      run.tim.edgeMissed = false ∧ run.live = true ∧ run.tim.stepTick = 0 ∧ 8 ≤ 4 * (run.tim.ticks - 1999999998) ∧
      ¬(1999999999 = 0 ∨ 8 ≤ 4 * (run.tim.ticks - 1999999999)) := by decide
/-- TimePpsOutAndQuality: no edge yet, a second later; a bound of 1 µs while locked, above it, and above 10 s. -/
theorem test_meets_TimePpsOutAndQuality :
    let s := fl (withTim fun t => { t with quality := 0, everLocked := true, locked := true, eBase := some 1000 }) [(R_TIM_PPSOUT, 0, 1, 1)]
    let u := withTim fun t => { t with everSet := true, quality := 5, eBase := some (10 ^ 10 + 1), ppsOut := true,
                                       ppsSec := some 4999, ppsTick := 1750000000 }
    s.ppsAllowed = true ∧ s.tim.ppsSec ≠ some (s.tim.dt / 10 ^ 9) ∧ s.tim.ppsSec = none ∧ 10 ^ 9 ≤ 4 * (u.tim.ticks - u.tim.ppsTick) ∧
      u.tim.ppsOut = true ∧ s.glb.mode ≠ .reset ∧ s.glb.mode ≠ .plinth ∧ s.errBound = some 1000 ∧ s.tim.locked = true ∧
      u.tim.locked = false ∧ (∃ e, u.errBound = some e ∧ 10 ^ 10 < e) ∧
      (∃ e, (withTim fun t => { t with everSet := true, eBase := some 1001 }).errBound = some e ∧ 1000 < e ∧ e ≤ 10 ^ 10) ∧
      run.tim.everLocked = false ∧ run.tim.everSet = false := by
  and_intros <;> decide
/-- TimeReferenceSlewAndLeap: the reference not in use and in use, a slew, LEAP_AT at device time and a day before it. -/
theorem test_meets_TimeReferenceSlewAndLeap :
    let s := fl (withTim fun t => { t with slew := -300 }) [(R_TIM_SRCPRI, 16, 1, 1), (R_TIM_UTC, 17, 1, 1), (R_TIM_LEAPAT, 0, 32, 5000)]
    let u := fl (withTim fun t => { t with ref10 := true }) [(R_TIM_UTC, 17, 1, 1)]
    s.glb.mode ≠ .reset ∧ s.glb.mode ≠ .halt ∧ s.TIM_SRCPRI_REF10_EN = 1 ∧ s.tim.ref10 = false ∧ u.tim.ref10 = true ∧
      0 ≤ (s.tim.dt * accUnit + s.tim.acc : Nat) + s.tim.slew ∧ s.TIM_UTC_PENDING = 1 ∧ s.leapAtNs ≤ s.tim.dt ∧ s.tim.leapDone = false ∧
      u.TIM_UTC_PENDING = 1 ∧ u.leapAtNs + 86400 * 10 ^ 9 ≤ 86400 * 10 ^ 9 := by decide

def irig (ones : List Nat) : List IrigElem :=
  (List.range 100).map fun i => if i == 0 || i % 10 == 9 then .marker else if ones.contains i then .one else .zero
/-- TimeSources: sources qualified, one selected behind another of higher priority; a window of eight exchanges on the uplink. -/
theorem test_meets_TimeSources :
    let s := fl (withTim fun t => { t with source := 4, pps := { state := 2 }, irig := { state := 2 }, arm := { state := 2 } })
      [(R_TIM_SRCPRI, 0, 16, 0x4321)]
    let u := fl { withTim (fun t => { t with source := 1, irig := { state := 1 }, arm := { state := 1 } }) with
      arm := { active := some 3, links := [(3, { state := 3, window := List.replicate 8 (3001, 55, 9, 4) })] } } [(R_ARM_LCFG 3, 0, 1, 1)]
    s.live = true ∧ (s.src 3).state ≠ 0 ∧ s.tim.source ≠ 0 ∧ (s.src 1).state = 2 ∧ s.tim.source ≠ 2 ∧
      s.priorities.findIdx (· == 2) < s.priorities.findIdx (· == s.tim.source) ∧ (s.src 2).state ≠ 0 ∧
      s.irigDecode (List.replicate 100 .zero) = none ∧ (s.src 2).bad < 2 ∧ u.tim.source = 1 ∧ u.linksOf 0 = [3] ∧ u.arm.active = some 3 ∧
      (∃ utc ofs adv day, u.irigDecode (irig [1, 6, 10, 20, 30]) = some (utc, ofs, adv, day)) ∧
      (∃ th dl bd q, (u.link 3).windowMean = some (th, dl, bd, q) ∧ q ≠ 15) ∧ (u.src 3).state ≠ 0 := by
  and_intros <;> first | decide | exact ⟨_, _, _, _, rfl⟩ | exact ⟨_, _, _, _, rfl, by decide⟩

def samples (bits : List Nat) : List (BitVec 3) := bits.map fun b => if b == 1 then 7 else if b == 0 then 0 else 3
/-- Port n enabled with a setting. -/
def port (s : State) (n cfg : Nat) (p : Port → Port) : State :=
  (fl s [(R_SER_PCFG n, 0, 32, cfg + 2 ^ 27)]).setPort n
    (p { s.port n with rxCfg := BitVec.ofNat 32 (cfg + 2 ^ 27), txCfg := BitVec.ofNat 32 (cfg + 2 ^ 27), line := .alive })
/-- SerialReceive: a good character of eight bits on the last port, with 63 and with 64 entries queued. -/
theorem test_meets_SerialReceive :
    let s := port run 95 0x80780 fun p => { p with rxq := List.replicate 63 { d := 0 } }
    let u := port run 0 0x80780 fun p => { p with rxq := List.replicate 64 { d := 0 } }
    let l := samples [0, 1, 0, 1, 1, 0, 0, 1, 0, 1]
    s.rxOn 95 = true ∧ (s.port 95).line = .alive ∧ s.tim.stepTick = 0 ∧ s.SER_PCFG_LOOP 95 ≠ 1 ∧
      cfgIr (s.port 95).rxCfg = 0 ∧ ((samples (List.replicate 10 0)).map majority).all (fun b => !b) = true ∧ (l.map majority).getD 0 true = false ∧ (l.map majority).getD 9 false = true ∧ cfgBits (s.port 95).rxCfg = 8 ∧ cfgPar (s.port 95).rxCfg = 0 ∧
      (s.port 95).rxq.length < 64 ∧ u.rxOn 0 = true ∧ (u.port 0).line = .alive ∧ 64 ≤ (u.port 0).rxq.length := by decide
/-- SerialTransmit: a character and a break at the head, flow control off and on, both directions with a new setting. -/
theorem test_meets_SerialTransmit :
    let s := port run 95 0x80780 fun p => { p with txq := [{ d := 0x1FF }], rxPend := true }
    let u := port run 0 (0x80780 + 2 ^ 28) fun p => { p with txq := [{ d := 5, brk := true }], txPend := false }
    s.txOn 95 = true ∧ (s.port 95).txPend = false ∧ (s.port 95).txq = [{ d := 0x1FF }] ∧ s.glb.silenced = false ∧ s.SER_PCFG_LOOP 95 ≠ 1 ∧
      s.SER_PCFG_FLOW 95 ≠ 1 ∧ u.txOn 0 = true ∧ (u.port 0).txq = [{ d := 5, brk := true }] ∧ u.SER_PCFG_FLOW 0 = 1 ∧
      (s.port 95).rxPend = true ∧ ((port run 3 0 fun p => { p with txPend := true }).port 3).txPend = true := by decide
/-- SerialLineAndBank: each state of a line, and a bank with a port enabled. -/
theorem test_meets_SerialLineAndBank :
    let s := port run 95 0x80780 fun p => { p with line := .brk }
    let u := port run 95 0x80780 fun p => { p with line := .dead }
    let v := port run 95 0x80780 fun p => { p with line := .held, stuckFrom := some (run.now / 1000 * 1000 - 1000000 * run.SER_PCTL_STUCK_TIME 95) }
    v.rxOn 95 = true ∧ (v.port 95).stuckFrom.map (fun x => x + 1000000 * v.SER_PCTL_STUCK_TIME 95) = some (v.now / 1000 * 1000) ∧ s.rxOn 95 = true ∧ (s.port 95).line = .brk ∧ (u.port 95).line = .dead ∧ (v.port 95).line = .held ∧ s.hasBank 7 = true ∧
      s.bankUsed 7 = true ∧ s.glb.mode ≠ .reset ∧ (s.bank 7).fault = false ∧ ((s.setBank 7 { fault := true }).bank 7).fault = true := by
  decide
/-- A port in assembly, with one entry queued. -/
def assembling (n mode d : Nat) (o : Option OpenSent := none) : State :=
  let s := fl (port run n 0x80780 fun p => { p with rxq := [{ d := BitVec.ofNat 9 d }] }) [(R_SNT_PCFG n, 0, 2, mode)]
  { s with snt := { s.snt with asm := match o with | some o => [(n, some o)] | none => [] } }
def openSent (kind : AsmKind) (n : Nat) : OpenSent :=
  { kind := kind, chars := List.replicate n 65, stamp := 4, step := 2, lastStamp := 0 }
/-- SentenceAssembly: every mode in hunt state, a raw run of 1,022 characters, an open sentence whose gap is watched. -/
theorem test_meets_SentenceAssembly :
    let s := assembling 95 0 0x24
    let u := assembling 95 3 0x24 (some (openSent .raw 1022))
    s.asmOn 95 = true ∧ s.live = true ∧ (s.port 95).rxq = [{ d := 0x24 }] ∧ s.eccBad = [] ∧ s.asmCell 95 = true ∧ s.asmOf 95 = none ∧
      s.SNT_PCFG_MODE 95 = 0 ∧ (assembling 0 1 0xAA).SNT_PCFG_MODE 0 = 1 ∧ (assembling 0 2 0xAA).SNT_PCFG_MODE 0 = 2 ∧
      u.SNT_PCFG_MODE 95 = 3 ∧ u.asmOf 95 = some (openSent .raw 1022) ∧ u.asmCell 95 = true ∧ 0 < charNs (u.port 95).rxCfg ∧
      (assembling 0 1 0xAA (some (openSent .c37 5))).asmOf 0 = some (openSent .c37 5) ∧ s.SNT_PCFG_GAP_CT 0 ≠ 0 := by decide +kernel
/-- SentenceAssembly: an open sentence and a raw run with nothing queued, long after their last character. -/
theorem test_meets_SentenceAssembly_gaps :
    let quiet (n mode : Nat) (k : AsmKind) : State :=
      let s := assembling n mode 0 (some { openSent k 5 with lastStep := run.tim.step })
      s.setPort n { s.port n with rxq := [] }
    let s := quiet 0 1 .c37
    let u := quiet 95 3 .raw
    s.asmOn 0 = true ∧ (s.port 0).rxq = [] ∧ (s.asmOf 0).map (·.lastStep) = some s.tim.step ∧ s.SNT_PCFG_GAP_CT 0 ≠ 0 ∧
      (1 + s.SNT_PCFG_GAP_CT 0) * charNs (s.port 0).rxCfg < s.tim.dt ∧ u.asmOn 95 = true ∧ u.live = true ∧ (u.port 95).rxq = [] ∧
      (u.asmOf 95).map (·.lastStep) = some u.tim.step ∧ (2 + u.SNT_PCFG_RAW_GAP 95) * charNs (u.port 95).rxCfg ≤ 2 * u.tim.dt := by
  decide +kernel
/-- A C37.118 data frame, in UDP over IPv4, in a MAC frame to a multicast address. -/
def ipv4 (src dport : Nat) (pl : Bytes) : Bytes :=
  let h0 := [0x45, 0] ++ beBytes 2 (28 + pl.length) ++ [0, 0, 0, 0, 64, 17, 0, 0] ++ beBytes 4 src ++ beBytes 4 0x0A000001
  h0.take 10 ++ beBytes 2 (0xFFFF - foldSum (inetSum h0)) ++ h0.drop 12 ++ beBytes 2 999 ++ beBytes 2 dport ++ beBytes 2 (8 + pl.length) ++
    [0, 0] ++ pl
def c37 : Bytes :=
  let b := [0xAA, 0x01] ++ beBytes 2 20 ++ beBytes 2 7 ++ beBytes 4 1000 ++ beBytes 4 0 ++ [1, 2, 3, 4]
  b ++ beBytes 2 (checkOf 1 b)
def frame : Bytes := padTo 60 ([1, 2, 3, 4, 5, 6, 1, 2, 3, 4, 5, 6] ++ beBytes 2 0x0800 ++ ipv4 0x0A000002 4712 c37)
def sentence : Sentence := { typ := 0, idx := 95, fmt := 2, stamp := 5, data := [1], len := 1 }
def netState (x : Sentence) : State :=
  let s := flow run 8191 (key 0 95 2) 2 [(0x30, 4, 1000), (0x48, 8, dev64 (5000000000000 - 3000000))]
  fl { s with snt := { s.snt with np := [(1, { blockLock := true })], classQ := [x] } } 
    [(R_SNT_NPCFG 1, 0, 1, 1), (R_SNT_RULE0 3, 0, 1, 1), (R_SNT_RULE0 3, 1, 4, 15), (R_SNT_RULE1 3, 16, 16, 65535)]
/-- NetworkAndClassification: a lock that changes, the shortest frame, a sentence of an ACTIVE flow and one of no flow that failed its
check, a flow that has been quiet for three periods to the nanosecond. -/
theorem test_meets_NetworkAndClassification :
    let s := netState sentence
    let u := netState { sentence with idx := 4, checkFailed := true }
    s.live = true ∧ s.npOn 1 = true ∧ (s.np 1).blockLock ≠ false ∧ s.eccBad = [] ∧ (∀ j, (s.np j).fifo = []) ∧ (∀ j, (s.link j).rxBuf = []) ∧
      60 ≤ frame.length ∧ s.npAddressed 1 frame = true ∧ (frameParts frame).2.1 ≠ 0x8808 ∧ (s.netActs 1 ⟨frame, 0, 0⟩).all (fun a => match a with | .host _ => false | _ => true) = true ∧
      s.refillReserves.poolUsed + actCells (s.netActs 1 ⟨frame, 0, 0⟩) ≤ 8192 ∧ s.findKey (keyOf sentence (s.maskOf sentence)) = some 8191 ∧ s.fState 8191 = 2 ∧ s.glb.shed ≠ 4 ∧
      s.flowBusy 8191 = false ∧ s.chs.blocked = [] ∧
      u.findKey (keyOf { sentence with idx := 4, checkFailed := true } (u.maskOf { sentence with idx := 4, checkFailed := true })) = none ∧
      8191 ∈ s.flowsUsed ∧ s.flw.silBase.at none 8191 = none ∧ s.fLastArr 8191 + 3000 * s.fExpPeriod 8191 = s.tim.dt := by
  refine ⟨?_, ?_, ?_, ?_, at_all (P := fun p : NetPort => p.fifo = []) rfl _ (by decide), fun _ => rfl, ?_, ?_, ?_, ?_, ?_, ?_, ?_, ?_, ?_, ?_, ?_, ?_, ?_⟩ <;>
    decide +kernel

/-! Host commands. -/

/-- `Ready`, as a test. -/
def isReady (s : State) (op : Nat) (c : HostCmd) : Bool :=
  decide (s.glb.mode ≠ .reset ∧ s.glb.rebootPending = false ∧ s.HST_CTL_KR_EN = 1 ∧ s.unconsumed < 511 ∧ s.hst.fetched = [] ∧
    s.hst.held = [] ∧ s.hst.flights = [] ∧ (op = 0x0C → s.cfg.job = none) ∧ s.aln.outbox = [] ∧ c.src = none)
theorem ready_of {s : State} {op : Nat} {c : HostCmd} (h : isReady s op c = true) : Ready s op c := by
  obtain ⟨h1, h2, h3, h4, h5, h6, h7, h8, h9, h10⟩ := of_decide_eq_true h
  exact ⟨⟨h1, h2⟩, ⟨h3, h4⟩, ⟨h5, h6, h7⟩, h8, h9, h10⟩
theorem in_sequence_of {s : State} {c : HostCmd} (h : s.snt.alive0.all (fun r => c.alive.toNat == (r + 1) % 256) = true) :
    inSequence s c := fun r hr => by simpa [hr] using h
/-- `Accepted`, as a test. -/
def isAccepted (s : State) (op : Nat) (c : HostCmd) : Bool :=
  decide (c.remote = false ∧ (c.epoch = s.glb.epoch ∧ c.epoch ≠ 0) ∧
    s.snt.alive0.all (fun r => c.alive.toNat == (r + 1) % 256) = true ∧ s.argsOk op c = true ∧ s.cmdAbsent op c = false ∧
    (cmdTarget op).all (fun p => s.granted p.1 0 p.2 0 1) = true ∧ s.cmdLegal op = true)
theorem accepted_of {s : State} {op : Nat} {c : HostCmd} (hr : isReady s op c = true) (h : isAccepted s op c = true) :
    Accepted s op c := by
  obtain ⟨h1, h2, h3, h4, h5, h6, h7⟩ := of_decide_eq_true h
  exact ⟨ready_of hr, h1, h2, in_sequence_of h3, h4, h5, fun t r e => by simpa [e] using h6, h7⟩

/-- The command ring enabled, the ring's alive counter at 4. -/
def ring (s : State) : State := fl { s with snt := { s.snt with alive0 := some 4 } } [(R_HST_CTL, 0, 2, 3)]
def armable (s : State) : State := fl s ((List.range 16).map fun g => (R_CAP_GCFG g, 0, 1, 1))
def noGrants (s : State) : State := (List.range 16).foldl (fun s e => s.setReg (R_PRT_AT0 9 e) 0) s

/-- HostCommandRefusals: a command that each check in turn refuses, and one that every check passes. -/
theorem test_meets_HostCommandRefusals :
    let r := ring run
    let e := { ring run with glb := { run.glb with epoch := 0xFFFF } }
    Ready r 0x18 (hc [3] 0 5) ∧ (hc [3] 0 5).remote = false ∧ (hc [3] 0 5).epoch = 0 ∧ (hc [3] 2 5).epoch ≠ r.glb.epoch ∧
      (hc [3] 1 5).epoch = r.glb.epoch ∧ r.snt.alive0 = some (hc [3] 1 4).alive.toNat ∧ inSequence r (hc [3] 1 5) ∧
      (hc [] 0xFFFF 5).epoch = e.glb.epoch ∧ r.argsOk 0x1C (hc [5] 1 5) = false ∧ r.argsOk 0x1C (hc [4] 1 5) = true ∧
      r.cmdAbsent 0x18 (hc [3] 1 5) = false ∧
      (∃ tg g, cmdTarget 0x18 = some (tg, g) ∧ (noGrants r).granted tg 0 g 0 1 = false ∧ r.granted tg 0 g 0 1 = true) ∧
      r.cmdLegal 0x01 = false ∧ r.cmdLegal 0x02 = true ∧
      { r with glb := { r.glb with variant := .e } }.cmdAbsent 0x18 (hc [3] 1 5) = true := by
  and_intros <;> first | decide +kernel | exact ready_of (by decide +kernel) | exact in_sequence_of (by decide +kernel) |
    exact ⟨_, _, rfl, by decide +kernel, by decide +kernel⟩
/-- HostTimeCommands: with no source and with one; the UTC form and the full form; a slew at 1 ms and a step above. -/
theorem test_meets_HostTimeCommands :
    let s := ring run
    let u := { s with tim := { s.tim with source := 2 } }
    Accepted s 0x00 (hc [] 1 5) ∧ Accepted s 0x1C (hc [3] 1 5) ∧ Accepted s 0x14 (hc [1, 2, 3, 4, 0x60005, 7] 1 5) ∧
      Accepted s 0x14 (hc [0, 2, 0x80000000, 4, 0x60005, 7] 1 5) ∧ Accepted u 0x14 (hc [0, 2, 0x80000000, 4, 0x60005, 7] 1 5) ∧
      Accepted s 0x15 (hc [1000000] 1 5) ∧ Accepted s 0x15 (hc [1000001] 1 5) ∧ Accepted u 0x15 (hc [1000000] 1 5) ∧
      s.tim.source = 0 ∧ u.tim.source ≠ 0 ∧ ((hc [1000000] 1 5).args.getD 0 0).toInt = 1000000 ∧
      ((hc [1] 1 5).arg 0).testBit 0 = true ∧ ((hc [0] 1 5).arg 0).testBit 0 = false := by
  and_intros <;> first | decide +kernel | exact accepted_of (by decide +kernel) (by decide +kernel)
/-- HostCaptureAndLogCommands: groups 0 and 15 named, enabled and not; one DONE with no room and with room; three log entries. -/
theorem test_meets_HostCaptureAndLogCommands :
    let c := hc [0x8001] 1 5
    let s0 := ring { run with cap := { run.cap with groups := [(0, { state := 5, seq := 3 }), (15, { state := 5, seq := 1 })] } }
    let s := armable s0
    let u := fl s [(R_CAP_GCFG 15, 6, 1, 0), (R_CAP_GSIZE 15, 16, 16, 1), (R_CAP_GCFG 0, 6, 1, 1)]
    let l := fl { ring run with log := [⟨4, 5, 1, 0, 3, [(1, 4)]⟩, ⟨3, 7, 1, 0, 3, []⟩] } [(R_PRT_LOGNEXT, 0, 32, 5)]
    let room (s : State) (g : Nat) : Bool :=
      s.CAP_GCFG_OVERWRITE g == 1 || decide ((s.group g).seq + 1 ≤ s.CAP_GSIZE_RECORDS g + s.CAP_GACK_SEQ g)
    Accepted s0 0x18 c ∧ Accepted s0 0x19 c ∧ s0.CAP_GCFG_ENABLE 15 = 0 ∧ (c.arg 0).testBit 15 = true ∧ Accepted s 0x18 c ∧
      Accepted s 0x19 c ∧ (∀ g < 16, (c.arg 0).testBit g = true → s.CAP_GCFG_ENABLE g ≠ 0) ∧
      (∀ g < 16, (c.arg 0).testBit g = true → u.CAP_GCFG_ENABLE g ≠ 0) ∧ Accepted u 0x18 c ∧ room u 15 = false ∧ (u.group 15).state = 5 ∧
      room u 0 = true ∧ (∀ g < 16, (hc [1] 1 5).arg 0 |>.testBit g → (u.group g).state = 5 → room u g = true) ∧
      Accepted u 0x18 (hc [1] 1 5) ∧ Accepted l 0x20 (hc [0x1000, 1, 3, 2] 1 5) ∧ l.log.length ≤ (l.reg R_PRT_LOGNEXT).toNat ∧
      (∀ i (h : i < l.log.length), (l.log[i]).no = (l.reg R_PRT_LOGNEXT).toNat - 1 - i) ∧
      Accepted l 0x21 (hc [0x1000, 1, 600, 2, 8] 1 5) := by
  and_intros <;> first | decide +kernel | exact accepted_of (by decide +kernel) (by decide +kernel)
/-- HostModeCommands: PLINTH with nothing committed, with lanes not ready and ready; HALT with records left; STANDBY with each claim. -/
theorem test_meets_HostModeCommands :
    let c := hc [] 1 5
    let p := { ring run with glb := { run.glb with mode := .plinth } }
    let p0 := { p with cfg := { p.cfg with committed := false } }
    let p1 := { p with glb := { p.glb with lanesReady := 0, ddrTrained := false } }
    let h := { ring run with glb := { run.glb with mode := .halt } }
    let h3 := { h with cap := { h.cap with unflushed := 3 } }
    let b := { ring run with glb := { run.glb with mode := .standby } }
    let b1 := { b with cfg := { b.cfg with twinImage := true } }
    let b2 := { b1 with pbr := { b1.pbr with claimLine := true } }
    Accepted p 0x01 c ∧ Accepted p0 0x01 c ∧ Accepted p1 0x01 c ∧ p0.cfg.committed = false ∧ p.cfg.committed = true ∧ p.runReady = true ∧
      p1.runReady = false ∧ p.pwr.required = 0 ∧ Accepted p 0x02 c ∧ Accepted h 0x03 c ∧ Accepted h3 0x03 c ∧ h.cap.unflushed = 0 ∧
      h3.cap.unflushed ≠ 0 ∧ MayFlush h3 ∧ (h3.setReg (R_PRT_AT0 21 0) 0).granted 21 6 17 (summAddr 0) 32 = false ∧ Accepted (ring run) 0x04 c ∧ Accepted b 0x05 c ∧ Accepted b1 0x05 c ∧ Accepted b2 0x05 c ∧
      b.cfg.twinImage = false ∧ b1.cfg.twinImage = true ∧ b1.pbr.claimLine = false ∧ b2.pbr.claimLine = true ∧ b2.hasPeer = true ∧
      b2.pbr.up = false := by
  and_intros <;> first | decide +kernel | exact accepted_of (by decide +kernel) (by decide +kernel) |
    exact may_flush_of 0 (by decide) (by decide) (by decide +kernel)

/-- An image of version 7 with one section of two register pairs: the bytes that are not zero. -/
def cells7 : SMap (BitVec 8) :=
  [(0, 0x49), (1, 0x58), (2, 0x4D), (3, 0x49), (4, 1), (6, 1), (8, 7), (13, 2), (256, 1), (260, 0x10), (261, 1), (264, 0x10), (272, 4),
   (274, 5), (276, 4), (280, 8), (282, 5), (284, 0x64), (508, 0xA9), (509, 0x2B), (510, 0x8C), (511, 0x52)]
/-- Its bytes. -/
@[irreducible] def img : Bytes := SMap.bytes cells7 0 0 512

/-! Why a load of the image is good. -/

/-- A bit of the CRC-32 on numerals, and the check of bytes with every partial value worked out. -/
def bitF (c : Nat) : Nat := Nat.xor (Nat.div c 2) (Nat.mul (Nat.mod c 2) 0xEDB88320)
theorem bitF_eq (c : Nat) : bitF c = crcBitR 0xEDB88320 c := by
  show (c / 2) ^^^ (c % 2 * 0xEDB88320) = _
  unfold crcBitR
  split <;> rename_i h
  · rw [h]
  · have : c % 2 = 0 := by omega
    rw [this]; simp
def strict : Bytes → Nat → Nat
  | [], c => c
  | b :: r, c => match bitF (bitF (bitF (bitF (bitF (bitF (bitF (bitF (Nat.xor c b.toNat)))))))) with
    | 0 => strict r 0
    | n + 1 => strict r (n + 1)
theorem strict_eq (bs : Bytes) : ∀ c, strict bs c = checkRun 2 c bs := by
  induction bs with
  | nil => intro c; rfl
  | cons b r ih =>
    intro c
    show (match bitF (bitF (bitF (bitF (bitF (bitF (bitF (bitF (Nat.xor c b.toNat)))))))) with
      | 0 => strict r 0
      | n + 1 => strict r (n + 1)) = checkRun 2 (times8 (crcBitR 0xEDB88320) (c ^^^ b.toNat)) r
    have e : bitF (bitF (bitF (bitF (bitF (bitF (bitF (bitF (Nat.xor c b.toNat)))))))) = times8 (crcBitR 0xEDB88320) (c ^^^ b.toNat) := by
      simp only [bitF_eq, times8]; rfl
    rw [← e]
    split <;> rename_i h <;> rw [ih, h]
theorem regs4_low : ∀ r ∈ regRows4, r.reset = 0 ∨ (0 < r.s1 ∧ r.off + r.n1 * r.s1 ≤ 0x48000) := by decide
theorem covers_lt {r : RegRow} {o : Nat} (hs : 0 < r.s1) (h : r.covers o = true) : r.off ≤ o ∧ (o < r.off + r.n1 * r.s1) := by
  unfold RegRow.covers at h
  split at h
  · cases h
  · refine ⟨by omega, ?_⟩
    have key : (o - r.off) / r.s1 < r.n1 → o < r.off + r.n1 * r.s1 := fun hd => by
      have := (Nat.div_lt_iff_lt_mul hs).mp hd; omega
    simp only at h
    split at h
    · rename_i hn; simp at hn h
      exact key (by rw [h]; simp; omega)
    · split at h
      · simp at h; exact key h.1
      · split at h <;> simp at h
        · exact key h.1.1
        · exact key h.1.1.1
theorem group_reset (o : Nat) (h1 : 0x48000 ≤ o) (h2 : o < 0x50000) : regReset o = 0 := by
  have e1 : ¬(0x80020 ≤ o) := by omega
  have e2 : ¬(0xF1000 ≤ o) := by omega
  have e3 : ¬o = 0xF0004 := by omega
  have e4 : o / 0x10000 = 4 := by omega
  simp only [regReset, e1, e2, e3, regRow, regRowsOf, e4, decide_false, Bool.false_and, Bool.false_eq_true, if_false]
  split
  · rename_i r hr
    obtain hz | ⟨hs, hl⟩ := regs4_low r (List.mem_of_find?_eq_some hr)
    · rw [hz]; rfl
    · have := covers_lt hs (List.find?_some (p := fun r => RegRow.covers r o) hr); omega
  · rfl
theorem get_outside {m : SMap (BitVec 32)} {k : Nat} (h : ∀ x ∈ m, x.1 ≠ k) : m.get regReset k = regReset k := by
  induction m with
  | nil => rfl
  | cons x r ih =>
    unfold SMap.get
    rw [if_neg (h x (by simp))]
    exact ih fun y hy => h y (by simp [hy])
/-- No register of the listener groups is written: every word of every group is zero. -/
theorem group_word {s : State} (h : s.regs.all (fun x => x.1 < 0x48000 || 0x50000 ≤ x.1) = true) (g w : Nat) (hg : g < 1024) (hw : w < 8) :
    s.groupWord g w = 0 := by
  have hr : 0x48000 ≤ R_FLW_LGRP g w ∧ R_FLW_LGRP g w < 0x50000 := by unfold R_FLW_LGRP; omega
  unfold State.groupWord State.reg
  rw [get_outside, group_reset _ hr.1 hr.2]; · rfl
  intro x hx e
  have := List.all_eq_true.mp h x hx
  simp at this; omega

theorem groups_none {s : State} (h : s.regs.all (fun x => x.1 < 0x48000 || 0x50000 ≤ x.1) = true) (h0 : s.ALN_DEEPSIZE_SIZE_MIB = 0) :
    s.unitsMissing = 0 := by
  have e : ∀ b < 8, (!s.hasBank b && (bankPorts b).any fun n => (List.range 1024).any fun g => bitOf (s.groupWord g (n / 32)) (n % 32)) =
      false := by
    intro b hb
    rw [Bool.and_eq_false_iff]; right
    simp only [List.any_eq_false, bankPorts, List.mem_map, List.mem_range, Bool.not_eq_true]
    rintro n ⟨i, hi, rfl⟩
    intro g hg
    rw [group_word h g _ hg (by omega)]; simp [bitOf]
  have l : (List.range 8).map (fun b => b1 (!s.hasBank b && (bankPorts b).any fun n =>
      (List.range 1024).any fun g => bitOf (s.groupWord g (n / 32)) (n % 32)) * 2 ^ b) = (List.range 8).map fun _ => 0 :=
    List.map_congr_left fun b hb => by rw [e b (List.mem_range.mp hb)]; simp [b1]
  unfold State.unitsMissing
  rw [h0]
  show b1 (0 != 0 && !s.hasDdr) * 2 ^ 20 + sumList _ = 0
  rw [l]; simp [b1]; decide
theorem group_streams {s : State} (h : s.regs.all (fun x => x.1 < 0x48000 || 0x50000 ≤ x.1) = true) (g : Nat) (hg : g < 1024) :
    s.groupStreams g = [] := by
  have l : (List.range 8).map (fun i => bits (s.groupWord g (4 + i / 2)) (16 * (i % 2)) 16) = (List.range 8).map fun _ => 0 :=
    List.map_congr_left fun i hi => by
      have := List.mem_range.mp hi
      rw [group_word h g _ hg (by omega)]; simp [bits]
  unfold State.groupStreams
  rw [l]; rfl
theorem egr_good {s : State} (h : s.regs.all (fun x => x.1 < 0x48000 || 0x50000 ≤ x.1) = true)
    (h1 : (List.range 256).all (fun i => s.EGR_SCFG_ENABLE i != 1) = true)
    (h2 : ((List.range 16).map (fun h => s.EGR_HQCFG_KIB h)).foldl (· + ·) 0 ≤ 1024) : s.egrRefuses = false := by
  have h1' : ∀ i < 256, s.EGR_SCFG_ENABLE i ≠ 1 := fun i hi => by simpa using List.all_eq_true.mp h1 i (List.mem_range.mpr hi)
  unfold State.egrRefuses
  simp only [Bool.or_eq_false_iff, List.any_eq_false, List.mem_range]
  refine ⟨⟨fun i hi => by simp [h1' i hi], fun g hg => by simp [group_streams h g hg]⟩, by simpa using h2⟩

theorem check_eq (bs : Bytes) : checkOf 2 bs = strict bs 0xFFFFFFFF ^^^ 0xFFFFFFFF := by rw [strict_eq]; rfl
theorem img_check : checkOf 2 (img.take 508) = le img 508 4 := by
  rw [check_eq]; decide +kernel
/-- The candidate of the image is refused by no chapter, tested but for the listener groups. -/
def chapters (t : State) : Bool :=
  t.regs.all (fun x => x.1 < 0x48000 || 0x50000 ≤ x.1) && t.ALN_DEEPSIZE_SIZE_MIB == 0 && !(t.pwrRefuses || t.serRefuses || t.CU_CFG_ENABLE 15 == 1 || t.keysRefuse) &&
    !(t.chsRefuses 0 0 || t.alnRefuses || t.rcvRefuses) && !t.coefRefuses && !t.hasAnalysis && !t.hasCapture &&
    (List.range 256).all (fun i => t.EGR_SCFG_ENABLE i != 1) &&
    decide (((List.range 16).map (fun h => t.EGR_HQCFG_KIB h)).foldl (· + ·) 0 ≤ 1024) && !t.armRefuses && t.PBR_CFG_TWIN == 0 && !t.ddrRefuses
theorem chapters_good {t : State} (h : chapters t = true) : t.chapterRefusal 0 0 = none := by
  simp only [chapters, Bool.and_eq_true, Bool.not_eq_true', decide_eq_true_eq, beq_iff_eq] at h
  obtain ⟨⟨⟨⟨⟨⟨⟨⟨⟨⟨⟨h1, h0⟩, h2⟩, h3⟩, h4⟩, h5⟩, h6⟩, h7⟩, h8⟩, h9⟩, h10⟩, h11⟩ := h
  simp only [State.chapterRefusal, h2, groups_none h1 h0, h3, h4, h5, h6, egr_good h1 h7 h8, h9, h10, h11]
  rfl
theorem good_of {s : State} {src : ImgSrc} (hr : s.srcRead src 0 512 = img) (hh : s.srcRead src 0 256 = img.take 256)
    (hu : (s.srcUp src && !s.srcBad src 512) = true) (hc : chapters (s.candidate img) = true) :
    ∃ x, s.loadCheck src = .good x ∧ x.st = s.candidate img := by
  simp only [Bool.and_eq_true, Bool.not_eq_true'] at hu
  have hg : headerGood (img.take 256) = true := by decide +kernel
  have hl : le (img.take 256) 12 4 = 512 := by decide +kernel
  have hn : ¬(le (img.take 256) 6 2 = 0 ∨ 256 < le (img.take 256) 6 2) := by decide +kernel
  have hq : le (img.take 256) 16 3 = 0 := by decide +kernel
  have hb : badSect img [] (sectsOf img) = none := by decide +kernel
  have hp : badPair [] (pairsOf img (sectsOf img)) = none := by decide +kernel
  have h0 : (sectBytes img (sectsOf img) 0x10).length / 4 = 0 ∧ (sectBytes img (sectsOf img) 0x11).length / 4 = 0 := by decide +kernel
  have hz : 0 &&& s.units = 0 := Nat.zero_and _
  simp only [State.loadCheck, hh, hu.1, hg, hl, hr, hu.2, hn, hq, hb, hp, h0.1, h0.2, chapters_good hc, hz]
  simp [img_check]
theorem passes_of {s : State} {src : ImgSrc} (h : ∃ x, s.loadCheck src = .good x ∧ x.st = s.candidate img) : s.passes src = true := by
  obtain ⟨x, hx, -⟩ := h
  simp [State.passes, hx]

/-- Variant E with `m` in its areas, in PLINTH, and with the image in the Maquette in RUN with version 5 running. -/
def maquette (m : SMap (BitVec 8)) : State :=
  ring { State.reset with glb := { State.reset.glb with variant := .e }, cfg := { State.reset.cfg with maqUsed := true, hram := m } }
def running : State :=
  { maquette cells7 with glb := { State.reset.glb with variant := .e, mode := .run },
                         cfg := { (maquette cells7).cfg with committed := true, runVer := 5, retVer := 5 },
                         tim := { State.reset.tim with dt := 5 * 10 ^ 9 + 1 } }
/-- The confirmation window open, slot A writable, slot B holding version 5 confirmed. -/
def confirming : State :=
  { running with cfg := { running.cfg with
      window := some 100, runVer := 7, prevVer := 5, slotA := { state := 1, version := 7, length := 512 }, slotB := { state := 2, version := 5 } } }
/-- The same with the image in the retained area. -/
def retaining : State :=
  { confirming with cfg := { confirming.cfg with hram := cells7 ++ cells7.map (fun x => (areaBytes + x.1, x.2)), retLen := 512 } }
/-- Slot A confirmed with version 7 in flash, slot B writable. -/
def flashed : State :=
  fl { running with flash := (List.range 512).map (fun i => (0x10000 + i, cells7.at 0 i)),
                    cfg := { running.cfg with slotA := { state := 2, version := 7, length := 512 }, slotB := { state := 1, version := 5 } } }
    [(R_CFG_FLASHGEO, 0, 16, 1)]
theorem good_maquette : ∃ x, (begun (maquette cells7) 0x09 (hc [0] 1 5)).loadCheck .maquette = .good x ∧
    x.st = (begun (maquette cells7) 0x09 (hc [0] 1 5)).candidate img :=
  good_of (by decide +kernel) (by decide +kernel) (by decide +kernel) (by decide +kernel)
theorem good_running : ∃ x, (begun running 0x09 (hc [1, 7, 0] 1 5)).loadCheck .maquette = .good x ∧
    x.st = (begun running 0x09 (hc [1, 7, 0] 1 5)).candidate img :=
  good_of (by decide +kernel) (by decide +kernel) (by decide +kernel) (by decide +kernel)
theorem bytes_map (m : SMap (BitVec 8)) (d : BitVec 8) (n : Nat) : ∀ a, m.bytes d a n = (List.range n).map fun i => m.at d (a + i) := by
  induction n with
  | zero => intro a; rfl
  | succ n ih =>
    intro a
    rw [List.range_succ_eq_map]
    simp only [SMap.bytes, ih, List.map_cons, List.map_map, Nat.add_zero, List.cons.injEq, true_and]
    exact List.map_congr_left fun i _ => by simp only [Function.comp_apply]; congr 1; omega
theorem at_listed (l : List Nat) (b k : Nat) (d : BitVec 8) (f : Nat → BitVec 8) (h : k ∈ l) :
    SMap.at (l.map fun i => (b + i, f i)) d (b + k) = f k := by
  induction l with
  | nil => cases h
  | cons x r ih =>
    unfold SMap.at SMap.get
    by_cases e : x = k
    · simp [e]
    · have : k ∈ r := by simpa [Ne.symm e] using h
      simp only [List.map_cons, Nat.add_left_cancel_iff, e, if_false]
      exact ih this
theorem flash_holds {s : State} (m : s.flash = (List.range 512).map fun i => (0x10000 + i, cells7.at 0 i)) (n : Nat) (hn : n ≤ 512) :
    s.srcRead (.slot 0) 0 n = (List.range n).map (cells7.at 0) := by
  have b : s.slotBase 0 + 0 = 0x10000 := by simp [State.slotBase]
  show SMap.bytes s.flash 0xFF (s.slotBase 0 + 0) n = _
  rw [b, m, bytes_map]
  exact List.map_congr_left fun i hi =>
    at_listed _ _ _ _ _ (List.mem_range.mpr (Nat.lt_of_lt_of_le (List.mem_range.mp hi) hn))
theorem img_map : img = (List.range 512).map (cells7.at 0) := by
  unfold img
  rw [bytes_map]
  simp only [Nat.zero_add]
theorem good_flash {s : State} (m : s.flash = (List.range 512).map fun i => (0x10000 + i, cells7.at 0 i))
    (hu : (s.srcUp (.slot 0) && !s.srcBad (.slot 0) 512) = true) (hc : chapters (s.candidate img) = true) :
    ∃ x, s.loadCheck (.slot 0) = .good x ∧ x.st = s.candidate img :=
  good_of ((flash_holds m 512 (by decide)).trans img_map.symm)
    ((flash_holds m 256 (by decide)).trans (by rw [img_map, ← List.map_take, List.take_range]; rfl)) hu hc
theorem good_slot : ∃ x, (begun flashed 0x0B (hc [] 1 5)).loadCheck (.slot 0) = .good x ∧
    x.st = (begun flashed 0x0B (hc [] 1 5)).candidate img :=
  good_flash (by simp only [begun, State.count, flashed, fl, List.foldl, State.setFld, State.setReg]) (by decide +kernel) (by decide +kernel)
theorem good_retained :
    let s : State := { begun retaining 0x0B (hc [] 1 5) with cfg := { retaining.cfg with window := none } }
    ∃ x, s.loadCheck .retained = .good x ∧ x.st = s.candidate img :=
  good_of (by decide +kernel) (by decide +kernel) (by decide +kernel) (by decide +kernel)

/-- HostImageCommands: IMAGE_WRITE from the staging area, of nothing and of 516 bytes, elsewhere, and inside the window. -/
theorem test_meets_HostImageCommands_write :
    let s := running
    let c := hc [16, 0, 16, 516] 1 5
    Accepted s 0x08 c ∧ Accepted s 0x08 (hc [16, 0, 16, 0] 1 5) ∧ Accepted s 0x08 (hc [0x1000, 0, 16, 516] 1 5) ∧ s.hasDdr = false ∧
      c.arg 0 + 2 ^ 32 * c.arg 1 = s.hostArea + c.arg 2 ∧ s.cfg.waiting = none ∧ s.cfg.window = none ∧ s.areasUp = true ∧
      confirming.cfg.window ≠ none ∧ Accepted confirming 0x08 c := by
  and_intros <;> first | exact accepted_of (by decide +kernel) (by decide +kernel) | decide +kernel
/-- COMMIT of a good image and of none, in PLINTH, at the next second, and at an instant of the grid and off it. -/
theorem test_meets_HostImageCommands_commit :
    let s := running
    let c := hc [0] 1 5
    let d := hc [1, 7, 0] 1 5
    let w := { s with cfg := { s.cfg with waiting := some { at_ := 5, src := .maquette, cmd := none } } }
    let g := fl s [(R_ALN_DCFG 0, 0, 1, 1)]
    Accepted s 0x09 c ∧ Accepted s 0x09 d ∧ Accepted (maquette cells7) 0x09 c ∧ Accepted w 0x09 c ∧ w.cfg.waiting ≠ none ∧
      s.cfg.waiting = none ∧ s.cfg.window = none ∧ (∃ x, (begun (maquette cells7) 0x09 c).loadCheck .maquette = .good x) ∧
      (maquette cells7).glb.mode = .plinth ∧ s.glb.mode ≠ .plinth ∧ c.arg 0 = 0 ∧ d.arg 0 = 1 ∧ s.onEveryGrid (7 * 10 ^ 9) = true ∧
      (∃ x, (begun s 0x09 d).loadCheck .maquette = .good x ∧ x.st.onEveryGrid (7 * 10 ^ 9) = true) ∧
      Accepted (maquette []) 0x09 c ∧ (∃ e, (begun (maquette []) 0x09 c).loadCheck .maquette = .refused e) ∧
      Accepted g 0x09 (hc [1, 7, 1] 1 5) ∧ g.onEveryGrid (7 * 10 ^ 9 + 1) = false := by
  have ⟨x, h, _⟩ := good_maquette
  have ⟨y, i, e⟩ := good_running
  and_intros <;> first | exact accepted_of (by decide +kernel) (by decide +kernel) | exact ⟨x, h⟩ | exact ⟨y, i, by rw [e]; decide +kernel⟩ | exact ⟨⟨4, 0xFF, 0, 0⟩, by rfl⟩ | decide +kernel
/-- CONFIRM inside the window, of the running version and of another. -/
theorem test_meets_HostImageCommands_confirm :
    let s := confirming
    let i := s.srcRead .maquette 0 512
    Accepted s 0x0A (hc [7] 1 5) ∧ Accepted s 0x0A (hc [8] 1 5) ∧ s.cfg.window = some 100 ∧ s.tim.ticks < 100 ∧ s.cfg.runVer = 7 ∧
      leNat (s.srcRead .maquette 12 4) = 512 ∧ s.holdsVersion .maquette 7 = true ∧ s.srcBad .maquette 512 = false ∧
      checkOf 2 (i.take 508) = le i 508 4 ∧ s.cfg.job = none ∧ (s.slot 0).state = 1 ∧ (s.slot 0).version = 7 := by
  have e : confirming.srcRead .maquette 0 512 = img := by decide +kernel
  simp only [e]
  and_intros <;> first | exact accepted_of (by decide +kernel) (by decide +kernel) | exact img_check | decide +kernel
/-- ROLLBACK to a confirmed slot, with none, and inside the window to the retained image; FLASH_WRITE of versions held and not held. -/
theorem test_meets_HostImageCommands_rollback :
    let s := flashed
    let r := retaining
    let c := hc [] 1 5
    Accepted s 0x0B c ∧ s.cfg.window = none ∧ s.cfg.waiting = none ∧ (s.slot 0).state = 2 ∧ (s.slot 0).version ≠ s.cfg.runVer ∧
      (∃ x, (begun s 0x0B c).loadCheck (.slot 0) = .good x) ∧ Accepted running 0x0B c ∧ (∀ i < 2, (running.slot i).state ≠ 2) ∧
      Accepted r 0x0B c ∧ r.cfg.window = some 100 ∧ r.cfg.retVer = r.cfg.prevVer ∧ r.cfg.prevVer ≠ 0 ∧
      ({ begun r 0x0B c with cfg := { r.cfg with window := none } } : State).passes .retained = true ∧
      Accepted s 0x0C (hc [1, 7] 1 5) ∧ Accepted s 0x0C (hc [0, 7] 1 5) ∧ Accepted s 0x0C (hc [1, 9] 1 5) ∧
      s.holdsVersion .maquette 7 = true ∧ s.holdsVersion .maquette 9 = false ∧ s.holdsVersion .retained 9 = false ∧
      leNat (s.srcRead .maquette 12 4) ≤ s.CFG_FLASHGEO_SLOT_64K * 0x10000 ∧ (s.slot 1).state ≠ 2 := by
  have ⟨x, h, _⟩ := good_slot
  have p := passes_of good_retained
  and_intros <;> first | exact accepted_of (by decide +kernel) (by decide +kernel) | exact ⟨x, h⟩ |
    (with_reducible exact p) | decide +kernel

/-- Flows 5 and 8191 used, network ports 1 and 2 with block lock, lanes 0 and 3 enabled, lane 3 with a stream. -/
def flowing : State :=
  fl (flow (flow (ring { run with snt := { run.snt with np := [(1, { blockLock := true }), (2, { blockLock := true, shed := true })] },
                                  rcl := { run.rcl with lanes := [(3, { latest := some 5, streams := [(5, { started := true })] })], woken := [3] } })
      5 (key 0 95 2) 2 [(0x2A, 1, 0x83)]) 8191 (key 0 0 2) 1 []) [(R_RCV_LCFG 3, 0, 1, 1), (R_RCV_LCFG 0, 0, 1, 1)]
/-- HostFlowCommands: the last flow used, one not, one with a run; a lane enabled and not; a stream on and off; a port with lock and shed. -/
theorem test_meets_HostFlowCommands :
    let s := flowing
    let u := { s with chs := { s.chs with threads := [(0, { run := some { entry := { flow := 5 }, started := true } })] } }
    Accepted s 0x10 (hc [5, 0x3FFF, 0x1000, 7] 1 5) ∧ Accepted s 0x11 (hc [8191] 1 5) ∧ Accepted s 0x11 (hc [6] 1 5) ∧
      Accepted u 0x11 (hc [5] 1 5) ∧ u.runOn 5 = true ∧ s.runOn 8191 = false ∧ s.fUsed 8191 = true ∧ s.fUsed 6 = false ∧
      Accepted s 0x12 (hc [3] 1 5) ∧ Accepted s 0x12 (hc [15] 1 5) ∧ s.RCV_LCFG_ENABLE 3 = 1 ∧ s.RCV_LCFG_ENABLE 15 ≠ 1 ∧
      Accepted s 0x12 (hc [0x80000005] 1 5) ∧ Accepted s 0x12 (hc [0x80000006] 1 5) ∧
      ((hc [0x80000005] 1 5).arg 0).testBit 31 = true ∧ ((hc [3] 1 5).arg 0).testBit 31 = false ∧ s.fLaneEn 5 = true ∧ s.fLane 5 = 3 ∧ 5 ∈ s.laneStreams 3 ∧
      ({ s with rcl := { s.rcl with woken := [] } } : State).laneRuns 3 = false ∧
      Accepted s 0x24 (hc [1, 60, 16, 0] 1 5) ∧ Accepted s 0x24 (hc [0, 9212, 16, 0] 1 5) ∧ (s.np 1).blockLock = true ∧
      (s.np 1).shed = false ∧ (s.np 0).blockLock = false ∧ (s.np 2).shed = true := by
  and_intros <;> first | decide +kernel | exact accepted_of (by decide +kernel) (by decide +kernel)

/-- A remote command to device `d`. -/
def rc (d : Nat) : HostCmd := { hc [] 1 5 with remote := true, dest := BitVec.ofNat 14 d, remoteEpoch := 7 }
def inFlight (s : State) (op aw : Nat) (c : HostCmd) (sent : Bool := false) : State :=
  { s with hst := { s.hst with flights := [{ key := 3, op := op, cmd := c, awaited := aw, data := [], done := 0, sent := sent }] } }
/-- A flow's 512 bytes with key, STATE and fields. -/
def block (key : Bytes) (st : Nat) : Bytes :=
  padTo 512 (key ++ [0, 0] ++ [BitVec.ofNat 8 st, 3, 0, 1, 5, 0, 0, 0, 9, 0, 3, 4, 0, 0, 2, 0, 7, 8, 9, 1])
/-- HostRemoteAndReads: a device whose ring link is up, one whose cells are steered and one without a link; a sent flight; reads that end a command and that do not. -/
theorem test_meets_HostRemoteAndReads :
    let s := fl { ring run with arm := { run.arm with links := [(2, { state := 3 })], active := some 2 } }
      [(R_ARM_ROUTE 0, 0, 32, 0x98720000), (R_ARM_LCFG 2, 0, 1, 1), (R_ARM_LCFG 2, 1, 2, 2), (R_ARM_LCFG 7, 0, 1, 1), (R_ARM_LCFG 7, 1, 2, 3)]
    let sent := inFlight s 0 0 (rc 4) true
    let write := inFlight { s with glb := { s.glb with variant := .e } } 8 600 (hc [0, 0, 8, 600] 1 5)
    let flow := inFlight (fl flowing [(R_CHS_PCODE, 0, 17, 100), (R_ALN_DCFG 0, 0, 1, 1)]) 0x10 512 (hc [6, 0x3FF] 1 5)
    let stream := inFlight flowing 0x24 60 (hc [0x301, 60] 1 5)
    let b := block (key 0 7 2) 1
    let sends (d : Nat) : Bool := decide (isReady s 0 (rc d) = true ∧ (rc d).remote = true ∧ (rc d).epoch = s.glb.epoch ∧ (rc d).epoch ≠ 0 ∧
      s.snt.alive0 = some 4 ∧ s.argsOk 0 (rc d) = true ∧ s.live = true)
    (sends 4 = true ∧ s.codeLink 4 = some 2 ∧ s.steer 2 = some (2, false)) ∧ (sends 5 = true ∧ s.codeLink 5 = some 7 ∧ s.steer 7 = some (2, true)) ∧
      (sends 7 = true ∧ (s.codeLink 7).bind s.steer = none) ∧
      (∀ u ∈ [sent, write, flow, stream], u.HST_CTL_KR_EN = 1 ∧ u.unconsumed < 511 ∧ u.hst.held = [] ∧ u.hst.fetched = []) ∧
      (List.replicate 600 (0 : Byte)).length ≤ 600 ∧ b.length = 512 ∧ flow.runOn 6 = false ∧ flow.flowSetRefusal 6 0x3FF b = none ∧
      flow.flowSetRefusal 6 0x3FE b = some 4 ∧ flow.findKey (b.take 30) = none ∧ flow.eccBad = [] ∧ stream.outOn = true := by
  decide +kernel

/-! Accesses. -/

/-- `MayAccess`, as a test. -/
def accesses (s : State) (m off n right : Nat) : Bool :=
  decide (s.glb.mode ≠ .reset ∧ (off < 0x110000 ∧ off % n = 0 ∧ (n = 4 ∨ n = 8)) ∧
    (s.masterHeld m = false ∧ (∀ y ∈ s.pbr.waitBus, y.master ≠ m) ∧ s.pbr.farLock ≠ some (off / 0x10000)) ∧ s.absentAt off = false ∧
    s.granted (off / 0x10000) m right (off % 0x10000) n = true)
theorem may_of {s : State} {m off n right : Nat} (h : accesses s m off n right = true) : MayAccess s m off n right := by
  obtain ⟨h1, h2, h3, h4, h5⟩ := of_decide_eq_true h
  exact ⟨h1, h2, h3, h4, h5⟩
theorem may_all {s : State} {ms os : List Nat} {m o : Nat} (hm : m ∈ ms) (ho : o ∈ os)
    (h : (ms.all fun m => os.all fun o => accesses s m o 4 17) = true) : MayAccess s m o 4 17 :=
  may_of (List.all_eq_true.mp (List.all_eq_true.mp h m hm) o ho)
def entries : List HqEntry := [⟨5, [1], [1, 2]⟩, ⟨6, [1], [1, 2]⟩]
/-- HostInterfaceWrites: a doorbell 256 and 257 ahead, a ring enabled and not, an acknowledgement that meets the head and one that does not,
a read offset at the write offset and past it; a flag register, a counter and a read-only register; each plain register. -/
theorem test_meets_HostInterfaceWrites :
    let s := fl { run with egr := { run.egr with hqs := [(0, { entries := entries })] } }
      [(R_HST_CTL, 0, 2, 1), (R_HST_CRHEAD, 0, 16, 65500), (R_EGR_HQCFG 1, 11, 1, 1), (R_HST_HQWR 15, 0, 32, 7), (R_HST_HQRD 15, 0, 32, 3)]
    let ahead (v : Nat) : Nat := (v % 65536 + 65536 - s.HST_CRHEAD_HEAD) % 65536
    MayAccess s 0 R_HST_CRTAIL 4 17 ∧ ahead 220 = 256 ∧ 256 < ahead 221 ∧ MayAccess s 0 R_HST_KRHEAD 4 17 ∧ MayAccess s 0 R_HST_CTL 4 17 ∧
      s.eccBad = [] ∧ (∀ o ∈ [R_HST_CRBASEL, R_HST_CRBASEH, R_HST_KRBASEL, R_HST_KRBASEH], MayAccess s 0 o 4 17) ∧ s.HST_CTL_CR_EN = 1 ∧
      s.HST_CTL_KR_EN ≠ 1 ∧ MayAccess s 0 (R_EGR_HQACK 0) 4 17 ∧ s.EGR_HQCFG_DMA 0 = 0 ∧ (s.hq 0).entries = entries ∧
      MayAccess s 0 (R_EGR_HQACK 1) 4 17 ∧ s.EGR_HQCFG_DMA 1 ≠ 0 ∧ MayAccess s 0 (R_EGR_HQACK 15) 4 17 ∧ (s.hq 15).entries = [] ∧
      MayAccess s 0 (R_HST_HQRD 15) 4 17 ∧ s.HST_HQWR_WR 15 = 7 ∧ s.HST_HQRD_RD 15 = 3 ∧
      (∀ m ∈ [0, 4], ∀ o ∈ [R_GLB_WINPAGE, R_TIM_FLAGS, R_EGR_GCNT 1, R_TIM_STATUS, 0x0000C, R_CAP_WINBASE, R_HST_KCOAL, R_CU_EXP 15,
        R_PBR_MIRUSER 31 1], MayAccess s m o 4 17) ∧
      (∀ m ∈ [0, 4], MayAccess { s with glb := { s.glb with variant := .e } } m R_CFG_HOSTRAML 4 17) ∧
      (regRow R_TIM_FLAGS).any (fun r => r.cls == .flags && decide (r.w1c < 2 ^ 32)) = true ∧
      (regRow (R_EGR_GCNT 1)).any (fun r => r.cls == .counter) = true ∧ (regRow R_TIM_STATUS).any (fun r => r.cls == .ro) = true := by
  and_intros <;> first | decide +kernel | exact may_of (by decide +kernel) |
    exact fun m hm o h => may_all hm h (by decide +kernel) | exact fun o h => may_all (ms := [0]) (by decide) h (by decide +kernel) |
    exact fun m hm => may_all (os := [R_CFG_HOSTRAML]) hm (by decide) (by decide +kernel)
/-- UnitRegisterWrites: lane 3 that runs on bank 0 with banks 0 and 5 filled, groups 0, 1 and 15, two areas enabled, a lock in each state,
both ends of the words that a window write does not reach. -/
theorem test_meets_UnitRegisterWrites :
    let bank : Bytes := leBytes 4 0x4B4E4243 ++ [0, 1, 2, 0]
    let s := fl { flow run 5 (key 0 95 2) 2 [(0x2A, 1, 0x83)] with
        rcl := { run.rcl with lanes := [(3, { bank := 0, latest := some 50 })], woken := [3],
                              coef := SMap.setBytes (SMap.setBytes [] 0 0x100000 bank) 0 0x100140 bank }
        cap := { run.cap with groups := [(0, { newest := 5, seq := 5, state := 6 }), (15, { newest := 200, seq := 200, state := 3 })] } }
      [(R_RCV_LCFG 3, 0, 1, 1), (R_RCV_LCFG 3, 11, 7, 24), (R_CAP_GCFG 0, 0, 1, 1), (R_CAP_GCFG 0, 6, 1, 0), (R_CAP_GSIZE 0, 16, 16, 2), (R_CAP_GACK 15, 0, 32, 4),
       (R_ANA_AREA 0, 0, 1, 1), (R_ANA_AREA 31, 0, 1, 1)]
    let l := fl { s with pbr := { s.pbr with lockMaster := some 0 } } [(R_PBR_LOCK, 10, 3, 2)]
    let h := { s with glb := { s.glb with mode := .halt } }
    let u := { s with pbr := { s.pbr with up := true } }
    let ready (b : Nat) : Bool := s.laneRuns 3 && s.bankHdr b 0 4 != 0 && s.depthOk 3 (s.lane 3).bank b
    (∀ m ∈ [0, 4], ∀ o ∈ [R_TIM_SNAP, R_ALN_FREEMIN, R_PBR_LOCK], MayAccess s m o 4 17) ∧
      (∀ o ∈ [R_RCV_LSWAP 3, R_CAP_GACK 0, R_CAP_GACK 15, R_ANA_RSEL, R_ANA_PSEL], MayAccess s 0 o 4 17) ∧ (s.lane 3).fade = none ∧
      ready 5 = true ∧ ready 0 = true ∧ ready 6 = false ∧ (s.lane 3).bank = 0 ∧ s.CAP_GACK_SEQ 15 = 4 ∧ (s.group 15).newest = 200 ∧
      (s.group 0).state = 6 ∧ (s.group 0).seq + 1 ≤ s.CAP_GSIZE_RECORDS 0 + 4 ∧ s.CAP_GSIZE_RECORDS 0 + 3 < (s.group 0).seq + 1 ∧
      s.CAP_GCFG_OVERWRITE 0 ≠ 1 ∧ s.glb.shed < 3 ∧ s.ddrUsable = true ∧ s.ANA_AREA_ENABLE 0 ≠ 0 ∧ s.ANA_AREA_ENABLE 31 ≠ 0 ∧
      s.ANA_AREA_ENABLE 1 = 0 ∧ s.PBR_LOCK_STATE = 0 ∧ l.PBR_LOCK_STATE = 2 ∧ MayAccess l 0 R_PBR_LOCK 4 17 ∧
      (∀ x ∈ [s, l, h, u], x.requestRoom false 0 = true) ∧ MayAccess h 0 R_PBR_LOCK 4 17 ∧ h.PBR_LOCK_STATE = 0 ∧ h.glb.mode = .halt ∧
      s.glb.mode ≠ .halt ∧ s.pbr.up = false ∧ MayAccess u 4 R_PBR_LOCK 4 17 ∧ u.PBR_LOCK_STATE = 0 ∧ u.live = true ∧ u.pbr.up = true ∧
      (∀ m ∈ [0, 4], s.masterHeld m = false ∧ s.pbr.waitBus = [] ∧ s.pageOf m < 8) ∧
      (∀ w ∈ [0x37, 0x38, 0x47, 0x48], s.granted 17 4 17 (s.pageOf 4 * 0x80000 + 4 * w) 4 = true) := by
  refine ⟨fun m hm o h => may_all hm h (by decide +kernel), fun o h => may_all (ms := [0]) (by decide) h (by decide +kernel), ?_⟩
  and_intros <;> first | decide +kernel | exact may_of (by decide +kernel)
/-- AccessesBesideRegisters: variant E's absent units, reserved offsets of a block, between and behind the pages, a bad size, the partner's
window up with every right, and BAR2 without DDR, with DDR not usable and usable. -/
theorem test_meets_AccessesBesideRegisters :
    let e := { run with glb := { run.glb with variant := .e } }
    let f := { run with glb := { run.glb with page0 := 0x80, page4 := 0x83 }, pbr := { run.pbr with up := true, nextTag := 255, alive := 255 } }
    let n := { run with glb := { run.glb with ddrTrained := false, page0 := 0x60 } }
    let d := fl { run with ddr := [(0x5000, 5)], cfg := { run.cfg with ddrBytes := 2 ^ 30 } } [(R_CAP_WINBASE, 0, 22, 5)]
    (∀ s ∈ [e, f, n, d], s.glb.mode ≠ .reset ∧ s.pbr.nears = [] ∧ s.pbr.waitBus = [] ∧ s.pbr.farLock = none ∧ s.requestRoom false 0 = true) ∧
      (∃ o < 0x110000, o % 4 = 0 ∧ e.absentAt o = true) ∧
      (regRow 0x30 = none ∧ e.absentAt 0x30 = false ∧ ∀ r ∈ [16, 17], ∀ m ∈ [0, 4], e.granted 0 m r 0x30 4 = true) ∧
      pageTarget (n.pageOf 0) = none ∧ n.farPage 0 = false ∧ f.farPage 0 = true ∧ f.farPage 4 = true ∧ f.hasPeer = true ∧ f.live = true ∧
      f.pbr.lockMaster = none ∧ f.pbr.reqQ = [] ∧ f.granted 22 0 17 0 4 = true ∧ f.granted 22 0 16 0 4 = true ∧
      f.granted 22 4 17 (3 * 0x80000 + 0x7FFFC) 4 = true ∧ (∀ i < 8, f.PBR_RANGE_ENABLE i = 0) ∧ e.hasDdr = false ∧ n.hasDdr = true ∧
      n.ddrUsable = false ∧ d.ddrUsable = true ∧ d.ddrRegion 0x5000 = some 0 ∧ d.granted 24 0 16 0x5000 8 = true ∧ d.eccBad = [] ∧
      d.hasCapture = true ∧ e.hasCapture = false := by
  and_intros <;> first | decide +kernel | exact ⟨0x80000, by decide +kernel⟩
/-- RingsAndVectors: eight entries and room for eight, a held completion with room and without, each way a vector goes, one flight that
awaits bytes, a host queue whose entry fills its ring exactly and that has no room. -/
theorem test_meets_RingsAndVectors :
    let c : Cpl := { tag := 1, status := 2, epoch := 3, slot := 4, kind := 0, source := 0, result := 5 }
    let s := fl { run with hst := { run.hst with held := [c], msixPend := [5], msix := [(12, 0)] } }
      [(R_HST_CTL, 0, 2, 3), (R_HST_CRTAIL, 0, 16, 8), (R_HST_KCOAL, 0, 32, 0xFFFFFF), (R_HST_KRTAIL, 0, 16, 511)]
    let full := fl s [(R_HST_KRTAIL, 0, 16, 512)]
    let q := fl { s with egr := { s.egr with hqs := [(0, { entries := entries }), (15, { entries := entries })] },
                         hst := { s.hst with held := [], flights := [{ key := 3, op := 8, cmd := hc [] 1 5, awaited := 5 }] } }
      [(R_HST_HQSIZE 0, 0, 5, 5), (R_EGR_HQCFG 0, 11, 1, 1), (R_HST_HQWR 0, 0, 32, 30), (R_HST_HQSIZE 15, 0, 5, 12), (R_EGR_HQCFG 15, 11, 1, 1)]
    let news := (List.replicate 8 (List.replicate 64 (0 : Byte))).zipIdx.map fun x => parseEntry x.1 ((s.HST_CRHEAD_HEAD + x.2) % 256) none
    s.glb.mode ≠ .reset ∧ s.HST_CTL_CR_EN = 1 ∧ s.hst.fetchStopped = false ∧ s.glb.rebootPending = false ∧
      8 ≤ (s.HST_CRTAIL_TAIL + 65536 - s.HST_CRHEAD_HEAD) % 65536 ∧ s.inFlight + 8 ≤ 256 ∧ (∀ x ∈ s.hst.fetched ++ news, (argMasks x.1 x.2).isSome = true) ∧
      s.hst.held = [c] ∧ s.HST_CTL_KR_EN = 1 ∧ s.unconsumed = 511 ∧ full.unconsumed = 512 ∧ full.hst.held = [c] ∧ s.HST_KCOAL_TIME_US ≠ 0 ∧
      (s.hst.msix.get msixReset 12).getLsbD 0 = false ∧ (run.hst.msix.get msixReset 12).getLsbD 0 = true ∧
      s.HST_CRHEAD_HEAD ≠ s.HST_CRTAIL_TAIL ∧ q.hst.held = [] ∧ q.hst.fetched = [] ∧ q.unconsumed < 512 ∧ q.HST_CTL_KR_EN = 1 ∧
      q.hst.flights.map (·.awaited) = [5] ∧ (∀ h ∈ [0, 15], q.EGR_HQCFG_DMA h = 1 ∧ (q.hq h).entries = entries) ∧ q.eccBad = [] ∧
      2 ^ q.HST_HQSIZE_LOG2 0 < (q.HST_HQWR_WR 0 + 2 ^ 32 - q.HST_HQRD_RD 0) % 2 ^ 32 + (⟨5, [1], [1, 2]⟩ : HqEntry).ringBytes.length ∧
      (q.HST_HQWR_WR 15 + 2 ^ 32 - q.HST_HQRD_RD 15) % 2 ^ 32 + (⟨5, [1], [1, 2]⟩ : HqEntry).ringBytes.length ≤ 2 ^ q.HST_HQSIZE_LOG2 15 := by
  decide +kernel

/-! Power, modes and runs. -/

/-- A flash header with its check. -/
def headed : State :=
  { State.reset with flash := [(0, 0x49), (1, 0x58), (2, 0x44), (3, 0x48), (4, 1), (5, 5), (4092, 0x32), (4093, 0x06), (4094, 0xAA), (4095, 0x08)] }
theorem test_meets_PowerAndReset_header : hdrGood (headed.flashRead 0 4096) = true := by
  have h : strict ((headed.flashRead 0 4096).take 4092) 0xFFFFFFFF ^^^ 0xFFFFFFFF = le (headed.flashRead 0 4096) 4092 4 := by decide +kernel
  have m : le (headed.flashRead 0 4096) 0 4 = 0x48445849 := by decide +kernel
  simp [hdrGood, check_eq, h, m]
/-- PowerAndReset: no supply, RESET with the pin held and free, HALT with a reboot pending, PLINTH with training, lanes and auto-run. -/
theorem test_meets_PowerAndReset :
    let r := inMode .reset
    let aux := { r with glb := { r.glb with auxUp := false } }
    let pin := { r with glb := { r.glb with resetPin := true, auxUp := true } }
    let seq : State := { State.reset with glb := { State.reset.glb with mode := .reset, auxUp := true, resetPin := false } }
    let reboot := { inMode .halt with glb := { (inMode .halt).glb with rebootPending := true } }
    let p := fl { inMode .plinth with cfg := { run.cfg with training := true, autoRun := true } } [(R_ARM_LCFG 2, 0, 1, 1)]
    let l := { p with glb := { p.glb with lanesReady := 0, ddrTrained := false } }
    aux.glb.auxUp = false ∧ r.glb.mode = .reset ∧ run.glb.mode ≠ .reset ∧ pin.glb.resetPin = true ∧ pin.glb.auxUp = true ∧
      reboot.glb.mode = .halt ∧ reboot.glb.rebootPending = true ∧ reboot.hst.held = [] ∧ seq.glb.mode = .reset ∧ seq.glb.auxUp = true ∧
      seq.glb.resetPin = false ∧ seq.pwr.pfail = false ∧ seq.cfg = {} ∧ hdrGood (List.replicate 4096 0xFF) = false ∧
      p.hasDdr = true ∧ p.cfg.training = true ∧ p.cfg.committed = true ∧ (∃ x ∈ l.lanesUsed, x < 14 ∧ l.glb.lanesReady.testBit x = false) ∧
      p.glb.mode = .plinth ∧ p.cfg.autoRun = true ∧ p.runReady = true ∧ p.pwr.required = 0 ∧ l.runReady = false := by
  decide +kernel
/-- Shedding: a level raised by one and by more, held back, a step back from 1 and from 4, self-refresh, a run 8 µs into SHED4. -/
theorem test_meets_Shedding :
    let up := { run with pwr := { run.pwr with rail1 := 1 } }
    let runs : SMap Thread := [(0, { run := some { entry := {}, started := true }, rest := .idle }),
      (40, { run := some { entry := { flow := 5 }, started := true }, rest := .off }),
      (95, { run := some { entry := { flow := 6 }, started := true, ending := some .drop }, rest := .off })]
    let s4 := { inMode .shed with glb := { (inMode .shed).glb with shed := 4 }, chs := { run.chs with threads := runs },
                                  pwr := { run.pwr with required := 3, backStart := some 7, rail0 := 3 } }
    let s1 := fl { inMode .shed with glb := { (inMode .shed).glb with shed := 1, ddrSelfRefresh := true },
                                     pwr := { run.pwr with required := 0, backStart := some 7, rail0 := 4 },
                                     cap := { run.cap with groups := [(0, { state := 7 })] } } [(R_CAP_GCFG 0, 0, 1, 1)]
    let r (s : State) := max (max s.pinLevel (max s.pwr.rail0 (max s.pwr.rail1 s.pwr.rail2))) s.pwr.floor
    r up = 1 ∧ up.pwr.required = 0 ∧ up.glb.mode = .run ∧ up.glb.shed = 0 ∧ r s1 = 4 ∧ s1.glb.mode = .shed ∧
      r { s1 with pwr := { s1.pwr with rail0 := 1 } } = s1.glb.shed ∧ s1.pwr.required ≠ 1 ∧
      r { s4 with pwr := { s4.pwr with rail0 := 1 } } < s4.glb.shed ∧ s4.pwr.backStart ≠ none ∧ s4.pwr.required < s4.glb.shed ∧
      s1.pwr.required < s1.glb.shed ∧ s1.glb.ddrSelfRefresh = true ∧ s1.glb.shed < 3 ∧ s1.live = true ∧ s1.hasDdr = true ∧
      s1.glb.ddrTrained = true ∧ 0 ∈ s1.capGroups ∧ (s1.group 0).state = 7 ∧ run.live = true ∧ (inMode .halt).live = false ∧ s4.chs.blocked = [] ∧
      (s4.thread 40).rest = .off ∧ ((s4.thread 40).run.any fun r => r.ending.isNone) = true ∧ (s4.thread 40).ahead = none ∧
      ((s4.thread 95).run.any fun r => r.ending.isSome) = true ∧ (∀ x ∈ s4.chs.threads, 2 ≤ x.2.reserve) ∧ s1.pwr.backStart ≠ none ∧
      s4.glb.shed ≤ 4 ∧ run.glb.shed ≠ 4 ∧ up.glb.mode ≠ .reset ∧ r up ≠ up.pwr.required ∧ Calm run ∧ Calm s4 := by
  and_intros <;> first | decide +kernel | exact calm_all (by decide +kernel)
/-- FailuresEndInHalt: running, in RESET, in HALT with PFAIL# low and a log of 1023, and in the cycle of a minimum rail. -/
theorem test_meets_FailuresEndInHalt :
    let h := { inMode .halt with pwr := { run.pwr with pfail := true }, log := List.replicate 1023 ⟨0, 0, 0, 0, 0, []⟩ }
    let a := { run with glb := { run.glb with active := true } }
    a.glb.mode ≠ .reset ∧ a.glb.mode ≠ .halt ∧ a.glb.active = true ∧ (inMode .reset).glb.mode = .reset ∧ h.pwr.pfail = true ∧
      h.glb.mode = .halt ∧ h.log.length < 1024 ∧ run.pwr.pfail = false ∧ run.glb.active = false ∧ MayFlush run ∧
      (let m := { inMode .halt with glb := { (inMode .halt).glb with haltCause := 3 }, pwr := { run.pwr with minrailAt := some run.tim.ticks } }
       m.glb.mode = .halt ∧ m.glb.haltCause = 3 ∧ m.pwr.minrailAt = some m.tim.ticks ∧ m.cap.unflushed = 0) := by
  and_intros <;> first | decide +kernel | exact may_flush_of 0 (by decide) (by decide) (by decide +kernel)
def running5 (r : Run) : Thread := { run := some { r with started := true }, rest := .idle }
def flows : State := flow (flow run 5 (key 0 95 2) 2 [(0x26, 2, 33)]) 8191 (key 0 0 2) 1 []
def held5 : Run := { entry := { flow := 5, prio := 2, stamp := 77 }, ctx := flows.ctxCopy 5, sent := [9, 8, 7, 6], issued := 6 }
/-- RunsBegin: the oldest entry of priority 2 for a thread without a run, with one, and with one ahead while all are busy; a run not started;
a gated thread; a timer that is due, has fired, and waits. -/
theorem test_meets_RunsBegin :
    let x := flows.sealEntry { flow := 5, prio := 2, stamp := 77 }
    let s := { flows with chs := { flows.chs with threads := [(0, { rest := .idle })], queues := [(2, [x, { flow := 8191 }])] } }
    let busy := (List.range 96).map fun i => (i, running5 { entry := { flow := 100 + i } })
    let b := { s with chs := { s.chs with threads := busy } }
    let n := { s with chs := { s.chs with threads := [(0, { rest := .idle, run := some { entry := { flow := 8191, timer := some 3 } } })], paused := true } }
    let t := fl flows [(R_CHS_TIMER0 0, 0, 1, 1), (R_CHS_TIMER1 0, 0, 32, 1000), (R_CHS_TIMER0 15, 0, 1, 1), (R_CHS_TIMER1 15, 0, 32, 7),
      (R_CHS_TIMER0 15, 1, 13, 5)]
    let u := { t with chs := { t.chs with timerLast := [(0, some 5000000000000)], queues := [(2, [{ flow := 5, timer := some 15 }])] } }
    Calm s ∧ Calm b ∧ Calm n ∧ (∀ z ∈ [s, b, n], ∀ y ∈ z.chs.threads, 2 ≤ y.2.reserve) ∧ s.goodEntry x = true ∧ b.goodEntry x = true ∧
      s.live = true ∧ s.chs.paused = false ∧ s.glb.shed ≠ 4 ∧ s.eccBad = [] ∧ (s.thread 0).rest ≠ .off ∧
      s.queue 2 = [x, { flow := 8191 }] ∧ (s.CHS_PRIENG_ENGINES 2).testBit 0 = true ∧ s.fState 5 ≠ 4 ∧ (∀ q < 2, s.queue q = []) ∧
      (s.thread 0).run = none ∧ s.anyFree 2 = true ∧ b.anyFree 2 = false ∧ (b.thread 0).run ≠ none ∧ (b.thread 0).ahead = none ∧
      (n.thread 0).run.map (·.started) = some false ∧ n.chs.paused = true ∧ t.CHS_TIMER0_ENABLE 15 = 1 ∧ t.CHS_TIMER1_PERIOD_US 15 ≠ 0 ∧
      1000 * t.CHS_TPHASE_PHASE_US 15 ≤ t.tim.dt ∧ t.chs.timerLast.at none 0 ≠ some 5000000000000 ∧
      u.chs.timerLast.at none 0 = some 5000000000000 ∧ u.timerWaits 15 = true ∧ t.timerWaits 15 = false ∧
      t.fUsed (t.CHS_TIMER0_FLOW 15) = true ∧ t.flowBusy (t.CHS_TIMER0_FLOW 15) = false ∧ t.chs.blocked = [] ∧
      (let w (at_ : Nat) := { t with chs := { t.chs with queues := [(2, [{ flow := 5, stamp := at_ }])] } }
       (w 77).flowBusy 5 = true ∧ (w 77).laterQueued 5 78 = [] ∧ (w 77).timerWaits 15 = false ∧ (w (10 ^ 15)).flowRuns 5 = false ∧
         (w (10 ^ 15)).laterQueued 5 5000000000000 = [(2, { flow := 5, stamp := 10 ^ 15 })]) := by
  and_intros <;> first | decide +kernel | exact calm_all (by decide +kernel)
/-- RunsEnd: a run with each disposition, one at its budget, one below it. -/
theorem test_meets_RunsEnd :
    let thr : SMap Thread := [(0, running5 { held5 with ending := some .drop }), (1, running5 { held5 with ending := some (.host 3) }),
      (2, running5 { held5 with ending := some .forward }), (3, running5 { held5 with ending := some (.hold 12345678900) }),
      (94, running5 { held5 with issued := held5.budget }), (95, running5 { held5 with issued := held5.budget - 1 })]
    let s := { flows with chs := { flows.chs with threads := thr } }
    Calm s ∧ (∀ y ∈ s.chs.threads, 2 ≤ y.2.reserve) ∧ s.chs.blocked = [] ∧ (∀ k ∈ [0, 1, 2, 3, 94, 95], (s.thread k).run.any (fun r => r.entry.flow == 5) = true ∧ (s.thread k).ahead = none) ∧
      thrIdx ⟨23, 2⟩ = 94 ∧ thrIdx ⟨23, 3⟩ = 95 ∧ s.fState 5 ≠ 4 ∧ held5.quar = false ∧ held5.emits = [] ∧ s.live = true ∧
      s.fLaneEn 5 = false ∧ held5.ending = none ∧
      s.fFaultLimit 5 = 0 ∧ s.fFaultRun 5 < 255 := by
  and_intros <;> first | decide +kernel | exact calm_all (by decide +kernel)
/-- A commit at `at_` that waits or, with `go`, is under way. -/
def waiting (s : State) (at_ : Nat) (go : Bool) (back : Bool := false) : State :=
  { s with cfg := { s.cfg with waiting := some { at_ := at_, src := .maquette, rollback := back, cmd := none }, applying := go } }
def booting (s : State) (fallback : Bool) : State :=
  { s with glb := { s.glb with mode := .plinth }, cfg := { s.cfg with booting := some (0, fallback), committed := false } }
/-- CommitsBootAndFlash: a commit before its instant, at it with a run in progress, and under way with a good image and with none; a window
open and expired; a boot from a good slot and from an empty one. -/
theorem test_meets_CommitsBootAndFlash :
    let before := waiting running (6 * 10 ^ 9) false
    let thr : SMap Thread := [(3, running5 { entry := {} }), (4, { run := some { entry := {} }, ahead := some { entry := {} } })]
    let at_ := { waiting running (5 * 10 ^ 9) false with chs := { running.chs with threads := thr } }
    let go := waiting running (5 * 10 ^ 9) true
    let none_ := waiting (maquette []) 0 true
    let fatal := waiting { running with cfg := { running.cfg with hram := [], prevVer := 3, confirmed := false } } (5 * 10 ^ 9) true true
    let past := { retaining with tim := { retaining.tim with ticks := 100 } }
    let gone := { confirming with cfg := { confirming.cfg with retVer := 4, slotB := {} }, tim := { running.tim with ticks := 100 } }
    let flash := booting flashed false
    let empty := booting { flashed with flash := [], cfg := { flashed.cfg with slotA := { state := 1 } } } false
    (∀ s ∈ [before, at_, go, none_, fatal, past, gone, flash, empty], Calm { s with cfg := { s.cfg with waiting := none } }) ∧
      before.tim.dt < 6 * 10 ^ 9 ∧ before.cfg.applying = false ∧ 5 * 10 ^ 9 ≤ at_.tim.dt ∧ at_.cfg.applying = false ∧
      ((at_.thread 3).run.any fun r => r.started) = true ∧ (∀ k r, (at_.thread k).ahead = some r → r.started = false) ∧
      go.cfg.applying = true ∧ go.runsOpen = false ∧ (∃ x, go.loadCheck .maquette = .good x) ∧ none_.runsOpen = false ∧
      (∃ e, none_.loadCheck .maquette = .refused e) ∧ (∃ e, fatal.loadCheck .maquette = .refused e) ∧ fatal.runsOpen = false ∧
      fatal.cfg.prevVer ≠ 0 ∧ fatal.cfg.confirmed = false ∧ fatal.glb.mode = .run ∧
      past.cfg.window = some 100 ∧ 100 ≤ past.tim.ticks ∧ confirming.tim.ticks < 100 ∧ past.cfg.retVer = past.cfg.prevVer ∧
      ({ past with cfg := { past.cfg with window := none } } : State).passes .retained = true ∧ gone.cfg.retVer ≠ gone.cfg.prevVer ∧
      gone.cfg.slotA.state ≠ 2 ∧ gone.cfg.slotB.state ≠ 2 ∧ flash.glb.mode = .plinth ∧ flash.cfg.booting = some (0, false) ∧
      (∃ x, flash.loadCheck (.slot 0) = .good x) ∧ (∃ e, empty.loadCheck (.slot 0) = .refused e) ∧ (empty.slot 0).state = 1 := by
  and_intros
  all_goals try first | decide +kernel | exact ⟨⟨4, 0xFF, 0, 0⟩, by rfl⟩
  · intro s hs
    exact calm_all (List.all_eq_true.mp (by decide +kernel : List.all _ (fun s => isCalm { s with cfg := { s.cfg with waiting := none } }) = true) s hs)
  · intro k r h
    have := at_all (P := fun t : Thread => ∀ r ∈ t.ahead, r.started = false) (d := {}) (by decide)
      [(3, running5 { entry := {} }), (4, { run := some { entry := {} }, ahead := some { entry := {} } })] (by decide) k
    exact this r h
  · let ⟨x, h, _⟩ := good_of (s := waiting running (5 * 10 ^ 9) true) (src := .maquette) (by decide +kernel) (by decide +kernel)
      (by decide +kernel) (by decide +kernel)
    exact ⟨x, h⟩
  · exact passes_of (good_of (by decide +kernel) (by decide +kernel) (by decide +kernel) (by decide +kernel))
  · let ⟨x, h, _⟩ := good_flash (s := booting flashed false)
      (by simp only [booting, flashed, fl, List.foldl, State.setFld, State.setReg]) (by decide +kernel) (by decide +kernel)
    exact ⟨x, h⟩
/-- A FLASH_WRITE into slot 1 at a stage. -/
def jobAt (stage idx : Nat) (erasing : Bool) (crc : Nat := 0) : State :=
  { flashed with
    cfg := { flashed.cfg with job := some { slot := 1, version := 7, src := .maquette, length := 512, crc := crc, stage := stage, idx := idx,
                                            erasing := erasing, cmd := some 5 }, toActivate := none }
    hst := { flashed.hst with flights := [{ key := 5, op := 12, cmd := hc [1, 7] 1 5 }] } }
def jobs : List State :=
  [jobAt 0 0 false, jobAt 1 3 false, jobAt 1 15 false, jobAt 2 0 false, jobAt 2 1 false, jobAt 3 0 false, jobAt 4 0 false, jobAt 4 0 true]
/-- CommitsBootAndFlash, flash operations: each stage; the last sector and the last page; a check that agrees. -/
theorem test_meets_CommitsBootAndFlash_flash :
    let s := jobAt 2 1 false
    let crc := checkOf 2 ((s.flashProgram (0x20000 + 256) (s.srcRead .maquette 256 256)).flashRead 0x20000 508)
    (∀ s ∈ jobs, Calm { s with cfg := { s.cfg with waiting := none } }) ∧
      (∀ s ∈ jobs, s.hst.flights.map (·.key) = [5] ∧ s.hst.held = [] ∧ s.hst.fetched = [] ∧
        s.cfg.toActivate = none ∧ s.HST_CTL_KR_EN = 1 ∧ s.unconsumed < 512 ∧ s.CFG_FLASHGEO_SLOT_64K * 0x10000 = 4096 * 16) ∧
      256 * (0 + 1) < 512 ∧ 512 ≤ 256 * (1 + 1) ∧ (∃ j, (jobAt 2 1 false crc).cfg.job = some j ∧ j.crc = crc) ∧
      flashed.cfg.job = none ∧ running.cfg.runVer ≠ 7 ∧ confirming.cfg.runVer = 7 :=
  by
  and_intros <;> first | decide +kernel | exact ⟨_, rfl, rfl⟩ | exact fun s hs => calm_all (List.all_eq_true.mp
    (by decide +kernel : jobs.all (fun s => isCalm { s with cfg := { s.cfg with waiting := none } }) = true) s hs)

/-! Records, sets and lanes. -/

/-- Flows 5 and 6, members of domain 2; the domain enabled with state `x`, and records for its store. -/
def aligned (x : Dom) (rs : List Rec := []) (back : Nat := 0) : State :=
  fl { flow (flow run 5 (key 0 95 2) 2 [(0x22, 1, 50), (0x58, 4, 1000)]) 6 (key 0 94 2) 2 [(0x22, 1, 50), (0x58, 4, 0xFFFFFFFF)] with
    aln := { run.aln with doms := [(2, x)], inQ := rs }, tim := { run.tim with dt := 5000000000000 - back } } [(R_ALN_DCFG 2, 0, 1, 1)]
def rec5 (f mt : Nat) : Rec := { flow := f, mt := mt, stamp := mt + 5, step := 1, data := [1, 2, 3, 4, 5, 6, 7, 8] }
/-- The same, each record at the input with its trailer. -/
def sealedIn (s : State) : State := { s with aln := { s.aln with inQ := s.aln.inQ.map s.sealRec } }
/-- AlignmentStore: a record off the domain, off the grid, too far ahead by a nanosecond, into a set with its flow and without, and late, each
with its trailer, and one whose trailer is wrong. -/
theorem test_meets_AlignmentStore_records :
    let T := 5000000000000
    let on : Dom := { started := true, cursor := T + 100000000, pend := [{ t := T + 100000000, recs := [rec5 6 (T + 100000000)] }],
                      late := [{ t := T, rel := T + 3, quality := 0, present := [6] }] }
    let s := sealedIn (aligned on [rec5 5 (T + 100000500), rec5 5 T, rec5 5 (T + 50000000), rec5 5 (T + 1100000000)])
    let off := sealedIn (aligned {} [rec5 5 T])
    let there := sealedIn (aligned { on with pend := [{ t := T + 100000000, recs := [rec5 5 (T + 100000000)] }] } [rec5 5 (T + 100000500)])
    Calm s ∧ Calm off ∧ (∀ x ∈ [s, off, there], x.aln.inQ.all x.goodRec = true) ∧ (aligned on [rec5 5 T]).goodRec (rec5 5 T) = false ∧
      ((there.dom 2).setAt (T + 100000000)).any (fun p => p.recs.any fun x => x.flow == 5) = true ∧ T < (s.dom 2).cursor ∧
      (s.dom 2).late.find? (fun e => e.t == T - 20000000) = none ∧ (s.dom 2).setAt (T - 20000000) = none ∧ s.live = true ∧ s.eccBad = [] ∧ s.fDomain 5 = 2 ∧ s.fMember 5 = true ∧ s.ALN_DCFG_ENABLE 2 = 1 ∧ (s.dom 2).started = true ∧
      (off.dom 2).started = false ∧ onGrid (s.rateOf 2) (T + 50000000) = none ∧ (onGrid (s.rateOf 2) (T + 100000500)).any (fun i => gridPt (s.rateOf 2) i == T + 100000000) = true ∧ T + 100000500 ≤ s.tim.dt + 10 ^ 9 ∧ s.fFormat 5 ≠ 4 ∧ s.ALN_DCFG_STREAM_UP 2 ≠ 1 ∧
      ((s.dom 2).setAt (T + 100000000)).any (fun p => p.recs.all fun x => x.flow != 5 && x.flow == 6) = true ∧ s.spillOff = true ∧
      slotsFor 8 ≤ s.freeSlots ∧ s.tim.dt < (s.dom 2).cursor ∧ (onGrid (s.rateOf 2) T).any (fun i => gridPt (s.rateOf 2) i == T) = true ∧
      (s.dom 2).setAt T = none ∧ ((s.dom 2).late.find? (fun e => e.t == T)).any (fun e => e.present == [6]) = true ∧
      (onGrid (s.rateOf 2) (T + 1100000000)).isSome = true ∧ s.tim.dt + 10 ^ 9 < T + 1100000000 := by
  and_intros <;> first | decide +kernel | exact calm_all (by decide +kernel)
/-- AlignmentStore: a set complete at W_min and a nanosecond before, one that waits for a flow up to its deadline and past it, one at W_max, a
set with a record in DDR. -/
theorem test_meets_AlignmentStore_sets :
    let C := 4999900000000
    let dom (l : List Rec) : Dom := { started := true, cursor := C, pend := [{ t := C, recs := l }] }
    let full (b : Nat) := aligned (dom [rec5 5 C, rec5 6 C]) [] b
    let part (b : Nat) := aligned (dom [rec5 6 C]) [] b
    let deep := aligned (dom [{ rec5 5 C with deep := [3] }])
    let gap (s : State) : List Nat := (s.waitedOf 2).filter (fun f => !s.isPresent ((s.dom 2).pend.headD { t := C }) f)
    let dead (s : State) : Nat := min (C + s.fLq 5 + s.margin 2) (C + s.wMax 2)
    Calm (full 0) ∧ Calm (part 0) ∧ Calm deep ∧ (full 0).live = true ∧ gap (full 0) = [] ∧ (full 0).glb.mode ≠ .standby ∧
      (∃ b < 100000000, C + (full b).wMin 2 = (full b).tim.dt ∧ (full (b + 1)).tim.dt < C + (full (b + 1)).wMin 2) ∧
      gridPt ((full 0).rateOf 2) (gridFloor ((full 0).rateOf 2) C + 1) = 4999920000000 ∧ gap (part 0) = [5] ∧ (part 0).fState 5 ≠ 1 ∧
      (part 0).fLq 5 ≠ 0xFFFFFFFF ∧
      (∃ b < 100000000, dead (part b) = (part b).tim.dt ∧ (part b).tim.dt < C + (part b).wMax 2 ∧ (part (b + 1)).tim.dt < dead (part (b + 1))) ∧
      (let w := fl (part 80000001) [(R_ALN_DWMAX 2, 0, 14, 10)]; C + w.wMax 2 ≤ w.tim.dt ∧ w.tim.dt < 4999920000000 ∧ gap w = [5]) ∧
      (∃ p r, (deep.dom 2).pend = [p] ∧ r ∈ p.recs ∧ r.deep ≠ [] ∧ r.deep.length ≤ deep.freeSlots) ∧ ((aligned {}).dom 2).started = false := by
  and_intros <;> first | decide +kernel | exact calm_all (by decide +kernel) | exact ⟨95000000, by decide +kernel⟩ |
    exact ⟨97999000, by decide +kernel⟩ | exact ⟨_, _, rfl, List.mem_singleton_self _, by decide +kernel⟩
/-- Lane 3, awake, on domain 2 with flow 5 of layout `n`, whose RATE and length are given, and lane state `x`, its records with trailers. -/
def laned (n rate len : Nat) (x : Lane) : State :=
  let s := fl (flow run 5 (key 0 95 2) 2 [(0x22, 1, 50), (0x2A, 1, 0x83), (0x2C, 2, n)])
    [(R_RCV_LCFG 3, 0, 1, 1), (R_RCV_LCFG 3, 7, 4, 2), (R_CHS_LAYOUT, 0, 16, 100), (R_CHS_LAYOUT, 16, 10, 2), (R_CHS_PTABLE, 0, 17, 50),
     (R_ALN_DCFG 2, 0, 1, 1)]
  let y := { x with inQ := x.inQ.map fun q => (s.sealRec q.1, q.2) }
  { s with chs := { s.chs with prog := [(150, BitVec.ofNat 32 (rate * 65536 + 1)), (151, BitVec.ofNat 32 (65536 + len))] },
           rcl := { s.rcl with lanes := [(3, y)], woken := [3], coef := SMap.setBytes [] 0 0x100000 (List.replicate 64 4) } }
/-- RateConversionLanes: a record with a wrong trailer, one too far ahead by a nanosecond, of no layout, a wrong length and bad rates, the first input, one a period
later and one at the same time; a fade ended and not, with a swap pending to the same bank and to another. -/
theorem test_meets_RateConversionLanes :
    let T := 5000000000000
    let ahead : Lane := { inQ := [(rec5 5 (T + 1000000001), true)] }
    let now : Lane := { inQ := [(rec5 5 T, false)] }
    let stream (h : Rec) : Stream := { started := true, hist := [h], count := 1, inputs := 1, layout := 1, rate := 50, first := some h }
    let s := laned 1 50 8 now
    let rate (s : State) : Int := sxt 16 (s.layoutWord (s.fLayout 5) 0 / 2 ^ 16 % 2 ^ 16)
    let next := laned 1 50 8 { now with streams := [(5, stream (rec5 5 (T - 20000900)))] }
    let same := laned 1 50 8 { now with streams := [(5, stream (rec5 5 T))] }
    let fade := laned 1 50 8 { fade := some ⟨4, 249940⟩, pending := some (4, T) }
    let ended := laned 1 50 8 { fade := some ⟨4, 249940⟩ }
    let other := laned 1 50 8 { fade := some ⟨4, 249940⟩, pending := some (5, T) }
    let young := laned 1 50 8 { fade := some ⟨4, 249960⟩ }
    let past (s : State) (f : Fade) := gridPt (s.rateOf (s.RCV_LCFG_DOMAIN 3)) (f.gs + s.RCV_LCFG_FADE_N 3) + s.wMax (s.RCV_LCFG_DOMAIN 3)
    (∀ x ∈ [laned 1 50 8 ahead, s, laned 3 50 8 now, laned 1 50 9 now, laned 1 241 8 now, laned 1 65535 8 now, next, same, fade, ended, other, young],
      isCalm x = true ∧ x.live = true ∧ x.eccBad = [] ∧ x.laneRuns 3 = true ∧ x.chs.threads = [] ∧
        (x.lane 3).inQ.all (fun q => x.goodRec q.1) = true) ∧ s.goodRec (rec5 5 T) = false ∧ run.laneRuns 3 = false ∧ 1 ≤ rate s ∧ rate s ≤ 240 ∧
      T + 10 ^ 9 < (rec5 5 (T + 1000000001)).mt ∧ s.fLayout 5 = 1 ∧ s.CHS_LAYOUT_COUNT = 2 ∧ s.layoutWord 1 1 % 65536 = 8 ∧ rate s = 50 ∧
      (laned 1 50 9 now).layoutWord 1 1 % 65536 = 9 ∧ (laned 3 50 8 now).fLayout 5 = 3 ∧ rate (laned 1 241 8 now) = 241 ∧
      rate (laned 1 65535 8 now) = -1 ∧ slotsFor 8 + 1 ≤ s.freeSlots ∧ (s.lane 3).stream 5 = {} ∧ ((next.lane 3).stream 5).started = true ∧
      roundDiv ((T - (T - 20000900) : Int) * 50) (10 ^ 9) = 1 ∧ ((20000900 : Int) - roundDiv (10 ^ 9) 50).natAbs ≤ 1000 ∧ 1 ≤ next.tSpan 3 ∧
      ((same.lane 3).stream 5).hist.map (·.mt) = [T] ∧ ((next.lane 3).stream 5).layout = 1 ∧ ((next.lane 3).stream 5).rate = 50 ∧
      slotsFor 8 + 1 ≤ next.freeSlots ∧ slotsFor 8 + 1 ≤ (same.clearStream 3 5).freeSlots ∧ past fade ⟨4, 249940⟩ ≤ fade.tim.dt ∧ young.tim.dt < past young ⟨4, 249960⟩ ∧
      (young.lane 3).pending = none ∧ (fade.lane 3).pending = some (4, T) ∧ (s.lane 3).fade = none ∧
      past ended ⟨4, 249940⟩ ≤ ended.tim.dt ∧ (ended.lane 3).pending = none ∧ past other ⟨4, 249940⟩ ≤ other.tim.dt ∧
      (other.lane 3).pending = some (5, T) := by
  decide +kernel

/-! Links and the partner. -/

/-- Links with their states, each enabled with the ROLE of its number. -/
def linked (l : List (Nat × Link)) (a : Option Nat := none) : State :=
  fl { run with arm := { run.arm with links := l, active := a } }
    ([(R_ARM_ID, 0, 14, 0x123)] ++ (List.range 8).flatMap fun k => [(R_ARM_LCFG k, 0, 1, 1), (R_ARM_LCFG k, 1, 2, k % 4)])
/-- LinkStates: a link in every state; the preferred uplink up beside another active one, with REVERT and without. -/
theorem test_meets_LinkStates :
    let u : Link := { state := 3, blockLock := true, neighId := 77 }
    let s := linked [(1, { state := 1 }), (2, { state := 2, hellos := 1 }), (3, u), (4, { state := 4 })] (some 3)
    let v := fl (linked [(0, u), (4, u)] (some 0)) [(R_ARM_CFG, 2, 1, 1), (R_ARM_LCFG 4, 7, 1, 1)]
    (s.link 0).state = 0 ∧ (s.link 1).state = 1 ∧ (s.link 2).state = 2 ∧ (s.link 3).state = 3 ∧ (s.link 4).state = 4 ∧
      s.glb.silenced = false ∧ s.arm.active = some 3 ∧ v.prefUplink = some 4 ∧ v.linkUp 4 = true ∧ v.arm.active = some 0 ∧
      v.ARM_CFG_REVERT = 1 ∧ (fl v [(R_ARM_CFG, 2, 1, 0)]).ARM_CFG_REVERT ≠ 1 ∧ v.ARM_CFG_UP_MODE ≠ 1 ∧ s.watches 5 3 = [] := by
  decide +kernel
/-- A HELLO of device `id` with ROLE and version. -/
def helloOf (id role ver : Nat) : TxCell :=
  { cls := 3, active := true, side := false, dest := 16383, source := 6,
    payload := [2, BitVec.ofNat 8 (id / 256), BitVec.ofNat 8 id, 1, 0, BitVec.ofNat 8 role, 0, BitVec.ofNat 8 ver] }
/-- CellsReceivedAndOriginated: cells too short, with a broken header and of a wrong length; a status cell with the SEQ expected, ahead and
behind; HELLOs of each outcome; an exchange, and a fragment of 224 bytes alone in its domain. -/
theorem test_meets_CellsReceivedAndOriginated :
    let c : TxCell := { cls := 6, active := true, side := false, dest := 0x123, source := 6, payload := [5, 2, 9, 1] ++ List.replicate 132 0 }
    let s := linked [(1, { state := 2 }), (3, { state := 3, rxSeq := 65535, neighId := 8 })] (some 3)
    let body : Rec := { flow := 9, mt := 1, stamp := 2, step := 3, data := List.replicate 224 7 }
    let f := { s with arm := { s.arm with frags := [⟨2, 5000000000000, true, false, body⟩] } }
    let cut (n : Nat) := (c.bytes n).take ((c.bytes n).length - 4)
    (∀ x ∈ [s, f], isCalm x = true ∧ x.chs.threads = [] ∧ x.live = true ∧ x.eccBad = [] ∧ x.arm.inbox = []) ∧ s.linkOn 3 = true ∧ (s.link 3).state = 3 ∧
      (s.link 1).state = 2 ∧ (s.link 0).state = 0 ∧ ((c.bytes 7).take 19).length < 20 ∧ headerOk ((0xFF : Byte) :: c.bytes 7) = false ∧
      headerOk ((c.bytes 7) ++ [0]) = true ∧ ((c.bytes 7) ++ [0]).length ≠ 20 + be2 ((c.bytes 7) ++ [0]) 12 ∧ c.payload.length ≤ 240 ∧
      c.dest = s.ARM_ID_DEVICE_ID ∧ (65535 + 65536 - (s.link 3).rxSeq) % 65536 = 0 ∧ (0 + 65536 - (s.link 3).rxSeq) % 65536 = 1 ∧
      32767 < (32767 + 65536 - (s.link 3).rxSeq) % 65536 ∧
      foldCrc c.source c.flow 65535 (cut 0) ≠ foldCrc c.source c.flow 0 (cut 0) ∧
      foldCrc c.source c.flow 65535 (cut 32767) ≠ foldCrc c.source c.flow 32767 (cut 32767) ∧
      (∀ x ∈ [(16382, 1, 1), (16383, 1, 1), (0, 1, 1), (0x123, 1, 1), (9, 3, 1), (9, 1, 2)],
        (helloOf x.1 x.2.1 x.2.2).payload.length = 8 ∧ be2 (helloOf x.1 x.2.1 x.2.2).payload 1 = x.1) ∧
      (∃ r < 4, rolesPair (s.ARM_LCFG_ROLE 1) r = true) ∧ (∃ r < 4, rolesPair (s.ARM_LCFG_ROLE 1) r = false) ∧ (s.link 1).hellos < 2 ∧
      s.linkUp 3 = true ∧ s.linkUp 1 = false ∧ f.arm.frags.filter (fun f => f.dom == 2) = f.arm.frags ∧ f.outOn = true ∧
      f.ARM_CFG_UP_MODE ≠ 1 ∧ f.arm.active = some 3 ∧ (∀ x ∈ f.arm.frags, x.dom ≠ 5) ∧
      (let t := fl (linked [(5, { state := 3, neighId := 9 })]) []; t.ARM_LCFG_ROLE 5 = 1 ∧ t.timeOk 5 = true) := by
  decide +kernel
/-- The device with its ID and TWIN set, and its peer link as `f` has it. -/
def twin (f : Pbr → Pbr) (m : Mode := .run) : State :=
  let s := fl (inMode m) [(R_ARM_ID, 0, 14, 0x123), (R_PBR_CFG, 0, 1, 1)]
  { s with pbr := f s.pbr }
def beatOf (b1 id : Nat) : Packet :=
  { typ := 4, payload := [0x23, BitVec.ofNat 8 b1, 1, 2, 3, 4] ++ beBytes 2 id ++ [9, 9, 9, 9, 1, 2, 3, 4] }
/-- `Fits`, as a test. -/
def isFit (p : Packet) (seq : Nat) : Bool :=
  decide ((p.typ ≤ 6 ∧ p.size ≤ 4 ∧ p.tag < 256 ∧ p.epoch < 65536 ∧ p.status < 256 ∧ p.origin < 16 ∧ p.key < 8192 ∧ p.addr < 2 ^ 21) ∧
    seq < 65536 ∧ payloadOk p = true)
theorem fits_of {p : Packet} {seq : Nat} (h : isFit p seq = true) : Fits p seq := let ⟨h1, h2, h3⟩ := of_decide_eq_true h; ⟨h1, h2, h3⟩
/-- PeerLinkAndHeartbeats: both lanes, one and none; packets in each queue before the ones of lower order; a heartbeat of another device, of
the same side and of the partner, in STANDBY and on an active side B. -/
theorem test_meets_PeerLinkAndHeartbeats :
    let pk (t : Nat) : Packet := { typ := t }
    let s := twin fun b => { b with lanes := 3, up := true, rxSeq := [(4, 9)], mirQ := [pk 3, pk 3], respQ := [pk 2], hbQ := [] }
    let one := twin (fun b => { b with lanes := 1, hbQ := [pk 4], good := 2, missed := 7 }) .standby
    let r := { s with pbr := { s.pbr with mirQ := [], respQ := [pk 2], reqQ := [pk 1] } }
    let q := { s with pbr := { s.pbr with mirQ := [], respQ := [], reqQ := [pk 1], syncQ := [pk 5] } }
    let y := { s with pbr := { s.pbr with mirQ := [], respQ := [], reqQ := [], syncQ := [pk 5] } }
    let a := { s with glb := { s.glb with active := true, side := true } }
    let none_ := twin fun b => { b with lanes := 0 }
    let off := { s with glb := { s.glb with variant := .e } }
    let id (p : Packet) := be2 p.payload 6
    (∀ x ∈ [s, one, r, q, y, a, none_], x.pbr.waitBus = [] ∧ x.peerRuns = true ∧ x.eccBad = [] ∧ x.glb.silenced = false) ∧ off.peerRuns = false ∧
      s.pbr.up = true ∧ one.pbr.up = false ∧ one.pbr.missed = 7 ∧ one.glb.mode = .standby ∧ one.PBR_CFG_TWIN = 1 ∧ y.pbr.hbQ = [] ∧
      Fits (beatOf 0x93 0x123) 9 ∧ Fits (beatOf 0x11 0x123) 9 ∧ Fits (beatOf 0x93 0x124) 9 ∧ s.pbr.rxSeq.at 0 4 = 9 ∧
      id (beatOf 0x93 0x124) ≠ s.ARM_ID_DEVICE_ID ∧ id (beatOf 0x93 0x123) = s.ARM_ID_DEVICE_ID ∧ s.glb.side = false ∧ s.glb.active = false ∧
      (byteAt (beatOf 0x93 0x123).payload 1).testBit 7 = true ∧ (byteAt (beatOf 0x11 0x123).payload 1).testBit 7 = false ∧
      (byteAt (beatOf 0x93 0x123).payload 1).testBit 1 = true ∧ a.glb.side = true ∧ a.glb.active = true ∧
      (byteAt (beatOf 0x11 0x123).payload 1).testBit 0 = true ∧ a.glb.mode = .run := by
  and_intros <;> first | exact fits_of (by decide +kernel) | decide +kernel
/-- TwinTakeoverAndHandover: a claim wait with the line held and free; a standby due by its claim, by PEER_FAULT and by 8 misses, and not by
7; handovers at their boundary and a nanosecond before, in RUN and in SHED; a TAKEOVER in flight. -/
theorem test_meets_TwinTakeoverAndHandover :
    let T := 5000000000000
    let f : Flight := { key := 5, op := 5, cmd := hc [] 1 5 }
    let c := twin fun b => { b with claimFor := 1, claimLine := true, silentAt := some (T + 1) }
    let d := twin fun b => { b with claimFor := 1, silentAt := some T }
    let sb (g : Pbr → Pbr) := ring { twin g .standby with hst := { run.hst with flights := [f] } }
    let w := sb fun b => { b with claimFor := 2 }
    let l := sb fun b => { b with faultLine := true, faultDriven := false, claimLine := true }
    let m (n : Nat) := sb fun b => { b with missed := n, faultDriven := false }
    let h (t : Nat) := twin fun b => { b with handReq := some t }
    c.pbr.claimLine = true ∧ d.pbr.claimLine = false ∧ c.pbr.claimFor = 1 ∧ c.glb.mode = .run ∧ w.glb.mode = .standby ∧ w.PBR_CFG_TWIN = 1 ∧
      w.pbr.claimLine = false ∧ w.pwr.required = 0 ∧ (m 8).pbr.missed = 8 ∧ (m 7).pbr.missed < 8 ∧ (m 7).pbr.claimFor ≠ 2 ∧
      (m 7).pbr.faultLine = false ∧ l.pbr.claimLine = true ∧ l.pbr.claimFor ≠ 2 ∧ c.tim.dt < T + 1 ∧ c.hst.flights = [] ∧ c.pbr.handReq = none ∧
      T ≤ d.tim.dt ∧ (h T).pbr.silentAt = none ∧ T ≤ (h T).tim.dt ∧ (h (T + 1)).tim.dt < T + 1 ∧ (h T).hasPeer = true ∧ (h T).glb.mode = .run ∧
      (let x (n : Mode) := twin (fun b => { b with silentAt := some T, handReq := some T }) n
       (x .shed).glb.mode = .shed ∧ (x .run).glb.mode = .run ∧ (x .run).pbr.silentAt = some T ∧ T ≤ (x .run).tim.dt ∧ (x .run).hst.flights = []) ∧
      (twin (fun b => { b with handReq := some T }) .shed).pbr.handReq = some T ∧
      w.hst.flights = [f] ∧ f.op = 5 ∧ f.sent = false ∧ w.hst.held = [] ∧ w.hst.fetched = [] ∧ w.HST_CTL_KR_EN = 1 ∧ w.unconsumed < 512 ∧
      (let p := twin fun b => { b with faultDriven := false }; p.pbr.faultDriven = false ∧ p.pbr.faultLine = false ∧ p.glb.mode ≠ .reset) := by
  decide +kernel

/-- `Arrives`, as a test. -/
def arrives (s : State) (typ : Nat) (p : Packet) (seq : Nat) : Bool :=
  decide (p.typ = typ ∧ isFit p seq = true ∧ (s.peerRuns = true ∧ s.pbr.lanes ≠ 0) ∧ (s.pbr.up = true ∧ seq = s.pbr.rxSeq.at 0 typ) ∧
    s.pbr.waitBus = [] ∧ s.aln.outbox = [])
theorem arrives_of {s : State} {typ : Nat} {p : Packet} {seq : Nat} (h : arrives s typ p seq = true) :
    Arrives s typ p seq (wire s.ARM_ID_DEVICE_ID p seq) :=
  let ⟨h1, h2, h3, h4, h5⟩ := of_decide_eq_true h
  ⟨h1, fits_of h2, h3, h4, rfl, h5⟩
def near (lock poll wr : Bool) : Near := ⟨9, 0, 0x10030, 4, wr, poll, lock, true⟩
/-- The link up with every type's next SEQ 3. -/
def bridged (n : List Near) (m : Mode := .run) : State :=
  let s := twin (fun b => { b with lanes := 3, up := true, rxSeq := (List.range 7).map fun t => (t, 3), nears := n }) m
  { s with glb := { s.glb with epoch := 1 } }
def pktOf (t a e sz : Nat) (pl : Bytes) (st : Nat := 0) (key : Nat := 0) (tag : Nat := 9) : Packet :=
  { typ := t, addr := a, epoch := e, size := sz, payload := pl, status := st, key := key, tag := tag }
/-- BridgeLocksAndMirrors, requests and responses: reads of the epoch and of another, misaligned, without the right and with it; a write of
TIM_SNAP; responses to a read, a write and a poll, with a status and without; one that nothing waits for. -/
theorem test_meets_BridgeLocksAndMirrors_access :
    let s := bridged [near false false false]
    let deny : State := (List.range 16).foldl (fun s e => s.setReg (R_PRT_AT0 1 e) 0) s
    let full := { s with pbr := { s.pbr with respQ := List.replicate 63 (pktOf 2 0 1 2 (List.replicate 240 7)) } }
    (∀ p ∈ [pktOf 1 R_TIM_SNAP 1 2 [], pktOf 1 R_TIM_SNAP 2 2 [], pktOf 1 (R_TIM_SNAP + 2) 1 2 []], arrives s 1 p 3 = true) ∧
      arrives full 1 (pktOf 1 R_TIM_SNAP 2 2 []) 3 = true ∧ 16384 < sumList (full.pbr.respQ.map Packet.len) + 24 ∧
      sumList (s.pbr.respQ.map Packet.len) + 24 ≤ 16384 ∧ s.glb.mode ≠ .halt ∧
      Arrives s 0 (pktOf 0 R_TIM_SNAP 1 2 [1, 0, 0, 0] 5) 3 (wire s.ARM_ID_DEVICE_ID (pktOf 0 R_TIM_SNAP 1 2 [1, 0, 0, 0] 5) 3) ∧
      s.glb.epoch.toNat = 1 ∧ R_TIM_SNAP / 0x10000 = 1 ∧ s.absentAt R_TIM_SNAP = false ∧
      s.granted 1 1 16 (R_TIM_SNAP % 0x10000) 4 = true ∧ s.granted 1 1 17 (R_TIM_SNAP % 0x10000) 4 = true ∧
      deny.granted 1 1 16 (R_TIM_SNAP % 0x10000) 4 = false ∧ arrives deny 1 (pktOf 1 R_TIM_SNAP 1 2 []) 3 = true ∧
      (regRow R_TIM_SNAP).isSome = true ∧ s.snt.alive1 = none ∧
      (∀ p ∈ [pktOf 2 0 1 2 [7, 0, 0, 0], pktOf 2 0 1 2 [0, 0, 0, 0] 13, pktOf 2 0 1 2 [7, 0, 0, 0] 0 0 8], arrives s 2 p 3 = true) ∧
      arrives (bridged [near false false true]) 2 (pktOf 2 0 1 0 []) 3 = true ∧ (near false true false).left = true ∧ s.glb.silenced = false ∧
      arrives (bridged [near true false false]) 2 (pktOf 2 0 1 0 []) 3 = true ∧
      arrives (bridged [near true false false]) 2 (pktOf 2 0 1 0 [] 12) 3 = true :=
  by and_intros <;> first | decide +kernel | exact arrives_of (by decide +kernel)
/-- BridgeLocksAndMirrors, the rest: lock requests in each state, expiries, mirrors at both ends, the three parts of the copy and its end. -/
theorem test_meets_BridgeLocksAndMirrors_rest :
    let s := fl (bridged []) [(R_PBR_LOCK, 0, 5, 4), (R_PBR_LOCK, 10, 3, 1)]
    let b := flow (bridged [] .standby) 5 (key 0 95 2) 2 []
    let c := { b with aln := { b.aln with doms := [(15, { started := true, cursor := 5 * 10 ^ 9 })] },
                      pbr := { b.pbr with sync := 1, syncParts := some (5, 2, List.replicate 128 0x12) } }
    let e := { b with pbr := { b.pbr with sync := 2, standbyAt := 0, copied := [5] }, tim := { b.tim with ticks := 250000000 } }
    (∀ p ∈ [pktOf 6 0x50000 1 0 [], pktOf 6 0x50000 2 0 [], { pktOf 6 0x50000 1 0 [] with lockEnd := true }], arrives s 6 p 3 = true) ∧
      s.PBR_LOCK_STATE = 1 ∧ s.glb.side = false ∧ (bridged []).PBR_LOCK_STATE ≠ 1 ∧ (fl s [(R_PBR_LOCK, 10, 3, 2)]).PBR_LOCK_STATE = 2 ∧
      (fl s [(R_PBR_LOCK, 10, 3, 3)]).PBR_LOCK_STATE = 3 ∧ s.live = true ∧ s.hasPeer = true ∧ s.peerRuns = true ∧
      (fl s [(R_PBR_LOCK, 10, 3, 3)]).requestRoom false 0 = true ∧ s.requestRoom false 0 = true ∧ s.pbr.up = true ∧
      sumList (s.pbr.respQ.map Packet.len) + 20 ≤ 16384 ∧
      (let x := { s with pbr := { s.pbr with farLock := some 5, reqQ := List.replicate 63 (pktOf 1 0 1 4 (List.replicate 240 7)) } }
       x.pbr.farLock = some 5 ∧ x.requestRoom false 0 = false ∧ x.aln.outbox = [] ∧ x.pbr.waitBus = [] ∧
         arrives x 6 { pktOf 6 0x50000 1 0 [] with lockEnd := true } 3 = true) ∧
      (let v := beNat (beBytes 4 5001 ++ [0, 0, 0, 0]); let t := v / 2 ^ 32 * 10 ^ 9 + v % 2 ^ 30
       arrives c 3 (pktOf 3 0 1 0 (beBytes 4 5001 ++ [0, 0, 0, 0]) 0 15) 3 = true ∧ gridPt (c.rateOf 15) (gridCeil (c.rateOf 15) t) = t) ∧
      (∀ k ∈ [16, 63], arrives s 3 (pktOf 3 0 1 0 [1, 2, 3, 4, 5, 6, 7, 8] 0 k) 3 = true) ∧
      arrives c 3 (pktOf 3 0 1 0 [1, 2, 3, 4, 5, 6, 7, 8] 0 15) 3 = true ∧ (c.dom 15).started = true ∧ (c.dom 15).pend = [] ∧
      c.glb.mode = .standby ∧ arrives c 5 (pktOf 5 0 1 0 (List.replicate 64 7) 0 5) 3 = true ∧
      arrives c 5 (pktOf 5 2 1 0 (List.replicate 8 7) 0 5) 3 = true ∧ c.fUsed 5 = true ∧ (List.replicate 128 (0x12 : Byte)).length = 128 ∧
      arrives c 5 (pktOf 5 3 1 0 (beBytes 4 4294967295 ++ beBytes 8 7500000000) 0 255) 3 = true ∧ e.pbr.sync = 2 ∧ e.flowsUsed = [5] ∧ e.streamsOf 0 = [] ∧ e.pbr.copied = [5] ∧
      (∀ d < 16, e.ALN_DCFG_ENABLE d ≠ 1) ∧ 10 ^ 9 ≤ 4 * (e.tim.ticks - e.pbr.standbyAt) ∧ e.pbr.up = true ∧
      (let a := { s with glb := { s.glb with active := true }, pbr := { s.pbr with peerMode := 4 } }
       a.glb.active = true ∧ a.pbr.up = true ∧ a.pbr.peerMode = 4) := by
  and_intros <;> decide +kernel

/-! Sets, capture and egress. -/

def setAt (t : Nat) (l : List Member := []) (e : Bool := false) : RelSet :=
  { dom := 2, t := t, rel := t + 100000000, cause := 0, partialSet := false, empty := e, spilled := false, lost := false, stepMix := false,
    quality := 4, waited := 3, missing := 2, members := l }
/-- AnalysisOfSets: a watched signal with a sample, without one on its first set, held at GAP_MAX and past it; a condition on the number of
missing members that holds and does not, at PERSIST and CLEAR_N and below. -/
theorem test_meets_AnalysisOfSets :
    let x := setAt 4995000000000
    let an (s : State) (q : RelSet) (l : List (Nat × Nat × Nat × Nat)) := fl { s with ana := { s.ana with queue := [q, q] } } l
    let sig (k : Nat) := [(R_ANA_SIG0 7, 0, 1, 1), (R_ANA_SIG0 7, 1, 4, 2), (R_ANA_SIG0 7, 5, 3, k), (R_ANA_SIG0 7, 16, 8, 1)]
    let with7 (e : SigEst) := let s := an run x (sig 0); { s with ana := { s.ana with sigs := [(7, e)] } }
    let body : Rec := { flow := 5, mt := 3, stamp := 5, step := 1, data := [0, 0, 0x42, 0x48, 0, 0, 0x3F, 0x80, 0, 0, 0, 0] }
    let v0 := fl (flow (an run (setAt 4995000000000 [{ flow := 5, present := true, recs := [body] }]) (sig 3 ++ [(R_ANA_SIG1 7, 0, 13, 5)]))
        5 (key 0 95 2) 2 [(0x2C, 2, 1)]) [(R_CHS_LAYOUT, 0, 16, 100), (R_CHS_LAYOUT, 16, 10, 2), (R_CHS_PTABLE, 0, 17, 50)]
    let v := { v0 with chs := { v0.chs with prog := [(150, 0x00320100), (151, 0x0001000C), (152, 0xF)] } }
    let cond (th n : Nat) (c : TrigCond) :=
      let s := an run x [(R_ANA_TC0 9, 0, 1, 1), (R_ANA_TC0 9, 1, 4, 2), (R_ANA_TC0 9, 5, 4, 7), (R_ANA_TC0 9, 24, 8, n), (R_ANA_TC1 9, 0, 8, n),
        (R_ANA_TC2 9, 0, 32, th)]
      { s with ana := { s.ana with tcs := [(9, c)] } }
    let a := cond 0x3F800000 1 {}
    let b := cond 0x40800000 2 { on := true, clear := 1 }
    let signals (s : State) := s.signals.filter (fun n => s.ANA_SIG0_DOMAIN n == 2)
    let conds (s : State) := s.conditions.filter (fun k => s.ANA_TC0_DOMAIN k == 2)
    let holds (s : State) := tcHolds (s.ANA_TC0_CMP 9) (fNat x.missing) (s.reg (R_ANA_TC2 9)).toNat (s.reg (R_ANA_TC3 9)).toNat
    run.ana.queue = [] ∧ v.ana.queue.length = 2 ∧ v.live = true ∧ v.eccBad = [] ∧ v.ANA_CFG_ISL_EN ≠ 1 ∧ signals v = [7] ∧
      v.ANA_SIG0_BANDS 7 = 0 ∧ v.ANA_SIG0_KIND 7 ≠ 1 ∧ v.ana.prev.at none 2 = none ∧ (v.anaSample (v.ana.queue.headD x) 7).isSome = true ∧
      (with7 {}).anaSample x 7 = none ∧ ((with7 {}).sig 7).last = none ∧ (with7 {}).ANA_SIG0_GAP_MAX 7 = 1 ∧
      ((with7 { last := some 77, held := 1 }).sig 7).held = 1 ∧ signals a = [] ∧ conds a = [9] ∧ a.ANA_TC0_SRC 9 = 7 ∧
      a.ANA_TC1_AND_EN 9 = 0 ∧ holds a = true ∧ holds b = false ∧ a.ANA_TC0_PERSIST 9 = 1 ∧ (a.tc 9).on = false ∧ (b.tc 9).on = true ∧
      b.ANA_TC1_CLEAR_N 9 = 2 ∧ (cond 0x3F800000 2 {}).ANA_TC0_PERSIST 9 = 2 ∧ ((cond 0x40800000 2 { on := true }).tc 9).clear = 0 := by
  decide +kernel
def captured (y : CapGroup) (l : List (Nat × Nat × Nat × Nat) := []) : State :=
  fl { run with cfg := { run.cfg with ddrBytes := 2 ^ 30 }, cap := { run.cap with groups := [(1, y)] } }
    ([(R_CAP_GCFG 1, 0, 1, 1), (R_CAP_GCFG 1, 1, 4, 2), (R_CAP_GWIN 1, 0, 12, 2), (R_CAP_GWIN 1, 16, 12, 2), (R_CAP_GSIZE 1, 16, 16, 3)] ++ l)
/-- CaptureSummariesAndScrubber: sets not ready and ready, an armed group that is named and is not, an open record at its last
sample with the next slot free and not, a group that captures; records ripe and not; summaries; the last word of a store and the one after, and a word of a port the variant lacks. -/
theorem test_meets_CaptureSummariesAndScrubber :
    let x := setAt 4995000000000
    let late : Rec := { flow := 5, mt := 3, stamp := 5, step := 1, data := [1, 2, 3, 4] }
    let set (ready named : Bool) : List Staged := [⟨x, ready, 5, named, some 3, [late]⟩, { set := x }]
    let sample (p : Nat) : Sample := { pos := p, marker := false, t := 4994000000000, rel := 4994100000000 }
    let r : CapRec :=
      { seq := 8, addr := 0x12000, cfg := { dom := 2, pre := 2, post := 1, mb := 128 }, pre := [sample 0, sample 1], preStart := 0,
        trig := sample 2, fired := 1, primary := 0, ext := 0, missed := 0, deadSets := 0, deadNs := 0, summary := 3 }
    let armed (s : List Staged) := captured { state := 2, staged := s, slot := 1, ring := [sample 0], ringPos := 1 }
    let open_ (l : List (Nat × Nat × Nat × Nat)) := captured { state := 3, staged := set true false, slot := 1, seq := 8, opened := some r } l
    let done := captured { state := 4, staged := set true true, flushing := some r, recs := [r] }
    let young := captured { state := 1, recs := [{ r with trig := { sample 2 with rel := 5000000000001 } }] }
    let early := captured { state := 1, recs := [r] }
    let u := { run with cap := { run.cap with unflushed := 1, newest := 9, place := 511 } }
    let s := armed (set true true)
    s.live = true ∧ s.CAP_GCFG_ENABLE 1 = 1 ∧ s.hasCapture = true ∧ (run.group 1).staged = [] ∧ (s.group 1).state = 2 ∧ s.extOf 1 x = 0 ∧
      (s.capCfg 1).pre = 2 ∧ (s.capCfg 1).post = 2 ∧ (s.group 1).ring.length < (s.capCfg 1).pre ∧
      ((armed (set false false)).group 1).staged = set false false ∧ ((armed (set true false)).group 1).staged = set true false ∧
      ((open_ []).group 1).opened = some r ∧ r.cfg.post ≤ r.post.length + 1 ∧
      (open_ []).slotFree 1 9 = true ∧ (open_ [(R_CAP_GCFG 1, 6, 1, 0)]).slotFree 1 9 = false ∧ (done.group 1).state = 4 ∧
      (done.group 1).recs = [r] ∧ early.ddrUsable = true ∧ (early.group 1).flushing = none ∧ (done.group 1).flushing = some r ∧ (captured { recs := [r, r], flushing := some r }).live = true ∧ (early.group 1).recs = [r] ∧
      r.newestRel + early.hLate 2 ≤ early.tim.dt ∧
      young.tim.dt < (({ r with trig := { sample 2 with rel := 5000000000001 } } : CapRec)).newestRel + young.hLate 2 ∧
      run.cap.unflushed = 0 ∧ u.cap.unflushed = 1 ∧ u.hasCapture = true ∧ MayFlush u ∧
      (u.setReg (R_PRT_AT0 21 0) 0).granted 21 6 17 (0x3000 + 32 * 511) 32 = false ∧ (u.setReg (R_PRT_AT0 21 0) 0).cap.unflushed = 1 ∧ u.glb.mode ≠ .reset ∧
      u.flashRead (0x3000 + 32 * 511) 32 = List.replicate 32 0xFF ∧
      (∀ st < 14, s.storeHas st (s.storeWords st - 1) = true ∧ s.storeHas st (s.storeWords st) = false ∧ s.storeWords st < 2 ^ 32) ∧
      s.glb.mode = .run ∧ ({ s with glb := { s.glb with variant := .e } }).storeHas 7 (2 * 32768) = false := by
  and_intros <;> first | decide +kernel | exact may_flush_of 0 (by decide) (by decide) (by decide +kernel)
/-- Stream 3 on domain 2 at port 1, on; `e` is the egress state. -/
def egress (e : Egr) (l : List (Nat × Nat × Nat × Nat) := []) : State :=
  fl { run with snt := { run.snt with np := [(1, { blockLock := true }), (2, { shed := true })] }, egr := e }
    ([(R_EGR_SCFG 3, 0, 1, 1), (R_EGR_SCFG 3, 8, 4, 2), (R_EGR_SCFG 3, 1, 2, 1), (R_EGR_SCFG 3, 5, 3, 2), (R_EGR_SCTL 3, 0, 1, 1),
      (R_SER_PCFG 5, 27, 1, 1)] ++ l)
/-- EgressSchedulersAndStaging: a set that is empty and is not, with TXON and without; jobs at a port with lock and at one shed; cells of two
classes; a builder at work; a gather; a staged sentence that fills the queue; a pin whose width ends. -/
theorem test_meets_EgressSchedulersAndStaging :
    let x := setAt 4995000000000
    let job (p src len : Nat) (j : EgrJob) : PortJob := { prio := p, src := src, len := len, job := j, id := 9 }
    let raw := List.replicate 80 (0x11 : Byte)
    let q := egress { setQ := [x, setAt 4995000000000 [] true] }
    let off := egress { setQ := [x] } [(R_EGR_SCTL 3, 0, 1, 0)]
    let p := egress { ports := [(1, { jobs := [job 1 3 64 (.set x), job 2 3 700 (.raw raw)] }), (2, { jobs := [job 0 3 64 (.raw raw)] })] }
    let made := { job 2 3 64 (.set x) with built := some raw }
    let w := egress { ports := [(1, { jobs := [made] })] }
    let p' := egress { ports := [(1, { jobs := [job 0 300 84 (.raw raw)] })] }
    let cell (c : Nat) : TxCell := { cls := c, active := true, side := false, dest := 5, source := 6, payload := [1, 2, 3] }
    let a := { run with arm := { run.arm with links := [(2, { state := 3, txq := [cell 3, cell 0] })] } }
    let b := egress { builders := [(4, some (1, 9))], ports := [(1, { granted := some (job 2 3 64 (.set x)) })] }
    let b' := egress { builders := [(4, some (1, 9))], ports := [(1, { jobs := [job 2 3 64 (.set x)] })] }
    let bs := List.replicate 64 (7 : Byte)
    let ser (st : Stage) := egress { ports := [(17, { jobs := [job 2 300 64 (.serial [] bs)] })], stages := [(5, st)] }
    let ent (kib : Nat) := egress { ports := [(108, { jobs := [job 2 300 64 (.entry 3 0 5 {} false bs)] })] } [(R_EGR_HQCFG 3, 0, 16, kib)]
    let g := egress { gathers := [{ stream := 3, dom := 2, t := 4995000000000, quality := 3, recs := [] }] }
    let t := egress { stages := [(5, { fifo := [List.replicate 64 7] })], pins := [(0, { asserted := true, holding := true, out := some true })] }
    q.eccBad = [] ∧ q.glb.silenced = false ∧ q.outOn = true ∧ q.PBR_CFG_TWIN ≠ 1 ∧
      (q.streamsOf 0).filter (fun i => q.EGR_SCFG_DOMAIN i == 2) = [3] ∧ q.EGR_SCTL_TXON 3 ≠ 0 ∧ off.EGR_SCTL_TXON 3 = 0 ∧
      (fl q [(R_EGR_SCFG 3, 12, 1, 0)]).EGR_SCFG_EMPTY_SEND 3 = 0 ∧ p.hasNp 1 = true ∧ p.egr.builders = [] ∧ (p.pickJob 1).isSome = true ∧
      (p.pickJob 2).isSome = true ∧ p.portOpen 1 = true ∧ p.portOpen 2 = false ∧ (p.netOut 1).granted = none ∧
      (p'.pickJob 1).isSome = true ∧ (p.pickJob 1).any (fun x => x.1.built.isNone) = true ∧ (w.pickJob 1).any (fun x => x.1 == made) = true ∧
      w.portOpen 1 = true ∧ w.EGR_SCFG_KIND 3 = 0 ∧ ptpPlace (w.datagram 3 raw) = none ∧
      (∀ y ∈ [ser {}, ser { fifo := [List.replicate 4096 1] }], (y.pickJob 17).any (fun z => z.1.job == .serial [] bs) = true ∧ y.outOn = true ∧
        y.bankHeld 0 = false ∧ y.EGR_LVCFG_SLOTS 5 = 0) ∧ ((ser {}).stage 5).held + 64 ≤ 4096 ∧
      4096 < ((ser { fifo := [List.replicate 4096 1] }).stage 5).held + 64 ∧
      (∀ y ∈ [ent 0, ent 1], (y.pickJob 108).any (fun z => z.1.job == .entry 3 0 5 {} false bs) = true) ∧
      ((ent 1).hq 3).used + 32 + 64 ≤ 1024 * (ent 1).EGR_HQCFG_KIB 3 ∧ 1024 * (ent 0).EGR_HQCFG_KIB 3 < ((ent 0).hq 3).used + 32 + 64 ∧
      (run.netOut 12).jobs = [] ∧ q.egr.builds = [] ∧ ptpPlace raw = none ∧ (∃ b < 16, p.freeBuilder 1 = some b) ∧ (a.link 2).state = 3 ∧ (a.nextCell 2).isSome = true ∧
      (run.link 2).state ≠ 3 ∧ (b.egr.builders.at none 4).isSome = true ∧ b.egr.builders.at none 5 = none ∧
      (b.netOut 1).granted = some (job 2 3 64 (.set x)) ∧ b.portOpen 1 = true ∧ b.egr.builds = [] ∧ (b'.netOut 1).granted = none ∧
      (b'.netOut 1).jobs.find? (fun y => y.id == 9) = some (job 2 3 64 (.set x)) ∧ b.EGR_SCFG_KIND 3 = 0 ∧
      ptpPlace (b.datagram 3 (b.buildFrame (job 2 3 64 (.set x))).1.1) = none ∧
      (g.egr.gathers.find? (fun g => g.stream == 3)).isSome = true ∧ g.egr.gathers.find? (fun g => g.stream == 4) = none ∧ g.outOn = true ∧
      g.EGR_SCTL_TXON 3 ≠ 0 ∧ { g with glb := { g.glb with mode := .standby } }.quiet = true ∧ t.txOn 5 = true ∧
      t.stage 5 = { fifo := [List.replicate 64 7] } ∧ (t.port 5).txq.length + 64 ≤ 64 ∧ (t.pin 0).holding = true ∧ (t.pin 0).asserted = true ∧
      (t.pin 1).holding = false ∧ t.ana.request = 0 ∧
      (let u := { t with ana := { t.ana with request := 1, unseen := false } }; u.ana.request / 2 ^ 0 % 2 = 1 ∧ u.ana.unseen = false) := by
  and_intros <;> decide +kernel

/-! The machine as a whole. -/

/-- StepTakesTheFront and CapabilityWord. -/
theorem test_meets_general : run.pending = [] ∧ run.isBad 13 (R_GLB_CAP / 8) = false := by decide
/-- ChiselWordsAndMeaningsAgree: an instruction with its thread and word. -/
theorem test_meets_ChiselWordsAndMeaningsAgree :
    chiselThread (.addi h0 ⟨15, 15, -1⟩ 0) = some h0 ∧ chiselWord (.addi h0 ⟨15, 15, -1⟩ 0) = some 0x07FCFFFF ∧ (0x07FCFFFF : Nat) < 2 ^ 32 := by decide

end Sys2Proof.Tests
end

section
/-! SUPPORT. The statements of 00_scope.md: what the capability word reads, and accesses that reach no register. An access of a near master
that nothing holds is one piece and acts at once (`State.busAccess_of_free`); what remains is the answer of the place it goes to. -/

namespace Sys2Proof.Machine

open Sys2Proof.Safety

/-! The capability word (R4). -/

theorem State.view_glbCap (s : State) (m : Nat) : s.view m R_GLB_CAP = some s.units := rfl

theorem State.units_lt (s : State) : s.units < 2 ^ 32 := by
  unfold State.units
  split <;> decide

theorem State.readWord_glbCap (s : State) (m : Nat) (h : s.isBad 13 (R_GLB_CAP / 8) = false) : s.readWord m R_GLB_CAP = s.units := by
  simp only [State.readWord, h, State.view_glbCap, Bool.false_eq_true, if_false]
  exact Nat.mod_eq_of_lt s.units_lt

/-- Settles O57: GLB_CAP shows `State.units`, which is a constant of the variant. -/
theorem capabilityWord : Obligations.CapabilityWord := by
  intro s m h
  rw [State.readWord_glbCap s m h]
  rfl

/-! Flags and answers. -/

/-- An answer to a read is no output that `silenced` stops. -/
theorem State.emit_readData (s : State) (m : Nat) (bs : Bytes) :
    s.emit (.readData m bs) = { s with out := .readData m bs :: s.out } := by
  simp [State.emit, Output.stopped]

/-- A flag that is set leaves all but registers, pending vectors and outputs. -/
theorem State.flagAt_frame (s : State) (off cnt b : Nat) :
    s.flagAt off cnt b =
      { s with regs := (s.flagAt off cnt b).regs, hst := (s.flagAt off cnt b).hst, out := (s.flagAt off cnt b).out } := by
  obtain ⟨p, o, h⟩ := State.flagAt_shape s off cnt b
  rw [h]

/-- The answer that a refused read gives after it has set a flag. -/
theorem State.flagAt_answered (s : State) {off cnt b : Nat} (m : Nat) (bs : Bytes) (hb : b < 32) (hne : cnt + 4 * b ≠ off) :
    flagged s ((s.flagAt off cnt b).emit (.readData m bs)) off cnt b ∧
      ((s.flagAt off cnt b).emit (.readData m bs)).out.head? = some (.readData m bs) := by
  rw [State.emit_readData]
  exact ⟨State.flagged_flagAt s hb hne, rfl⟩

/-! Accesses that nothing holds. -/

/-- No access of a near master waits, no response is awaited, no block is locked for the partner, and a request finds room. -/
structure BusFree (s : State) : Prop where
  mode : s.glb.mode ≠ .reset
  nears : s.pbr.nears = []
  waitBus : s.pbr.waitBus = []
  farLock : s.pbr.farLock = none
  room : s.requestRoom false 0 = true

theorem nearMaster_eq (jtag : Bool) : nearMaster jtag = masterOf jtag := rfl

theorem masterOf_ne_one (jtag : Bool) : masterOf jtag ≠ 1 := by cases jtag <;> decide

section
variable {s : State} {x : BusOp}

/-- Only the partner's buffer can hold an access while the bus is free. -/
theorem State.busHeld_of_free (h : BusFree s) :
    s.busHeld x = (s.toBridge x && s.hasPeer && s.granted 22 x.master (if x.write then 17 else 16) (s.farOffset x) x.len &&
      s.bridgeFull { x with off := s.farOffset x }) := by
  simp [State.busHeld, State.masterHeld, State.blockHeld, State.lockFull, h.nears, h.farLock, h.room]

/-- An access of one piece that nothing holds acts at once. -/
theorem State.busAccess_of_free (h : BusFree s) (hp : s.pieces x = [x]) (hh : s.busHeld x = false) : s.busAccess x = s.busOne x := by
  simp [State.busAccess, State.busWaits, State.busDo, State.busPieces, h.mode, h.waitBus, hp, hh]

/-- An access that does not go to the partner, and is no longer write, acts at once. -/
theorem State.busAccess_here (h : BusFree s) (hb : s.toBridge x = false) (hl : (x.write && longWrite x.off x.len) = false) :
    s.busAccess x = s.busOne x :=
  State.busAccess_of_free h (by simp [State.pieces, hb, hl]) (by simp [State.busHeld_of_free h, hb])

theorem State.toBridge_below (h : x.off < 0x180000) : s.toBridge x = false := by
  simp [State.toBridge, Nat.not_le.2 h]

theorem State.toBridge_own_page (h : s.farPage x.master = false) : s.toBridge x = false := by
  simp [State.toBridge, h]

/-- A near master's answer to an access: a write answers nothing. -/
def BusRes.answer (r : BusRes) (m : Nat) (write : Bool) : State := if write then r.state else r.state.emit (.readData m r.data)

/-- A word of BAR0 that is not the partner's. -/
theorem State.busAccess_word {m off : Nat} {write : Bool} {data : Bytes} (h : BusFree s) (h4 : off % 4 = 0)
    (hb : s.toBridge ⟨m, off, 4, write, data⟩ = false) :
    s.busAccess ⟨m, off, 4, write, data⟩ = (s.busNow m off 4 write data).answer m write := by
  rw [State.busAccess_here h hb (by simp [longWrite])]
  simp [State.busOne, hb, busSizeOk, h4, BusRes.answer]

end

/-! Absent units (R5). -/

theorem State.busNow_absent (s : State) {m off : Nat} (write : Bool) (data : Bytes) (ho : off < 0x110000) (ha : s.absentAt off = true) :
    s.busNow m off 4 write data = s.absentAccess 4 write := by
  simp [State.busNow, State.blockAccess, ho, wordOffs, ha]

theorem exec_absentUnitAccess {s : State} (jtag : Bool) {off : BitVec 21} (write : Bool) (v : BitVec 32) (h : BusFree s)
    (ho : off.toNat < 0x110000) (h4 : off.toNat % 4 = 0) (ha : s.absentAt off.toNat = true) :
    exec (.absentUnitAccess jtag off write v) s = .next ((s.absentAccess 4 write).answer (masterOf jtag) write) := by
  show execAbsentUnitAccess jtag off write v s = _
  rw [execAbsentUnitAccess, if_pos ⟨ho, ha⟩, nearMaster_eq, State.busAccess_word h h4 (State.toBridge_below (Nat.lt_trans ho (by decide))),
    State.busNow_absent s write _ ho ha]

/-! Reserved offsets and pages (R381). -/

/-- An offset that names nothing for the master: a word with no register in a block that grants the access, the gap behind the blocks, or
the window while its page shows nothing. -/
def NamesNothing (s : State) (m off : Nat) : Prop :=
  (off < 0x110000 ∧ regRow off = none ∧ s.absentAt off = false ∧
      (∀ r ∈ [16, 17], s.granted (off / 0x10000) m r (off % 0x10000) 4 = true)) ∨ (0x110000 ≤ off ∧ off < 0x180000) ∨
    (0x180000 ≤ off ∧ pageTarget (s.pageOf m) = none ∧ s.farPage m = false)

/-- What an access to a reserved word comes to: RESERVED_HIT, and zero for a read. -/
def State.reservedRes (s : State) (write : Bool) : BusRes := ⟨s.glbFlag 1, 0, if write then [] else List.replicate 4 0⟩

section
variable {s : State} {m off : Nat} (write : Bool) (data : Bytes)

theorem State.reservedHit_word (hr : regRow off = none) : s.reservedHit [off] = s.glbFlag 1 := by
  simp [State.reservedHit, State.when, hr]

theorem State.blockAccess_reserved (hm : m ≠ 1) (hr : regRow off = none) (ha : s.absentAt off = false)
    (hg : ∀ r ∈ [16, 17], s.granted (off / 0x10000) m r (off % 0x10000) 4 = true) :
    s.blockAccess m off 4 write data = s.reservedRes write := by
  have hword : wordOffs off 4 = [off] := by simp [wordOffs]
  cases write with
  | true => simp [State.blockAccess, hword, ha, hg 17, hm, State.reservedRes, State.reservedHit_word hr, State.writeWords, hr]
  | false => simp [State.blockAccess, hword, ha, hg 16, State.reservedRes, State.reservedHit_word hr, State.readWords, hr]

theorem State.pageAccess_no_target (x : Nat) (hm : m ≠ 1) (hp : pageTarget (s.pageOf m) = none) :
    s.pageAccess m x 4 write = s.reservedRes write := by
  simp [State.pageAccess, hp, hm, State.reservedRes]

theorem State.busNow_reserved (hm : m ≠ 1) (h : NamesNothing s m off) : s.busNow m off 4 write data = s.reservedRes write := by
  unfold State.busNow
  rcases h with ⟨ho, hr, ha, hg⟩ | ⟨hlo, hhi⟩ | ⟨hlo, hp, -⟩
  · rw [if_pos ho]
    exact State.blockAccess_reserved write data hm hr ha hg
  · simp [Nat.not_lt.2 hlo, hhi, hm, State.reservedRes]
  · rw [if_neg (by omega), if_neg (by omega)]
    exact State.pageAccess_no_target write _ hm hp

end

theorem State.isReserved_of_namesNothing {s : State} {m off : Nat} (h : NamesNothing s m off) : s.isReserved m off = true := by
  unfold State.isReserved
  rcases h with ⟨ho, hr, ha, -⟩ | ⟨hlo, hhi⟩ | ⟨hlo, hp, hf⟩
  · simp [ho, hr, ha]
  · simp [Nat.not_lt.2 hlo, hhi]
  · rw [if_neg (by omega), if_neg (by omega), hp, hf]
    rfl

theorem State.toBridge_of_namesNothing {s : State} {m off : Nat} (h : NamesNothing s m off) (n : Nat) (write : Bool) (data : Bytes) :
    s.toBridge ⟨m, off, n, write, data⟩ = false := by
  rcases h with ⟨ho, -⟩ | ⟨-, hhi⟩ | ⟨-, -, hf⟩
  · exact State.toBridge_below (Nat.lt_trans ho (by decide))
  · exact State.toBridge_below hhi
  · exact State.toBridge_own_page hf

theorem exec_reservedAccess {s : State} {jtag : Bool} {off : BitVec 21} (write : Bool) (v : BitVec 32) (h : BusFree s)
    (h4 : off.toNat % 4 = 0) (hn : NamesNothing s (masterOf jtag) off.toNat) :
    exec (.reservedAccess jtag off write v) s = .next ((s.reservedRes write).answer (masterOf jtag) write) := by
  show execReservedAccess jtag off write v s = _
  rw [execReservedAccess, nearMaster_eq, if_pos (State.isReserved_of_namesNothing hn),
    State.busAccess_word h h4 (State.toBridge_of_namesNothing hn ..), State.busNow_reserved write _ (masterOf_ne_one jtag) hn]

/-! Bad sizes and alignments (R314). -/

/-- What an access of a size that R314 does not allow comes to: BAD_ACCESS, and zeros for a read. -/
def State.badRes (s : State) (n : Nat) : BusRes := ⟨s.hstFlag 5, 0, List.replicate n 0⟩

theorem longWrite_eq_false {off n : Nat} (h : n ≤ 8 ∨ 256 < n ∨ n % 4 ≠ 0 ∨ off % 4 ≠ 0) : longWrite off n = false := by
  simp only [longWrite, decide_eq_false_iff_not]
  omega

/-- A size that R314 does not allow the host reaches the partner only as a burst, which is a longer write. -/
theorem State.toBridge_bad_size {s : State} {x : BusOp} (hm : x.master = 0) (hs : busSizeOk x = false)
    (hl : (x.write && longWrite x.off x.len) = false) : s.toBridge x = false := by
  have hburst : (x.write && x.len == 64 && x.off % 64 == 0) = false := by
    cases hw : x.write with
    | false => rfl
    | true =>
      simp only [hw, longWrite, Bool.true_and, decide_eq_false_iff_not] at hl
      simp only [Bool.true_and, Bool.and_eq_false_iff, beq_eq_false_iff_ne]
      omega
  simp [State.toBridge, hm, hs, hburst]

theorem exec_badAccess {s : State} (bar4 : Bool) {off : BitVec 21} {n : Nat} {write : Bool} (h : BusFree s)
    (hs : ¬((n = 4 ∨ n = 8) ∧ off.toNat % n = 0)) (hl : (write && longWrite off.toNat n) = false) :
    exec (.badAccess bar4 off n write) s = .next ((s.badRes n).answer 0 write) := by
  have hs' : ((n == 4 || n == 8) && off.toNat % n == 0) = false := by simpa using hs
  have hskip : ¬(s.glb.mode = .reset ∨ ((n == 4 || n == 8) && off.toNat % n == 0) = true ∨ (write = true ∧ longWrite off.toNat n = true)) := by
    simp only [hs', h.mode, Bool.false_eq_true, false_or, ← Bool.and_eq_true, hl, not_false_eq_true]
  show execBadAccess bar4 off n write s = _
  rw [execBadAccess, if_neg hskip]
  cases bar4 with
  | true =>
    cases write with
    | false => rfl
    | true =>
      have hl' : longWrite off.toNat n = false := hl
      simp [State.bar4Write, h.mode, hs', hl', BusRes.answer, State.badRes]
  | false =>
    have hsize : ∀ d, busSizeOk ⟨0, off.toNat, n, write, d⟩ = false := fun _ => hs'
    have hb := fun d => State.toBridge_bad_size (s := s) (x := ⟨0, off.toNat, n, write, d⟩) rfl (hsize d) hl
    rw [if_neg Bool.false_ne_true, State.busAccess_here h (hb _) hl]
    simp [State.busOne, hb, hsize, BusRes.answer, State.badRes]

/-! The partner's window (R333 to R335). -/

/-- The link takes a request for the partner now: it is up, no sequence is open and no request waits (R331, R337, R338). -/
structure PeerOpen (s : State) : Prop where
  peer : s.hasPeer = true
  live : s.live = true
  up : s.pbr.up = true
  unlocked : s.pbr.lockMaster = none
  empty : s.pbr.reqQ = []

section
variable {s : State} {x : BusOp}

theorem State.ne_halt_of_live (h : s.live = true) : s.glb.mode ≠ .halt := by
  intro e
  simp [State.live, e] at h

theorem State.bridgeStatus_open (hp : PeerOpen s) (hl : x.len = 4) (ho : x.off % 4 = 0) : s.bridgeStatus x = none := by
  have hsz : sizeOk x.off x.len = true := by simp [sizeOk, hl, ho]
  have hmine : s.lockMine x = false := by simp [State.lockMine, hp.unlocked]
  simp [State.bridgeStatus, hsz, State.ne_halt_of_live hp.live, State.peerRuns, hp.peer, hp.live, hp.up, hmine]

/-- An empty request buffer has room for a word. -/
theorem State.bridgeFull_open (hp : PeerOpen s) (hl : x.len = 4) : s.bridgeFull x = false := by
  have hroom : ∀ posted len, len ≤ 4 → s.requestRoom posted len = true := by
    intro posted len hlen
    cases posted <;> simp [State.requestRoom, hp.empty, sumList] <;> omega
  cases hw : x.write <;> simp [State.bridgeFull, hw, hl, hroom]

/-- An access of a word to the partner's BAR0 that the table grants becomes a request at once. -/
theorem State.busAccess_partner (h : BusFree s) (hp : PeerOpen s) {m off : Nat} {write : Bool} {data : Bytes} (hf : s.farPage m = true)
    (ho : 0x180000 ≤ off) (h4 : off % 4 = 0) (hg : s.granted 22 m (if write then 17 else 16) (s.farOffset ⟨m, off, 4, write, data⟩) 4 = true) :
    s.busAccess ⟨m, off, 4, write, data⟩ = s.bridgeAccess ⟨m, s.farOffset ⟨m, off, 4, write, data⟩, 4, write, data⟩ := by
  have hb : s.toBridge ⟨m, off, 4, write, data⟩ = true := by simp [State.toBridge, ho, hf, busSizeOk, h4]
  rw [State.busAccess_of_free h (by simp [State.pieces, hb]) (by rw [State.busHeld_of_free h, State.bridgeFull_open hp rfl, Bool.and_false])]
  simp [State.busOne, hb, State.bridgeWindow, hp.peer, hg]

/-- With no posting range set no write asks for a response (R335). -/
theorem State.isNonPosted_no_range (h : ∀ i < 8, s.PBR_RANGE_ENABLE i = 0) (a : Nat) : s.isNonPosted a = false := by
  simp only [State.isNonPosted, List.any_eq_false, List.mem_range]
  intro i hi
  simp [h i hi]

/-- A posted write of a word joins the requests with its alive counter (R118, R335). -/
theorem State.bridgeAccess_posted (hp : PeerOpen s) {m far : Nat} (h4 : far % 4 = 0) (data : Bytes) (hr : ∀ i < 8, s.PBR_RANGE_ENABLE i = 0) :
    s.bridgeAccess ⟨m, far, 4, true, data⟩ = { s with pbr := { s.pbr with
      alive := (s.pbr.alive + 1) % 256
      nextTag := (s.pbr.nextTag + 1) % 256
      reqQ := [{ typ := 0, size := 2, tag := s.pbr.nextTag, epoch := s.pbr.peerEpoch, status := (s.pbr.alive + 1) % 256, origin := m,
                 addr := far, payload := data }] } } := by
  have hst : s.bridgeStatus ⟨m, far, 4, true, data⟩ = none := State.bridgeStatus_open hp rfl h4
  simp [State.bridgeAccess, hst, State.isPosted, State.isNonPosted_no_range hr, State.lockMine, hp.unlocked, hp.empty, State.queueRequest,
    State.modPbr, sizeCode]

/-- A read of a word joins the requests, and its master awaits the response (R335). -/
theorem State.bridgeAccess_read (hp : PeerOpen s) {m far : Nat} (h4 : far % 4 = 0) (data : Bytes) (hn : s.pbr.nears = []) :
    s.bridgeAccess ⟨m, far, 4, false, data⟩ = { s with pbr := { s.pbr with
      nextTag := (s.pbr.nextTag + 1) % 256
      reqQ := [{ typ := 1, size := 2, tag := s.pbr.nextTag, epoch := s.pbr.peerEpoch, origin := m, addr := far }]
      nears := [⟨s.pbr.nextTag, m, far, 4, false, false, false, false⟩] } } := by
  have hst : s.bridgeStatus ⟨m, far, 4, false, data⟩ = none := State.bridgeStatus_open hp rfl h4
  simp [State.bridgeAccess, hst, State.isPosted, State.lockMine, hp.unlocked, hp.empty, hn, State.queueRequest, State.modPbr, sizeCode]

theorem State.farOffset_window (s : State) (m x len : Nat) (write : Bool) (data : Bytes) :
    s.farOffset ⟨m, 0x180000 + x, len, write, data⟩ = (s.pageOf m - 0x80) * 0x80000 + x := by
  unfold State.farOffset
  exact congrArg _ (Nat.add_sub_cancel_left ..)

/-- A word of the partner's window is the word at its far offset. -/
theorem exec_bridgeWindowAccess (h : BusFree s) (hp : PeerOpen s) {jtag write : Bool} {x : BitVec 19} {far : Nat} (data : Bytes)
    (hfar : far = (s.pageOf (masterOf jtag) - 0x80) * 0x80000 + x.toNat) (hf : s.farPage (masterOf jtag) = true) (h4 : x.toNat % 4 = 0)
    (hg : s.granted 22 (masterOf jtag) (if write then 17 else 16) far 4 = true) :
    exec (.bridgeWindowAccess jtag x 4 write data) s = .next (s.bridgeAccess ⟨masterOf jtag, far, 4, write, data⟩) := by
  have hoff : s.farOffset ⟨masterOf jtag, 0x180000 + x.toNat, 4, write, data⟩ = far := (State.farOffset_window ..).trans hfar.symm
  show execBridgeWindowAccess jtag x 4 write data s = _
  rw [execBridgeWindowAccess, nearMaster_eq, if_pos hf, State.busAccess_partner h hp hf (by omega) (by omega) (by rw [hoff]; exact hg), hoff]

end

/-! BAR2 (12_event_capture.md R270). -/

/-- Bytes of the DDR one by one. -/
theorem State.map_ddrRead_one (s : State) (a n : Nat) : ((List.range n).map fun i => (s.ddrRead (a + i) 1).headD 0) = s.ddrRead a n := by
  unfold State.ddrRead
  induction n generalizing a with
  | zero => rfl
  | succ n ih =>
    show _ = s.ddr.at 0 a :: s.ddr.bytes 0 (a + 1) n
    rw [List.range_succ_eq_map, ← ih (a + 1)]
    simp [SMap.bytes, Function.comp_def, Nat.add_assoc, Nat.add_comm 1]

section
variable {s : State} {x n : Nat}

theorem State.bar2Read_absent (hd : s.hasDdr = false) : s.bar2Read x n = (s.glbFlag 0).emit (.readData 0 (List.replicate n 0)) := by
  simp [State.bar2Read, hd]

theorem State.bar2Read_unusable (hd : s.hasDdr = true) (hu : s.ddrUsable = false) :
    s.bar2Read x n = (s.capFlag 7).emit (.readData 0 (List.replicate n 0)) := by
  simp [State.bar2Read, hd, hu]

theorem State.hasDdr_of_usable (hu : s.ddrUsable = true) : s.hasDdr = true := by
  simp only [State.ddrUsable, Bool.and_eq_true] at hu
  exact hu.1.1

theorem State.bar2Read_usable {r : Nat} (hu : s.ddrUsable = true) (hr : s.ddrRegion (s.CAP_WINBASE_BASE * 4096 + x) = some r)
    (hg : s.granted (24 + r) 0 16 (s.CAP_WINBASE_BASE * 4096 + x) n = true) (he : s.eccBad = []) :
    s.bar2Read x n = { s with out := .readData 0 (s.ddrRead (s.CAP_WINBASE_BASE * 4096 + x) n) :: s.out } := by
  rw [← State.emit_readData, ← State.map_ddrRead_one]
  simp [State.bar2Read, State.hasDdr_of_usable hu, hu, hr, hg, State.isBad, he]

end

theorem exec_bar2Read {s : State} (x : BitVec 26) (n : Nat) (h : s.glb.mode ≠ .reset) : exec (.bar2Read x n) s = .next (s.bar2Read x.toNat n) := by
  show execBar2Read x n s = _
  rw [execBar2Read, if_neg h]

theorem exec_bar2Write {s : State} (h : s.glb.mode ≠ .reset) : exec .bar2Write s = .next s.bar2Write := by
  show execBar2Write s = _
  rw [execBar2Write, if_neg h]

/-! The statement. -/

/-- Settles O38. With the bus free each access is one piece that acts at once; the clauses are the answers of the places it goes to. -/
theorem accessesBesideRegisters : Obligations.AccessesBesideRegisters := by
  intro s jtag hmode hnears hwait hlock hroom
  have h : BusFree s := ⟨hmode, hnears, hwait, hlock, hroom⟩
  refine ⟨?absent, ?reserved, ?bad, ?partner, ?bar2Read, ?bar2Write, ?bar2Absent⟩
  case absent =>
    intro off v ho h4 ha
    exact ⟨exec_absentUnitAccess jtag true v h ho h4 ha, _, exec_absentUnitAccess jtag false v h ho h4 ha,
      State.flagAt_answered s _ _ (by decide) (by decide)⟩
  case reserved =>
    intro off v h4 hn
    exact ⟨⟨_, exec_reservedAccess true v h h4 hn, State.flagged_flagAt s (by decide) (by decide), State.flagAt_frame s _ _ _⟩,
      _, exec_reservedAccess false v h h4 hn, State.flagAt_answered s _ _ (by decide) (by decide)⟩
  case bad =>
    intro bar4 off n hs
    refine ⟨⟨_, exec_badAccess bar4 h hs rfl, State.flagAt_answered s _ _ (by decide) (by decide)⟩, fun hl => ?_⟩
    exact ⟨_, exec_badAccess bar4 h hs (longWrite_eq_false hl), State.flagged_flagAt s (by decide) (by decide), State.flagAt_frame s _ _ _⟩
  case partner =>
    intro x data far hf h4 _ hpeer hlive hup hmaster hreq
    have hp : PeerOpen s := ⟨hpeer, hlive, hup, hmaster, hreq⟩
    have hfar : far = (s.pageOf (masterOf jtag) - 0x80) * 0x80000 + x.toNat := rfl
    clear_value far
    have hfar4 : far % 4 = 0 := by omega
    refine ⟨fun hg hr => ?_, fun hg => ?_⟩
    · exact (exec_bridgeWindowAccess h hp (write := true) data hfar hf h4 hg).trans (congrArg _ (State.bridgeAccess_posted hp hfar4 data hr))
    · exact (exec_bridgeWindowAccess h hp (write := false) data hfar hf h4 hg).trans (congrArg _ (State.bridgeAccess_read hp hfar4 data hnears))
  case bar2Read =>
    intro x n a
    rw [exec_bar2Read x n hmode]
    refine ⟨fun hd => ⟨_, rfl, ?_⟩, fun hd hu => ⟨_, rfl, ?_⟩, fun r hu hr hg he => ?_⟩
    · rw [State.bar2Read_absent hd]
      exact State.flagAt_answered s _ _ (by decide) (by decide)
    · rw [State.bar2Read_unusable hd hu]
      exact State.flagAt_answered s _ _ (by decide) (by decide)
    · rw [State.bar2Read_usable hu hr hg he]
  case bar2Write =>
    intro hc
    refine ⟨_, (exec_bar2Write hmode).trans (congrArg _ (if_pos hc)), State.flagged_flagAt s (by decide) (by decide), ?_⟩
    rw [State.capFlag, State.flagAt_frame]
  case bar2Absent =>
    intro hc
    exact (exec_bar2Write hmode).trans (congrArg _ (if_neg (by simp [hc])))

end Sys2Proof.Machine
end
